-- ==== Sys2Proof/Word.lean ====
section
/-! DEFINITION. The word types of the model: the byte, and sparse byte storage keyed by an address. -/
namespace Sys2Proof

/-- A byte of memory, of a wire format or of a descriptor (R12). -/
abbrev Byte := BitVec 8

/-- Sparse storage of bytes by address, in the canonical form that `Machine.Memory.wf` states. -/
abbrev Memory := List Host.Cell

end Sys2Proof
end

