-- ==== Sys2Proof/Machine/Types.lean ====
section
/-! DEFINITION. The names and records that the commands carry: packets, messages of the twin and of the fabric, the bytes a
command's descriptor holds, and the results of physical work (a flash read, a calibration) that reach the model from outside. -/
namespace Sys2Proof

/-- The members of the family (R1). -/
inductive Member where
  | ae8802 | ae8804 | ae8808
  deriving DecidableEq, Repr

/-- The SecTAG under which a frame arrived (R596): SCI, association number, and the 64-bit packet number. -/
structure SecTag where
  sci : BitVec 64
  an : Nat
  pn : Nat
  deriving DecidableEq, Repr

/-- How a frame arrived: its port, 2 × die + port, the breakout, and what protected it under MACsec (R598). -/
structure Arrival where
  port : Nat
  brk : Nat
  tag : Option SecTag
  deriving DecidableEq, Repr

/-- A RoCE v2 request packet as the header pipeline reads it (R84, R116). -/
structure Pkt where
  /-- the port it arrives on: 2 × die + port -/
  dport : Nat
  brk : Nat
  /-- what protected it, when it arrived under MACsec (R598) -/
  tag : Option SecTag
  /-- its UDP destination port -/
  udp : Nat
  op : BitVec 8
  dqpn : BitVec 24
  psn : BitVec 24
  rkey : BitVec 32
  va : BitVec 64
  /-- the DMA length of the RETH -/
  len : Nat
  payload : List Byte
  /-- ECN Congestion Experienced -/
  ce : Bool
  /-- it is addressed to the service address that the partition shares with its twin (R394) -/
  svc : Bool
  deriving DecidableEq, Repr

/-- A CM REQ (R91-R99). -/
structure CmReq where
  dport : Nat
  brk : Nat
  /-- what protected it, when it arrived under MACsec (R598) -/
  tag : Option SecTag
  qpn : BitVec 24
  psn : BitVec 24
  /-- the path MTU in bytes -/
  pmtu : Nat
  respRes : Nat
  /-- the transport service: 0 RC -/
  transport : Nat
  ip : BitVec 128
  mac : BitVec 48
  vlan : BitVec 16
  dscp : BitVec 6
  /-- the 92 bytes of private data -/
  priv : List Byte
  /-- the address that it is sent to (R88, R394) -/
  dst : BitVec 128
  deriving DecidableEq, Repr

/-- How a command reached the device: control port 0 or 1 (R716), 2 the sideband mailbox (R703), 3 JTAG (R707). -/
structure CmdRef where
  port : Nat
  tag : BitVec 32
  /-- the descriptor asks for a completion interrupt -/
  irq : Bool
  /-- how many times in a row the NV-store program that the command causes fails to verify (R670) -/
  nvFails : Nat := 0
  deriving DecidableEq, Repr

/-- An error of one byte of a line as it is read: bytes 0-63 are data, 64 + 2c and 65 + 2c the check symbols 8 and 9 of
codeword c (R184). -/
structure RawErr where
  idx : Nat
  xor : Byte
  deriving DecidableEq, Repr

/-- Why a grout entry is written back (R196). -/
inductive GroutWhy where
  | way | age | share | need
  /-- the entry has become uncorrectable (R199) -/
  | uncorrectable
  deriving DecidableEq, Repr

/-- A physical interface that is calibrated (R252). -/
inductive PhyId where
  | dram (die ch rank : Nat)
  | onfi (die ch : Nat)
  | port (port : Nat)
  | mesh (die port : Nat)
  deriving DecidableEq, Repr

/-- Why a calibration run is asked for (R254). -/
inductive CalWhy where
  | temperature | hours | errorRate | entry
  deriving DecidableEq, Repr

/-- What was measured of an interface's errors over 1 s (R254): pre-FEC bit errors in 10^9 bits, uncorrectable FEC codewords, the mean LDPC iterations over 4,096 codewords in
1/16, and the read retries. -/
structure RateMeas where
  ber : Nat
  uncorrectable : Nat
  iterations : Nat
  retries : Nat
  deriving DecidableEq, Repr

/-- The items that interfaces are calibrated on (R252). -/
inductive CalItem where
  | zq | csCaDelay | csCaVref | writeLevel | readGate | readDelay | readVref | writeDelay | writeVref | receiverDfe
  | ctle | dfe | ffe | cdrPhase | txTaps | subEye
  | odt | dqReadDelay | dqReadVref | dqWriteDelay | dqWriteVref
  deriving DecidableEq, Repr

/-- The measurements of one calibration run: for each of the two or three measurements, one number per item, and the eye-quality figures taken at the chosen
setting, the worst bit or lane of each (R253, R257). The figures are, of a DDR5 rank: read width and height, write width and height, CS and CA width; of a SerDes: the widths
of the three sub-eyes, their heights in mV, the bit errors in 10^9 bits over 1 s; of an ONFI channel: width and height. -/
structure CalMeas where
  items : List CalItem
  runs : List (List Int)
  temp : Int
  eye : List Nat
  deriving DecidableEq, Repr

/-- The result of reading one codeword of a flash unit (R341). -/
inductive CwOutcome where
  | ok (bitsCorrected : Nat)
  | retried (steps : Nat) (bitsCorrected : Nat)
  | soft (bitsCorrected : Nat)
  | xorRebuilt
  | failed
  deriving DecidableEq, Repr

/-! ### Messages of the twin and of the arbiter (10) -/

/-- The header of a mirror message that the receiver reads (R411). -/
structure MirHdr where
  path : Nat
  group : Nat
  epoch : Nat
  mseq : Nat
  time : Nat
  deriving DecidableEq, Repr

/-- KIND of an apply entry (R400). -/
inductive ApplyKind where
  | inStep | replica | read | error | ring
  deriving DecidableEq, Repr

/-- An apply entry (R400). -/
structure ApplyEntry where
  kind : ApplyKind
  second : Bool
  cause : Nat
  epoch : Nat
  /-- QPN, or the replica number -/
  id : Nat
  psn : BitVec 24
  /-- bits [51:12] of the page's device address, or the ring index -/
  page : Nat
  deriving DecidableEq, Repr

/-- The body of a REPLICATE message (R412): lines are numbered by the set bits of the mask, in increasing order. -/
structure ReplBody where
  replica : Nat
  brick : Nat
  page : Nat
  mask : BitVec 64
  lines : List (List Byte)
  /-- the key half and cursor of a rekeyed page (R580) -/
  rekey : Option (Nat × Nat)
  deriving DecidableEq, Repr

/-- A QPN with a PSN (R412 PROGRESS). -/
structure QpnPsn where
  qpn : BitVec 24
  psn : BitVec 24
  deriving DecidableEq, Repr

/-- A request packet that the peer has kept (R405). -/
structure Kept where
  pkt : Pkt
  imm : Option (BitVec 32)
  cmp : BitVec 64
  swp : BitVec 64
  deriving DecidableEq, Repr

/-- A QP context as QP_OPEN and QP_STATE carry it (R402, R432). -/
structure QpCtx where
  qpn : BitVec 24
  dest : BitVec 24
  epsn : BitVec 24
  msn : BitVec 24
  tenant : Nat
  pmtu : BitVec 3
  policy : BitVec 2
  ip : BitVec 128
  mac : BitVec 48
  vlan : BitVec 16
  dscp : BitVec 6
  respRes : Nat
  port : Nat
  brk : Nat
  ready : Bool
  deriving DecidableEq, Repr

/-- A window as TABLE_SYNC carries it (R389). -/
structure WinSync where
  index : Nat
  baseVa : Nat
  length : Nat
  gen : Nat
  firstBrick : Nat
  tenant : Nat
  profile : Nat
  rights : BitVec 5
  valid : Bool
  /-- FAR_DEVICE of a far window -/
  far : Option Nat
  /-- its keystone ring: key, virtual address, order, next index -/
  ring : Option (BitVec 32 × Nat × Nat × Nat)
  deriving DecidableEq, Repr

/-- A tenant authorisation as TABLE_SYNC carries it. -/
structure TenSync where
  tenant : Nat
  cls : Nat
  slot : Nat
  token : List Byte
  hostHampers : Bool
  far : List Nat
  deriving DecidableEq, Repr

/-- A key as TABLE_SYNC carries it: sealed under the pair's TWIN_WRAP key (R591). Slots from 65,536 on are the system slots: the check key and the
digest key H. Nothing sealed: the slot is erased. -/
structure KeySync where
  slot : Nat
  half : Nat
  current : Bool
  nonce : List Byte
  sealed : List Byte
  deriving DecidableEq, Repr

/-- The body of a TABLE_SYNC message (R389, R390). -/
structure TableSync where
  windows : List WinSync
  tenants : List TenSync
  keys : List KeySync
  /-- it replaces every table (R389); otherwise its entries are the changes of one command (R390) -/
  whole : Bool
  deriving DecidableEq, Repr

/-- The body of a BRICK_DATA message (R431): pages 4u to 4u + 3 with VALID and key-half bits. -/
structure BrickBody where
  brick : Nat
  unit : Nat
  valid : List Bool
  keyHalf : List Nat
  pages : List (List Byte)
  /-- tracked fields of the brick, with its first unit: placement, key half, cursor, tenant -/
  tracked : Option (Nat × Nat × Nat × Nat)
  deriving DecidableEq, Repr

/-- An arbiter message (R418) as received, with its TAG. -/
structure ArbMsg where
  role : Nat
  group : Nat
  epoch : Nat
  device : Nat
  reason : Nat
  peerState : Nat
  time : Nat
  value : Nat
  tag : List Byte
  deriving DecidableEq, Repr

/-- What a sequenced mirror message carries (R412). -/
inductive MirMsg where
  | apply (es : List ApplyEntry)
  | replicate (r : ReplBody)
  | confirm (upTo : Nat)
  | progress (ps : List QpnPsn)
  | digest (epoch count : Nat) (d : BitVec 128)
  | fetchReq (qpn first : BitVec 24) (count : Nat)
  | fetchData (qpn : BitVec 24) (pkts : List Kept)
  | fetchNone (qpn : BitVec 24)
  | pageReq (brick page : Nat)
  | pageData (brick page : Nat) (data : List Byte)
  | tableSync (body : TableSync)
  | qpOpen (q : QpCtx)
  | qpState (q : QpCtx)
  | brickData (b : BrickBody)
  | resyncEnd
  | fenceNotice (reason : Nat)
  deriving DecidableEq, Repr

/-- What the peer reports of itself at pairing (R388), and the measured mirror round trip in nanoseconds. -/
structure PeerPair where
  issued : Bool
  member : Member
  dies : Nat
  ports : Nat
  breakout : Nat
  brickCount : Nat
  dataTag : Nat
  /-- the payload of its TWIN record -/
  twin : List Byte
  device : Nat
  rtt : Nat
  deriving DecidableEq, Repr

/-! ### Messages of the fabric and of time (11, 12) -/

/-- The header fields of a Penquavin packet that its receiver reads (R439). -/
structure PqHdr where
  /-- the frame that carried it -/
  arr : Arrival
  /-- the UDP destination port and the IP destination address that it came to (R437) -/
  udp : Nat
  ip : BitVec 128
  magicOk : Bool
  cls : Nat
  unaddressed : Bool
  reliable : Bool
  src : Nat
  dst : Nat
  path : Nat
  domain : Nat
  pseq : Nat
  msg : Nat
  off : Nat
  total : Nat
  txTime : Nat
  deriving DecidableEq, Repr

/-- The payload of an ACK packet (R449). -/
structure PqAck where
  path : Nat
  ce : Nat
  cum : Nat
  echo : Nat
  sacks : List (Nat × Nat)
  deriving DecidableEq, Repr

/-- The body of an ANNOUNCE (R463). -/
structure AnnounceBody where
  ident : BitVec 64
  mode : Nat
  joinedAny : Bool
  buildEnd : Nat
  addrs : List (BitVec 128)
  deriving DecidableEq, Repr

/-- A far request (R472). -/
structure FarReq where
  op : Nat
  keystone : Bool
  durability : Nat
  encipher : Bool
  prio : Nat
  tenant : Nat
  qpn : BitVec 24
  sseq : Nat
  addr : Nat
  len : Nat
  imm : BitVec 32
  a : BitVec 64
  b : BitVec 64
  data : List Byte
  deriving DecidableEq, Repr

/-- The answer to a far request (R473). -/
structure FarRes where
  op : Nat
  result : Nat
  qpn : BitVec 24
  sseq : Nat
  original : BitVec 64
  off : Nat
  data : List Byte
  deriving DecidableEq, Repr

/-- The fields of a PTP Announce that the best master choice compares (R482, IEEE 1588). -/
structure PtpAnn where
  domain : Nat
  priority1 : Nat
  clockClass : Nat
  accuracy : Nat
  variance : Nat
  priority2 : Nat
  identity : Nat
  steps : Nat
  /-- the sender's port identity -/
  source : BitVec 80
  arb : Bool
  deriving DecidableEq, Repr

/-! ### Power, image and control (14-18) -/

/-- The activity counters of one block of R647 over an update: how many of each kind of event (R648). -/
structure BlockPower where
  source : Nat
  counts : List Nat
  deriving DecidableEq, Repr

/-- What a failed host memory access was for (R714, R728). -/
inductive DmaWhat where
  | descriptor | command | completion | event
  deriving DecidableEq, Repr

/-- The three rings of a control port. -/
inductive RingId where
  | cmd | cpl | evt
  deriving DecidableEq, Repr

/-- An image as fetched: every byte before the trailer, and the trailer (R535, R539). `sigOk` is the verdict of ML-DSA-87 on the
trailer's signature, a standard outside the spec. -/
structure Image where
  body : List Byte
  digest : List Byte
  ownerKey : List Byte
  sigOk : Bool
  deriving DecidableEq, Repr

/-- A blob that ends in an ML-DSA-87 signature (R602, R606, R613), as fetched, with the verdict on that signature, a standard outside the spec. -/
structure Signed where
  bytes : List Byte
  sigOk : Bool
  deriving DecidableEq, Repr

/-- The fields of TENANT_AUTHORISE (R734). -/
structure TenAuth where
  cls : BitVec 6
  tenant : BitVec 12
  slot : BitVec 16
  hostHampers : Bool
  token : List Byte
  far : List (BitVec 12)
  deriving DecidableEq, Repr

/-- The fields of CREATE_QP (R734). -/
structure NewQp where
  port : BitVec 4
  brk : BitVec 3
  pmtu : BitVec 3
  tenant : BitVec 12
  dscp : BitVec 6
  respRes : BitVec 7
  dest : BitVec 24
  epsn : BitVec 24
  vlan : BitVec 16
  mac : BitVec 48
  ip : BitVec 128
  deriving DecidableEq, Repr

/-- The fields of OPEN_WINDOW (R737). -/
structure WinReq where
  profile : BitVec 4
  rights : BitVec 5
  far : Bool
  tenant : BitVec 12
  farDevice : BitVec 12
  baseVa : BitVec 64
  length : BitVec 64
  firstBrick : BitVec 28
  ringOrder : BitVec 8
  ringKey : BitVec 32
  ringVa : BitVec 64
  deriving DecidableEq, Repr

/-- The fields of MACSEC_KEY (R597). -/
structure MacKey where
  tx : Bool
  sci : BitVec 64
  an : BitVec 2
  ssci : BitVec 32
  salt : List Byte
  pn : BitVec 64
  blob : List Byte
  deriving DecidableEq, Repr

/-- The fields of REGISTER_OBJECT (R273). -/
structure ObjReq where
  tenant : BitVec 12
  first : BitVec 28
  bricks : BitVec 24
  placement : BitVec 2
  courses : BitVec 16
  deriving DecidableEq, Repr

/-- An entry of HAMPER_POST (R309). -/
structure HampEntry where
  object : BitVec 20
  persistent : Bool
  first : BitVec 32
  pages : BitVec 32
  deadline : BitVec 64
  holdMs : BitVec 16
  /-- a reserved bit or byte of the entry is set -/
  bad : Bool
  deriving DecidableEq, Repr

/-- The fields of SCRUB (R213). -/
structure ScrubReq where
  kind : BitVec 2
  scope : BitVec 2
  course : BitVec 4
  first : BitVec 28
  bricks : BitVec 28
  rate : BitVec 6
  /-- SUMMARY_ADDR -/
  addr : BitVec 64
  deriving DecidableEq, Repr

/-- What is found wrong with one line of a frame. -/
structure LineErr where
  course : Nat
  frame : Nat
  page : Nat
  k : Nat
  err : List RawErr
  deriving DecidableEq, Repr

/-- What a post-package repair of one entry met (R218). -/
inductive PprOut where
  | noResource | pass | fail
  deriving DecidableEq, Repr

/-- A frame that carries no more than the QP it is for (R104, R140): how it arrived, and that QP. -/
structure QpFrame where
  arr : Arrival
  qpn : BitVec 24
  deriving DecidableEq, Repr

/-- An ARP request or Neighbour Solicitation (R394): how it arrived, and the partition of its port. -/
structure ArpFrame where
  arr : Arrival
  part : Nat
  deriving DecidableEq, Repr

/-- How a PTP message arrived: its port, and what protected it (R482, R598). -/
structure PtpFrame where
  port : Nat
  tag : Option SecTag
  deriving DecidableEq, Repr

/-- A bank and the rows activated in it since the last row that brought some, in their order (R245, R246). -/
structure BankActs where
  bank : Nat
  acts : List Nat
  deriving DecidableEq, Repr

/-- A trigger of R254 and what was measured with it. -/
structure CalCause where
  why : CalWhy
  meas : RateMeas
  deriving DecidableEq, Repr

/-- How a link's retraining ended, and what the link has replayed since the last one (R31). -/
structure Retrained where
  replays : Nat
  success : Bool
  deriving DecidableEq, Repr

/-- A partition that is restored, and the pages whose current copies cannot be decoded as brick and page (R382). -/
structure RestoreRead where
  part : Nat
  bad : List (Nat × Nat)
  deriving DecidableEq, Repr

/-- A priority of a port and the bytes that stand in its ingress buffer (R462). -/
structure PfcFill where
  prio : Nat
  occupancy : Nat
  deriving DecidableEq, Repr

/-- A value written over BAR0, and what the slots of the command ring hold, should it reach CMD_TAIL (R716, R753). -/
structure RegValue where
  value : BitVec 64
  descs : List (List Byte)
  deriving DecidableEq, Repr

/-- What the cells of the boundary register see: the service pins' and the controller dies' (R709). -/
structure PinSample where
  service : List Bool
  dies : List Bool
  deriving DecidableEq, Repr

/-- A command, and the host address that its result goes to. -/
structure CmdTo where
  cmd : CmdRef
  addr : BitVec 64
  deriving DecidableEq, Repr

/-- A SCRUB's fields, what its reads find wrong, and what FULL's read-back finds (R213). -/
structure ScrubRun where
  req : ScrubReq
  found : List LineErr
  back : List LineErr
  deriving DecidableEq, Repr

/-- Why a control port's link goes down. -/
inductive LinkWhy where
  | link | refclk
  deriving DecidableEq, Repr

/-- A DIMM as BUILD reads it (R228, R229): slot, kind (0 RDIMM, 1 MRDIMM), GiB, ranks, 3DS height, rows, banks, rates. -/
structure DimmInfo where
  die : Nat
  ch : Nat
  slot : Nat
  kind : Nat
  gib : Nat
  part : Nat
  serial : Nat
  ranks : Nat
  height : Nat
  rows : Nat
  banks : Nat
  x4 : Bool
  /-- data and check devices per subchannel (R228) -/
  data : Nat
  check : Nat
  maxRate : Nat
  /-- tRFC1 in nanoseconds (R239) -/
  trfc1 : Nat
  /-- the mode registers report that refresh management is required, and its thresholds (R245) -/
  rfm : Bool
  raaimt : Nat
  raammt : Nat
  /-- ranks whose training failed (R271) -/
  failed : List Nat
  hubOk : Bool
  /-- first temperature read, in 1/16 °C -/
  temp : Int
  deriving DecidableEq, Repr

/-- A NAND LUN as BUILD reads it (R318-R320). -/
structure LunInfo where
  die : Nat
  ch : Nat
  ce : Nat
  lun : Nat
  page : Nat
  spare : Nat
  tprog : Nat
  tr : Nat
  tbers : Nat
  suspend : Bool
  retry : Nat
  blocks : Nat
  ppb : Nat
  uid : Nat
  bad : List Nat
  deriving DecidableEq, Repr

/-- What BUILD reads and measures of a partition (R229, R318, R353). -/
structure BuildRep where
  dimms : List DimmInfo
  luns : List LunInfo
  /-- units programmed per second × 16,384 B on each channel, before the division by k_temp -/
  rates : List ((Nat × Nat) × Nat)
  pMeas : Nat
  portsUp : List (Nat × Nat)
  /-- what the training of each interface has measured (R257, R269) -/
  settings : List (PhyId × CalMeas)
  /-- whether the four patterns pass on the rows that an hPPR was cut short on, in the map's order (R219) -/
  retests : List Bool
  deriving DecidableEq, Repr

/-- Why a step of BUILD fails outright (R529 row, R551). -/
inductive BuildFail where
  | dimm (die ch slot : Nat)
  | geometry (course : Nat)
  | flashUnsupported (die ch ce lun : Nat)
  | flashGeometry
  | flashCapacity
  | metadataFit
  | rateCap
  | step
  deriving DecidableEq, Repr

end Sys2Proof
end

