-- ==== Sys2Proof/Syntax.lean ====
section
/-! DEFINITION. The commands of the block: one constructor per row of the table of operations and events, in its order.
The first operand `t` of every command is the core cycle on which it is decided (log 2). -/
namespace Sys2Proof

/-- The commands of the table. -/
inductive Instr where
  | rdmaWrite (t : Nat) (p : Pkt)
  | rdmaWriteWithImmediate (t : Nat) (p : Pkt) (imm : BitVec 32)
  | rdmaReadRequest (t : Nat) (p : Pkt)
  | compareSwap (t : Nat) (p : Pkt) (cmp : BitVec 64) (swp : BitVec 64)
  | fetchAdd (t : Nat) (p : Pkt) (add : BitVec 64)
  | atomicWrite (t : Nat) (p : Pkt)
  | flush (t : Nat) (p : Pkt) (sel : BitVec 4) (bits : BitVec 2)
  | send (t : Nat) (p : Pkt)
  | cnp (t : Nat) (f : QpFrame)
  | rateIncrease (t : Nat) (qpn : BitVec 24)
  | cmReq (t : Nat) (r : CmReq)
  | cmRtu (t : Nat) (f : QpFrame)
  | cmDreq (t : Nat) (f : QpFrame)
  | cmDrep (t : Nat) (f : QpFrame)
  | repResend (t : Nat) (qpn : BitVec 24)
  | closingTimeout (t : Nat) (qpn : BitVec 24)
  | timewaitExpiry (t : Nat) (qpn : BitVec 24)
  | ackCoalesce (t : Nat) (qpn : BitVec 24)
  | budgetAccept (t : Nat) (part : Nat) (die : Nat)
  | budgetWait (t : Nat) (part : Nat) (die : Nat)
  | budgetRecompute (t : Nat)
  | placement (t : Nat) (part : Nat) (op : Nat)
  | flushResponse (t : Nat) (qpn : BitVec 24) (psn : BitVec 24)
  | qpFlushComplete (t : Nat) (qpn : BitVec 24)
  | serviceMsgDequeue (t : Nat) (part : Nat) (tenant : Nat)
  | statusRecordPlace (t : Nat) (part : Nat)
  | hostHamperPost (t : Nat) (part : Nat) (tenant : Nat)
  | hostHamperCancel (t : Nat) (part : Nat) (tenant : Nat)
  | hostHamperQuery (t : Nat) (part : Nat) (tenant : Nat)
  | linkDown (t : Nat) (port : Nat) (brk : Nat)
  | linkLost (t : Nat) (port : Nat) (brk : Nat)
  | linkUp (t : Nat) (port : Nat) (brk : Nat)
  | revokeForced (t : Nat) (part : Nat) (idx : Nat)
  | correctiveWrite (t : Nat) (part : Nat) (fr : Nat × Nat) (page : Nat) (k : Nat)
  | correctiveReread (t : Nat) (part : Nat) (fr : Nat × Nat) (page : Nat) (k : Nat) (err : List RawErr)
  | pageRebuild (t : Nat) (part : Nat) (brick : Nat) (page : Nat)
  | groutWriteback (t : Nat) (part : Nat) (brick : Nat) (page : Nat) (why : GroutWhy)
  | parityRecompute (t : Nat) (part : Nat) (brick : Nat) (page : Nat)
  | evacuateFrame (t : Nat) (part : Nat) (course : Nat) (frame : Nat)
  | patrolRead (t : Nat) (part : Nat) (course : Nat) (err : List RawErr)
  | refresh (t : Nat) (die : Nat) (ch : Nat) (rank : Nat) (class2 : Bool) (idle : Bool)
  | rfm (t : Nat) (die : Nat) (ch : Nat) (sub : Nat) (rank : Nat) (b : BankActs)
  | rowHammerRfm (t : Nat) (die : Nat) (ch : Nat) (sub : Nat) (rank : Nat) (bank : Nat) (rows : List Nat)
  | activateTableReset (t : Nat)
  | dimmTempSample (t : Nat) (die : Nat) (ch : Nat) (slot : Nat) (temps : List Int) (ok : Bool)
  | thermalExitReturn (t : Nat) (die : Nat) (ch : Nat)
  | sidebandLost (t : Nat) (die : Nat) (ch : Nat) (slot : Nat)
  | pmicStatusRead (t : Nat) (die : Nat) (ch : Nat) (slot : Nat) (status : BitVec 8) (fail : Bool)
  | calibrationTrigger (t : Nat) (phy : PhyId) (why : CalCause)
  | calibrationRun (t : Nat) (phy : PhyId) (run : CalMeas)
  | calibrationWindow (t : Nat) (phy : PhyId)
  | settingStep (t : Nat) (phy : PhyId)
  | meshLinkRetrain (t : Nat) (a : Nat) (port : Nat) (r : Retrained)
  | serviceLink (t : Nat) (die : Nat)
  | flashReadComplete (t : Nat) (part : Nat) (brick : Nat) (unit : Nat) (outs : List CwOutcome)
  | lowMarkEviction (t : Nat) (part : Nat) (course : Nat)
  | eviction (t : Nat) (part : Nat) (brick : Nat)
  | frameRelease (t : Nat) (part : Nat) (brick : Nat)
  | evictionRetry (t : Nat) (part : Nat) (op : Nat)
  | agingSweep (t : Nat) (part : Nat)
  | hamperEntryStart (t : Nat) (part : Nat) (hamper : Nat)
  | hamperDeadline (t : Nat) (part : Nat) (hamper : Nat) (entry : Nat)
  | directWindowRecord (t : Nat) (die : Nat) (part : Nat) (hamper : Nat) (entry : Nat)
  | directWindowClose (t : Nat) (part : Nat) (hamper : Nat) (entry : Nat)
  | holdEnd (t : Nat) (part : Nat) (hamper : Nat) (entry : Nat)
  | writeBack (t : Nat) (part : Nat) (brick : Nat) (unit : Nat) (group : Nat)
  | writeBackComplete (t : Nat) (part : Nat) (brick : Nat) (unit : Nat) (ok : Bool) (group : Nat)
  | relocation (t : Nat) (part : Nat) (group : Nat)
  | readDisturbRelocate (t : Nat) (part : Nat) (ch : Nat) (ce : Nat) (lun : Nat) (block : Nat)
  | wearLevel (t : Nat) (part : Nat) (group : Nat)
  | eraseSuperblock (t : Nat) (part : Nat) (group : Nat) (sb : Nat)
  | objectSectorErase (t : Nat) (sector : Nat)
  | trackedPageWrite (t : Nat) (part : Nat) (table : Nat) (index : Nat)
  | checkpoint (t : Nat) (part : Nat)
  | checkpointFooter (t : Nat) (part : Nat)
  | pwrFailNAssert (t : Nat)
  | pwrFailNDeassert (t : Nat)
  | holdupOkLoss (t : Nat)
  | holdupOkHold (t : Nat)
  | bmcEmergencyDrain (t : Nat)
  | drainSet (t : Nat) (part : Nat)
  | drainDone (t : Nat) (part : Nat)
  | restore (t : Nat) (r : RestoreRead)
  | restoreTwinWait (t : Nat) (part : Nat)
  | restoreExit (t : Nat) (part : Nat)
  | buildDone (t : Nat) (part : Nat) (rep : BuildRep)
  | haltComplete (t : Nat) (part : Nat)
  | restartAfterCooling (t : Nat) (part : Option Nat)
  | powerDown (t : Nat)
  | apply (t : Nat) (part : Nat) (h : MirHdr) (es : List ApplyEntry)
  | replicate (t : Nat) (part : Nat) (h : MirHdr) (r : ReplBody)
  | confirm (t : Nat) (part : Nat) (h : MirHdr) (upTo : Nat)
  | progress (t : Nat) (part : Nat) (h : MirHdr) (ps : List QpnPsn)
  | digest (t : Nat) (part : Nat) (h : MirHdr) (epoch : Nat) (count : Nat) (d : BitVec 128)
  | fetchReq (t : Nat) (part : Nat) (h : MirHdr) (qpn : BitVec 24) (first : BitVec 24) (count : Nat)
  | fetchData (t : Nat) (part : Nat) (h : MirHdr) (qpn : BitVec 24) (pkts : List Kept)
  | fetchNone (t : Nat) (part : Nat) (h : MirHdr) (qpn : BitVec 24)
  | twinFetchTimeout (t : Nat) (qpn : BitVec 24)
  | pageReq (t : Nat) (part : Nat) (h : MirHdr) (brick : Nat) (page : Nat)
  | pageData (t : Nat) (part : Nat) (h : MirHdr) (brick : Nat) (page : Nat) (data : List Byte)
  | tableSync (t : Nat) (part : Nat) (h : MirHdr) (body : TableSync)
  | qpOpen (t : Nat) (part : Nat) (h : MirHdr) (q : QpCtx)
  | qpState (t : Nat) (part : Nat) (h : MirHdr) (q : QpCtx)
  | brickData (t : Nat) (part : Nat) (h : MirHdr) (b : BrickBody)
  | resyncEnd (t : Nat) (part : Nat) (h : MirHdr)
  | heartbeat (t : Nat) (part : Nat) (h : MirHdr)
  | fenceNotice (t : Nat) (part : Nat) (h : MirHdr) (reason : Nat)
  | applySend (t : Nat) (part : Nat)
  | progressSend (t : Nat) (part : Nat)
  | heartbeatSend (t : Nat) (part : Nat) (path : Nat)
  | digestEpoch (t : Nat) (part : Nat)
  | mirrorPathDown (t : Nat) (part : Nat) (path : Nat)
  | mirrorLost (t : Nat) (part : Nat)
  | followerLagging (t : Nat) (part : Nat)
  | changeMapSwap (t : Nat) (part : Nat)
  | leaseRenew (t : Nat) (part : Nat)
  | grant (t : Nat) (part : Nat) (m : ArbMsg)
  | fence (t : Nat) (part : Nat) (m : ArbMsg)
  | renew (t : Nat) (part : Nat) (m : ArbMsg)
  | report (t : Nat) (part : Nat) (m : ArbMsg)
  | release (t : Nat) (part : Nat) (m : ArbMsg)
  | leaseExpiry (t : Nat) (part : Nat) (group : Nat)
  | leaseGuard (t : Nat) (part : Nat)
  | arbiterLost (t : Nat) (part : Nat)
  | releaseResend (t : Nat) (part : Nat)
  | penquavinData (t : Nat) (part : Nat) (die : Nat) (h : PqHdr) (payload : List Byte) (ce : Bool)
  | penquavinAck (t : Nat) (part : Nat) (h : PqHdr) (a : PqAck)
  | resend (t : Nat) (part : Nat) (h : PqHdr)
  | ackSend (t : Nat) (part : Nat) (peer : Nat) (path : Nat)
  | retransmitTimeout (t : Nat) (part : Nat) (peer : Nat) (path : Nat) (pseq : Nat)
  | pathDown (t : Nat) (part : Nat) (peer : Nat) (path : Nat)
  | pathProbe (t : Nat) (part : Nat) (peer : Nat) (path : Nat)
  | reasmTimeout (t : Nat) (part : Nat) (src : Nat) (cls : Nat) (msg : Nat)
  | announceSend (t : Nat) (part : Nat)
  | announce (t : Nat) (part : Nat) (src : Nat) (a : AnnounceBody)
  | peerSilence (t : Nat) (part : Nat) (peer : Nat)
  | joinReq (t : Nat) (part : Nat) (src : Nat) (ident : BitVec 64)
  | joinAccept (t : Nat) (part : Nat) (src : Nat) (ident : BitVec 64)
  | joinRefuse (t : Nat) (part : Nat) (src : Nat) (cause : Nat) (retryAt : Nat)
  | leave (t : Nat) (part : Nat) (src : Nat)
  | joinResend (t : Nat) (part : Nat) (peer : Nat)
  | joinSlot (t : Nat) (part : Nat) (peer : Nat)
  | joinSlotRelease (t : Nat) (part : Nat) (peer : Nat)
  | farRequest (t : Nat) (part : Nat) (src : Nat) (r : FarReq)
  | farResult (t : Nat) (part : Nat) (src : Nat) (r : FarRes)
  | farRetry (t : Nat) (part : Nat) (qpn : BitVec 24) (sseq : Nat)
  | farTimeout (t : Nat) (part : Nat) (qpn : BitVec 24) (sseq : Nat)
  | farClose (t : Nat) (part : Nat) (src : Nat) (r : FarReq)
  | pauseFrame (t : Nat) (port : Nat) (prio : Nat) (quanta : Nat)
  | pauseRepeat (t : Nat) (port : Nat) (f : PfcFill)
  | ptpAnnounce (t : Nat) (f : PtpFrame) (a : PtpAnn)
  | ptpSync (t : Nat) (f : PtpFrame) (src : BitVec 80) (offset : Int) (gm : Nat)
  | ppsEdge (t : Nat) (offset : Int)
  | holdover (t : Nat)
  | timeLost (t : Nat)
  | meterSample (t : Nat) (part : Nat)
  | minuteCut (t : Nat) (part : Nat)
  | hourlyEvidence (t : Nat) (part : Nat)
  | maintenanceSlot (t : Nat) (part : Nat) (slot : Nat) (start : Bool)
  | meterIndexFree (t : Nat) (part : Nat) (idx : Nat)
  | powerRequest (t : Nat)
  | powerWithdraw (t : Nat)
  | latchClear (t : Nat)
  | chainUpIn (t : Nat) (level : Bool)
  | chainDnIn (t : Nat) (level : Bool)
  | chainTimeout (t : Nat)
  | seqPgAssert (t : Nat) (entry : Nat) (raw : Nat) (sns : Nat)
  | pgTimeout (t : Nat) (entry : Nat)
  | stepDelayEnd (t : Nat) (entry : Nat)
  | pllLock (t : Nat) (locked : Bool)
  | seqRetry (t : Nat)
  | railFault (t : Nat) (entry : Nat)
  | railDischarge (t : Nat) (entry : Nat) (sns : Nat)
  | avsRead (t : Nat) (rail : Nat) (mv : Nat) (ma : Nat) (ok : Bool) (fault : Bool)
  | avsLost (t : Nat) (rail : Nat)
  | avsTargetWrite (t : Nat)
  | thermalUpdate (t : Nat) (acts : List BlockPower)
  | diodeRead (t : Nat) (diode : Nat) (temp : Int)
  | ambientWrite (t : Nat) (bytes : List Byte)
  | ambientStale (t : Nat)
  | throttleTick (t : Nat)
  | criticalTrip (t : Nat)
  | refclkLoss (t : Nat)
  | refclkRecover (t : Nat)
  | boot (t : Nat)
  | watchdogRestart (t : Nat)
  | watchdogRecovery (t : Nat)
  | watchdogReset (t : Nat)
  | stewardReset (t : Nat) (die : Nat) (st : Nat)
  | bootOk (t : Nat) (target : Nat)
  | brownOut (t : Nat)
  | brownOutRelease (t : Nat)
  | logSuppressed (t : Nat)
  | logSummary (t : Nat)
  | logSectorErase (t : Nat)
  | entropyFail (t : Nat)
  | unwrapBurst (t : Nat)
  | rekeyUnit (t : Nat) (part : Nat) (slot : Nat)
  | debugExpiry (t : Nat)
  | eapolRx (t : Nat) (port : Nat) (brk : Nat) (frame : List Byte)
  | functionLevelReset (t : Nat) (port : Nat)
  | d3hotEntry (t : Nat) (port : Nat)
  | perstN (t : Nat) (port : Nat) (level : Bool)
  | dmaFail (t : Nat) (port : Nat) (what : DmaWhat) (tag : BitVec 32)
  | ownerLost (t : Nat) (port : Nat)
  | bar2Write (t : Nat) (port : Nat) (off : Nat)
  | registerWrite (t : Nat) (port : Nat) (off : Nat) (size : Nat) (v : RegValue)
  | cfgLockOpen (t : Nat) (port : Nat)
  | cfgLockClose (t : Nat) (port : Nat)
  | intStatusClear (t : Nat) (port : Nat) (mask : BitVec 32)
  | intEnableWrite (t : Nat) (port : Nat) (value : BitVec 32)
  | ringEnable (t : Nat) (port : Nat) (ring : RingId)
  | ringDisable (t : Nat) (port : Nat) (ring : RingId)
  | cmdTailDoorbell (t : Nat) (port : Nat) (tail : Nat) (descs : List (List Byte))
  | cplHeadWrite (t : Nat) (port : Nat) (head : Nat)
  | evtHeadWrite (t : Nat) (port : Nat) (head : Nat)
  | tmuxSelectWrite (t : Nat) (port : Nat) (value : BitVec 32)
  | msixUnmask (t : Nat) (port : Nat) (vec : Nat)
  | completionIntTimer (t : Nat) (port : Nat)
  | commandStart (t : Nat) (port : Nat)
  | commandCompletion (t : Nat) (port : Nat) (tag : BitVec 32)
  | sidebandWrite (t : Nat) (off : Nat) (bytes : List Byte)
  | mailboxGo (t : Nat)
  | fwLoadChunk (t : Nat) (off : BitVec 32) (len : BitVec 32) (flags : BitVec 2) (sigOk : Bool)
  | ibi (t : Nat) (cause : BitVec 8) (accepted : Bool)
  | entdaa (t : Nat) (addr : BitVec 7)
  | setdasa (t : Nat) (addr : BitVec 7)
  | setnewda (t : Nat) (addr : BitVec 7)
  | rstdaa (t : Nat)
  | enec (t : Nat)
  | disec (t : Nat)
  | getpid (t : Nat)
  | getbcr (t : Nat)
  | getdcr (t : Nat)
  | getstatus (t : Nat)
  | getmwl (t : Nat)
  | getmrl (t : Nat)
  | setmwl (t : Nat) (n : BitVec 16)
  | setmrl (t : Nat) (n : BitVec 16)
  | rstact (t : Nat) (whole : Bool)
  | extest (t : Nat)
  | idcode (t : Nat)
  | samplePreload (t : Nat) (cells : PinSample)
  | clamp (t : Nat)
  | highz (t : Nat)
  | extestPulse (t : Nat)
  | extestTrain (t : Nat)
  | jtagStatus (t : Nat)
  | tmuxSel (t : Nat) (v : BitVec 8)
  | jtagDebug (t : Nat) (scope : BitVec 2)
  | bypass (t : Nat) (code : BitVec 8)
  | nop (t : Nat) (c : CmdRef)
  | portClaim (t : Nat) (c : CmdRef) (mask : BitVec 4) (force : Bool)
  | portRelease (t : Nat) (c : CmdRef) (mask : BitVec 4)
  | modeRequest (t : Nat) (c : CmdRef) (part : Nat) (target : BitVec 3)
  | imageLoad (t : Nat) (c : CmdRef) (len : BitVec 32) (flags : BitVec 2) (img : Image)
  | imagePatch (t : Nat) (c : CmdRef) (len : BitVec 32) (img : Image)
  | timeSet (t : Nat) (c : CmdRef) (seconds : BitVec 64)
  | twinPair (t : Nat) (c : CmdRef) (part : Nat) (start : BitVec 2) (peer : PeerPair)
  | twinUnpair (t : Nat) (c : CmdRef) (part : Nat)
  | tenantAuthorise (t : Nat) (c : CmdRef) (part : Nat) (a : TenAuth)
  | tenantWithdraw (t : Nat) (c : CmdRef) (part : Nat) (tenant : BitVec 12)
  | createQp (t : Nat) (c : CmdRef) (part : Nat) (q : NewQp)
  | destroyQp (t : Nat) (c : CmdRef) (part : Nat) (qpn : BitVec 24)
  | openWindow (t : Nat) (c : CmdRef) (part : Nat) (w : WinReq)
  | revokeWindow (t : Nat) (c : CmdRef) (part : Nat) (key : BitVec 32)
  | loadKey (t : Nat) (c : CmdRef) (part : Nat) (slot : BitVec 16) (src : BitVec 1) (blob : List Byte)
  | rekey (t : Nat) (c : CmdRef) (part : Nat) (slot : BitVec 16) (src : BitVec 1) (blob : List Byte) (rate : BitVec 6)
  | eraseKey (t : Nat) (c : CmdRef) (part : Nat) (slot : BitVec 16)
  | importKeySet (t : Nat) (c : CmdRef) (key : List Byte)
  | systemKeySet (t : Nat) (c : CmdRef) (part : Nat) (which : BitVec 1) (blob : List Byte)
  | macsecMode (t : Nat) (c : CmdRef) (port : BitVec 4) (brk : BitVec 3) (mode : BitVec 2) (window : BitVec 32)
  | macsecKey (t : Nat) (c : CmdRef) (port : BitVec 4) (brk : BitVec 3) (k : MacKey)
  | macsecTxSelect (t : Nat) (c : CmdRef) (port : BitVec 4) (brk : BitVec 3) (an : BitVec 2)
  | macsecDelete (t : Nat) (c : CmdRef) (port : BitVec 4) (brk : BitVec 3) (dir : BitVec 1) (sci : BitVec 64) (an : BitVec 2)
  | eapolSend (t : Nat) (c : CmdRef) (port : BitVec 4) (brk : BitVec 3) (len : BitVec 16) (frame : List Byte)
  | attest (t : Nat) (c : CmdTo) (part : Nat) (kind : BitVec 1) (slot : BitVec 12) (nonce : List Byte)
  | attestCert (t : Nat) (c : CmdTo) (len : BitVec 32)
  | debugChallenge (t : Nat) (c : CmdTo)
  | debugUnlock (t : Nat) (c : CmdRef) (tok : Signed)
  | ownerSet (t : Nat) (c : CmdRef) (blob : Signed)
  | fwLoad (t : Nat) (c : CmdRef) (len : BitVec 32) (flags : BitVec 1) (fw : Signed)
  | ropSet (t : Nat) (c : CmdRef) (target : BitVec 2)
  | registerObject (t : Nat) (c : CmdRef) (part : Nat) (o : ObjReq)
  | unregisterObject (t : Nat) (c : CmdRef) (part : Nat) (obj : BitVec 20)
  | promote (t : Nat) (c : CmdRef) (part : Nat) (obj : BitVec 20) (first : BitVec 32) (pages : BitVec 32) (hold : BitVec 16) (flags : BitVec 2)
  | demote (t : Nat) (c : CmdRef) (part : Nat) (obj : BitVec 20) (target : BitVec 2) (evict : Bool)
  | hamperPost (t : Nat) (c : CmdRef) (part : Nat) (tenant : BitVec 12) (count : BitVec 9) (entries : List HampEntry)
  | hamperCancel (t : Nat) (c : CmdRef) (part : Nat) (hamper : BitVec 8)
  | hamperQuery (t : Nat) (c : CmdRef) (part : Nat) (hamper : BitVec 8)
  | scrub (t : Nat) (c : CmdRef) (part : Nat) (q : ScrubRun)
  | pprApply (t : Nat) (c : CmdRef) (part : Nat) (kind : BitVec 1) (mask : BitVec 32) (limit : BitVec 16) (outs : List PprOut)
  | clearLost (t : Nat) (c : CmdRef) (part : Nat) (brick : BitVec 28) (page : BitVec 9) (encipher : Bool)
  | logFreeze (t : Nat) (c : CmdRef) (freeze : Bool)
  | logRead (t : Nat) (c : CmdTo) (first : BitVec 32) (max : BitVec 16)
  | optionSet (t : Nat) (c : CmdRef) (compat : Bool) (addr : BitVec 7)
  | seqTableSet (t : Nat) (c : CmdRef) (tab : List Byte)
  | buildEntry (t : Nat) (steward : Bool)
  | buildFail (t : Nat) (part : Nat) (why : BuildFail) (rep : BuildRep)
  | deviceConflictRetry (t : Nat) (part : Nat) (peer : Nat)
  | joinRetry (t : Nat) (part : Nat) (peer : Nat)
  | arpRequest (t : Nat) (f : ArpFrame) (addr : BitVec 128)
  | pcieLinkDown (t : Nat) (port : Nat) (why : LinkWhy)
  | warmReset (t : Nat) (die : Nat)
  | lunRetired (t : Nat) (part : Nat) (ch : Nat) (ce : Nat) (lun : Nat)
  | holdupOkEdge (t : Nat) (level : Bool)
  | relocationComplete (t : Nat) (part : Nat) (group : Nat) (ok : Bool)
  | blockEraseComplete (t : Nat) (part : Nat) (group : Nat) (sb : Nat) (failed : List Nat)
  deriving DecidableEq, Repr

/-- The core cycle that a command names. -/
def Instr.cycle : Instr → Nat
  | .rdmaWrite t _ => t
  | .rdmaWriteWithImmediate t _ _ => t
  | .rdmaReadRequest t _ => t
  | .compareSwap t _ _ _ => t
  | .fetchAdd t _ _ => t
  | .atomicWrite t _ => t
  | .flush t _ _ _ => t
  | .send t _ => t
  | .cnp t _ => t
  | .rateIncrease t _ => t
  | .cmReq t _ => t
  | .cmRtu t _ => t
  | .cmDreq t _ => t
  | .cmDrep t _ => t
  | .repResend t _ => t
  | .closingTimeout t _ => t
  | .timewaitExpiry t _ => t
  | .ackCoalesce t _ => t
  | .budgetAccept t _ _ => t
  | .budgetWait t _ _ => t
  | .budgetRecompute t => t
  | .placement t _ _ => t
  | .flushResponse t _ _ => t
  | .qpFlushComplete t _ => t
  | .serviceMsgDequeue t _ _ => t
  | .statusRecordPlace t _ => t
  | .hostHamperPost t _ _ => t
  | .hostHamperCancel t _ _ => t
  | .hostHamperQuery t _ _ => t
  | .linkDown t _ _ => t
  | .linkLost t _ _ => t
  | .linkUp t _ _ => t
  | .revokeForced t _ _ => t
  | .correctiveWrite t _ _ _ _ => t
  | .correctiveReread t _ _ _ _ _ => t
  | .pageRebuild t _ _ _ => t
  | .groutWriteback t _ _ _ _ => t
  | .parityRecompute t _ _ _ => t
  | .evacuateFrame t _ _ _ => t
  | .patrolRead t _ _ _ => t
  | .refresh t _ _ _ _ _ => t
  | .rfm t _ _ _ _ _ => t
  | .rowHammerRfm t _ _ _ _ _ _ => t
  | .activateTableReset t => t
  | .dimmTempSample t _ _ _ _ _ => t
  | .thermalExitReturn t _ _ => t
  | .sidebandLost t _ _ _ => t
  | .pmicStatusRead t _ _ _ _ _ => t
  | .calibrationTrigger t _ _ => t
  | .calibrationRun t _ _ => t
  | .calibrationWindow t _ => t
  | .settingStep t _ => t
  | .meshLinkRetrain t _ _ _ => t
  | .serviceLink t _ => t
  | .flashReadComplete t _ _ _ _ => t
  | .lowMarkEviction t _ _ => t
  | .eviction t _ _ => t
  | .frameRelease t _ _ => t
  | .evictionRetry t _ _ => t
  | .agingSweep t _ => t
  | .hamperEntryStart t _ _ => t
  | .hamperDeadline t _ _ _ => t
  | .directWindowRecord t _ _ _ _ => t
  | .directWindowClose t _ _ _ => t
  | .holdEnd t _ _ _ => t
  | .writeBack t _ _ _ _ => t
  | .writeBackComplete t _ _ _ _ _ => t
  | .relocation t _ _ => t
  | .readDisturbRelocate t _ _ _ _ _ => t
  | .wearLevel t _ _ => t
  | .eraseSuperblock t _ _ _ => t
  | .objectSectorErase t _ => t
  | .trackedPageWrite t _ _ _ => t
  | .checkpoint t _ => t
  | .checkpointFooter t _ => t
  | .pwrFailNAssert t => t
  | .pwrFailNDeassert t => t
  | .holdupOkLoss t => t
  | .holdupOkHold t => t
  | .bmcEmergencyDrain t => t
  | .drainSet t _ => t
  | .drainDone t _ => t
  | .restore t _ => t
  | .restoreTwinWait t _ => t
  | .restoreExit t _ => t
  | .buildDone t _ _ => t
  | .haltComplete t _ => t
  | .restartAfterCooling t _ => t
  | .powerDown t => t
  | .apply t _ _ _ => t
  | .replicate t _ _ _ => t
  | .confirm t _ _ _ => t
  | .progress t _ _ _ => t
  | .digest t _ _ _ _ _ => t
  | .fetchReq t _ _ _ _ _ => t
  | .fetchData t _ _ _ _ => t
  | .fetchNone t _ _ _ => t
  | .twinFetchTimeout t _ => t
  | .pageReq t _ _ _ _ => t
  | .pageData t _ _ _ _ _ => t
  | .tableSync t _ _ _ => t
  | .qpOpen t _ _ _ => t
  | .qpState t _ _ _ => t
  | .brickData t _ _ _ => t
  | .resyncEnd t _ _ => t
  | .heartbeat t _ _ => t
  | .fenceNotice t _ _ _ => t
  | .applySend t _ => t
  | .progressSend t _ => t
  | .heartbeatSend t _ _ => t
  | .digestEpoch t _ => t
  | .mirrorPathDown t _ _ => t
  | .mirrorLost t _ => t
  | .followerLagging t _ => t
  | .changeMapSwap t _ => t
  | .leaseRenew t _ => t
  | .grant t _ _ => t
  | .fence t _ _ => t
  | .renew t _ _ => t
  | .report t _ _ => t
  | .release t _ _ => t
  | .leaseExpiry t _ _ => t
  | .leaseGuard t _ => t
  | .arbiterLost t _ => t
  | .releaseResend t _ => t
  | .penquavinData t _ _ _ _ _ => t
  | .penquavinAck t _ _ _ => t
  | .resend t _ _ => t
  | .ackSend t _ _ _ => t
  | .retransmitTimeout t _ _ _ _ => t
  | .pathDown t _ _ _ => t
  | .pathProbe t _ _ _ => t
  | .reasmTimeout t _ _ _ _ => t
  | .announceSend t _ => t
  | .announce t _ _ _ => t
  | .peerSilence t _ _ => t
  | .joinReq t _ _ _ => t
  | .joinAccept t _ _ _ => t
  | .joinRefuse t _ _ _ _ => t
  | .leave t _ _ => t
  | .joinResend t _ _ => t
  | .joinSlot t _ _ => t
  | .joinSlotRelease t _ _ => t
  | .farRequest t _ _ _ => t
  | .farResult t _ _ _ => t
  | .farRetry t _ _ _ => t
  | .farTimeout t _ _ _ => t
  | .farClose t _ _ _ => t
  | .pauseFrame t _ _ _ => t
  | .pauseRepeat t _ _ => t
  | .ptpAnnounce t _ _ => t
  | .ptpSync t _ _ _ _ => t
  | .ppsEdge t _ => t
  | .holdover t => t
  | .timeLost t => t
  | .meterSample t _ => t
  | .minuteCut t _ => t
  | .hourlyEvidence t _ => t
  | .maintenanceSlot t _ _ _ => t
  | .meterIndexFree t _ _ => t
  | .powerRequest t => t
  | .powerWithdraw t => t
  | .latchClear t => t
  | .chainUpIn t _ => t
  | .chainDnIn t _ => t
  | .chainTimeout t => t
  | .seqPgAssert t _ _ _ => t
  | .pgTimeout t _ => t
  | .stepDelayEnd t _ => t
  | .pllLock t _ => t
  | .seqRetry t => t
  | .railFault t _ => t
  | .railDischarge t _ _ => t
  | .avsRead t _ _ _ _ _ => t
  | .avsLost t _ => t
  | .avsTargetWrite t => t
  | .thermalUpdate t _ => t
  | .diodeRead t _ _ => t
  | .ambientWrite t _ => t
  | .ambientStale t => t
  | .throttleTick t => t
  | .criticalTrip t => t
  | .refclkLoss t => t
  | .refclkRecover t => t
  | .boot t => t
  | .watchdogRestart t => t
  | .watchdogRecovery t => t
  | .watchdogReset t => t
  | .stewardReset t _ _ => t
  | .bootOk t _ => t
  | .brownOut t => t
  | .brownOutRelease t => t
  | .logSuppressed t => t
  | .logSummary t => t
  | .logSectorErase t => t
  | .entropyFail t => t
  | .unwrapBurst t => t
  | .rekeyUnit t _ _ => t
  | .debugExpiry t => t
  | .eapolRx t _ _ _ => t
  | .functionLevelReset t _ => t
  | .d3hotEntry t _ => t
  | .perstN t _ _ => t
  | .dmaFail t _ _ _ => t
  | .ownerLost t _ => t
  | .bar2Write t _ _ => t
  | .registerWrite t _ _ _ _ => t
  | .cfgLockOpen t _ => t
  | .cfgLockClose t _ => t
  | .intStatusClear t _ _ => t
  | .intEnableWrite t _ _ => t
  | .ringEnable t _ _ => t
  | .ringDisable t _ _ => t
  | .cmdTailDoorbell t _ _ _ => t
  | .cplHeadWrite t _ _ => t
  | .evtHeadWrite t _ _ => t
  | .tmuxSelectWrite t _ _ => t
  | .msixUnmask t _ _ => t
  | .completionIntTimer t _ => t
  | .commandStart t _ => t
  | .commandCompletion t _ _ => t
  | .sidebandWrite t _ _ => t
  | .mailboxGo t => t
  | .fwLoadChunk t _ _ _ _ => t
  | .ibi t _ _ => t
  | .entdaa t _ => t
  | .setdasa t _ => t
  | .setnewda t _ => t
  | .rstdaa t => t
  | .enec t => t
  | .disec t => t
  | .getpid t => t
  | .getbcr t => t
  | .getdcr t => t
  | .getstatus t => t
  | .getmwl t => t
  | .getmrl t => t
  | .setmwl t _ => t
  | .setmrl t _ => t
  | .rstact t _ => t
  | .extest t => t
  | .idcode t => t
  | .samplePreload t _ => t
  | .clamp t => t
  | .highz t => t
  | .extestPulse t => t
  | .extestTrain t => t
  | .jtagStatus t => t
  | .tmuxSel t _ => t
  | .jtagDebug t _ => t
  | .bypass t _ => t
  | .nop t _ => t
  | .portClaim t _ _ _ => t
  | .portRelease t _ _ => t
  | .modeRequest t _ _ _ => t
  | .imageLoad t _ _ _ _ => t
  | .imagePatch t _ _ _ => t
  | .timeSet t _ _ => t
  | .twinPair t _ _ _ _ => t
  | .twinUnpair t _ _ => t
  | .tenantAuthorise t _ _ _ => t
  | .tenantWithdraw t _ _ _ => t
  | .createQp t _ _ _ => t
  | .destroyQp t _ _ _ => t
  | .openWindow t _ _ _ => t
  | .revokeWindow t _ _ _ => t
  | .loadKey t _ _ _ _ _ => t
  | .rekey t _ _ _ _ _ _ => t
  | .eraseKey t _ _ _ => t
  | .importKeySet t _ _ => t
  | .systemKeySet t _ _ _ _ => t
  | .macsecMode t _ _ _ _ _ => t
  | .macsecKey t _ _ _ _ => t
  | .macsecTxSelect t _ _ _ _ => t
  | .macsecDelete t _ _ _ _ _ _ => t
  | .eapolSend t _ _ _ _ _ => t
  | .attest t _ _ _ _ _ => t
  | .attestCert t _ _ => t
  | .debugChallenge t _ => t
  | .debugUnlock t _ _ => t
  | .ownerSet t _ _ => t
  | .fwLoad t _ _ _ _ => t
  | .ropSet t _ _ => t
  | .registerObject t _ _ _ => t
  | .unregisterObject t _ _ _ => t
  | .promote t _ _ _ _ _ _ _ => t
  | .demote t _ _ _ _ _ => t
  | .hamperPost t _ _ _ _ _ => t
  | .hamperCancel t _ _ _ => t
  | .hamperQuery t _ _ _ => t
  | .scrub t _ _ _ => t
  | .pprApply t _ _ _ _ _ _ => t
  | .clearLost t _ _ _ _ _ => t
  | .logFreeze t _ _ => t
  | .logRead t _ _ _ => t
  | .optionSet t _ _ _ => t
  | .seqTableSet t _ _ => t
  | .buildEntry t _ => t
  | .buildFail t _ _ _ => t
  | .deviceConflictRetry t _ _ => t
  | .joinRetry t _ _ => t
  | .arpRequest t _ _ => t
  | .pcieLinkDown t _ _ => t
  | .warmReset t _ => t
  | .lunRetired t _ _ _ _ => t
  | .holdupOkEdge t _ => t
  | .relocationComplete t _ _ _ => t
  | .blockEraseComplete t _ _ _ _ => t

end Sys2Proof
end

