-- ==== Sys2Proof/Decode.lean ====
section
/-! DEFINITION. The words of the table. Its rows give no bits, so no word spells a command (log 10). -/
namespace Sys2Proof

/-- The command that a word of `nbits` bits spells: none, since no row of the table gives bits. -/
def decodeTableWord (_nbits _w : Nat) : Option Instr := none

end Sys2Proof
end

