-- ==== Sys2Proof/Machine/Bits.lean ====
section
/-! DEFINITION. Bytes and numbers in both byte orders (R13, R14), slices of byte strings, association lists, and the
sparse byte storage with its canonical form. -/
namespace Sys2Proof.Machine

/-- The number whose least significant byte stands first (R13). -/
def leNat : List Byte → Nat
  | [] => 0
  | b :: bs => b.toNat + 256 * leNat bs

/-- `n` bytes of a number, least significant first (R13). -/
def natLE : Nat → Nat → List Byte
  | 0, _ => []
  | n + 1, v => BitVec.ofNat 8 v :: natLE n (v / 256)

/-- The number whose most significant byte stands first (R14). -/
def beNat (bs : List Byte) : Nat := leNat bs.reverse

/-- `n` bytes of a number, most significant first (R14). -/
def natBE (n v : Nat) : List Byte := (natLE n v).reverse

/-- `n` bytes of a string from offset `off`; bytes past its end read as nothing. -/
def slice (bs : List Byte) (off n : Nat) : List Byte := (bs.drop off).take n

/-- The little-endian number at bytes `off` to `off + n - 1`. -/
def leAt (bs : List Byte) (off n : Nat) : Nat := leNat (slice bs off n)

/-- The big-endian number at bytes `off` to `off + n - 1`. -/
def beAt (bs : List Byte) (off n : Nat) : Nat := beNat (slice bs off n)

/-- Bits `[hi:lo]` of a number (R12). -/
def bits (v hi lo : Nat) : Nat := v / 2 ^ lo % 2 ^ (hi + 1 - lo)

/-- Bit `i` of a number. -/
def bit (v i : Nat) : Bool := v / 2 ^ i % 2 == 1

/-- 1 for true, 0 for false. -/
def b2n (b : Bool) : Nat := if b then 1 else 0

/-- Whether every byte is zero: the reserved fields of R17 and of the formats. -/
def allZero (bs : List Byte) : Bool := bs.all (· == 0)

/-- Bytewise exclusive or of two strings of one length. -/
def xorBytes (a b : List Byte) : List Byte := List.zipWith (· ^^^ ·) a b

/-- Division rounded up. -/
def ceilDiv (a b : Nat) : Nat := (a + b - 1) / b

/-- `n` copies of a byte. -/
def fill (n : Nat) (b : Byte) : List Byte := List.replicate n b

/-- Replaces the bytes of `bs` from `off` by `new`. -/
def patchBytes (bs : List Byte) (off : Nat) (new : List Byte) : List Byte :=
  bs.take off ++ new ++ bs.drop (off + new.length)

/-! ### Association lists: one home for every table keyed by a name or number -/

/-- The entry under a key, if there is one. -/
def aget {κ α : Type} [DecidableEq κ] (l : List (κ × α)) (k : κ) : Option α :=
  (l.find? (fun e => e.1 == k)).map (·.2)

/-- Whether a key has an entry. -/
def ahas {κ α : Type} [DecidableEq κ] (l : List (κ × α)) (k : κ) : Bool := (aget l k).isSome

/-- Without the entry under a key. -/
def adel {κ α : Type} [DecidableEq κ] (l : List (κ × α)) (k : κ) : List (κ × α) :=
  l.filter (fun e => !(e.1 == k))

/-- With the entry under a key set: in its place if it had one, else at the end. -/
def aset {κ α : Type} [DecidableEq κ] (l : List (κ × α)) (k : κ) (v : α) : List (κ × α) :=
  if ahas l k then l.map (fun e => if e.1 == k then (k, v) else e) else l ++ [(k, v)]

/-- The entry under a key, or a default. -/
def agetD {κ α : Type} [DecidableEq κ] (l : List (κ × α)) (k : κ) (d : α) : α := (aget l k).getD d

/-- With the entry under a key changed, starting from `d` where it has none. -/
def amod {κ α : Type} [DecidableEq κ] (l : List (κ × α)) (k : κ) (d : α) (f : α → α) : List (κ × α) :=
  aset l k (f (agetD l k d))

/-- With the entry under a key changed, where it has one. -/
def aupd {κ α : Type} [DecidableEq κ] (l : List (κ × α)) (k : κ) (f : α → α) : List (κ × α) :=
  l.map (fun e => if e.1 == k then (k, f e.2) else e)

/-- A counter by key, with `n` added. -/
def abump {κ : Type} [DecidableEq κ] (l : List (κ × Nat)) (k : κ) (n : Nat := 1) : List (κ × Nat) :=
  amod l k 0 (· + n)

/-- Element `i` of a list replaced by its image under `f`; a list without one is unchanged. -/
def modNth {α : Type} (l : List α) (i : Nat) (f : α → α) : List α := l.modify i f

/-- CNP_COUNT saturates (R103). -/
def satInc (n : Nat) : Nat := min (n + 1) 4294967295

/-! ### Sparse byte storage -/

/-- The canonical form: addresses strictly rising, and no entry that holds 0, which is what an unlisted address reads as. -/
def Memory.wf : Memory → Bool
  | [] => true
  | [c] => c.2 != 0
  | c :: d :: rest => c.2 != 0 && decide (c.1 < d.1) && Memory.wf (d :: rest)

/-- The byte at an address; an unlisted address reads 0 (R74; log 8). -/
def Memory.read : Memory → Nat → Byte
  | [], _ => 0
  | (a, b) :: rest, x => if a = x then b else Memory.read rest x

/-- A byte stored at an address, keeping the canonical form. -/
def Memory.write : Memory → Nat → Byte → Memory
  | [], x, v => if v = 0 then [] else [(x, v)]
  | (a, b) :: rest, x, v =>
    if x < a then (if v = 0 then (a, b) :: rest else (x, v) :: (a, b) :: rest)
    else if x = a then (if v = 0 then rest else (x, v) :: rest)
    else (a, b) :: Memory.write rest x v

/-- `n` bytes from an address upward. -/
def Memory.readN (m : Memory) (x : Nat) : Nat → List Byte
  | 0 => []
  | n + 1 => Memory.read m x :: Memory.readN m (x + 1) n

/-- Bytes stored from an address upward. -/
def Memory.writeN (m : Memory) (x : Nat) : List Byte → Memory
  | [] => m
  | b :: bs => Memory.writeN (Memory.write m x b) (x + 1) bs

/-- Without the bytes of addresses `lo` to `lo + n - 1`: they read 0 again. -/
def Memory.clear (m : Memory) (lo n : Nat) : Memory :=
  m.filter (fun c => !(decide (lo ≤ c.1) && decide (c.1 < lo + n)))

/-- The bytes of addresses `lo` to `lo + n - 1` alone, moved down to address 0. -/
def Memory.extract (m : Memory) (lo n : Nat) : Memory :=
  (m.filter (fun c => decide (lo ≤ c.1) && decide (c.1 < lo + n))).map (fun c => (c.1 - lo, c.2))

/-- Another storage laid over this one from address `lo`, each byte combined by exclusive or. -/
def Memory.xorIn (m : Memory) (lo : Nat) : Memory → Memory
  | [] => m
  | (a, b) :: rest => Memory.xorIn (Memory.write m (lo + a) (Memory.read m (lo + a) ^^^ b)) lo rest

end Sys2Proof.Machine
end

