-- ==== Sys2Proof/Machine/Crypto.lean ====
section
/-! DEFINITION. The algorithms that the manual names by their standards (R57, R571-R572, R586, R600): AES-256, XTS-AES-256, the key
wrap of SP 800-38F, GCM and GMAC of SP 800-38D, and SHA3-512. The standards stand outside the spec (log 11). -/
namespace Sys2Proof.Machine
open Sys2Proof

/-! ### AES-256 -/

/-- The substitution table as one number, entry x in bits [8x + 7 : 8x]. -/
def sboxNat : Nat := 0x16bb54b00f2d99416842e6bf0d89a18cdf2855cee9871e9b948ed9691198f8e19e1dc186b95735610ef6034866b53e708a8bbd4b1f74dde8c6b4a61c2e2578ba08ae7a65eaf4566ca94ed58d6d37c8e779e4959162acd3c25c2406490a3a32e0db0b5ede14b8ee4688902a22dc4f816073195d643d7ea7c41744975fec130ccdd2f3ff1021dab6bcf5389d928f40a351a89f3c507f02f94585334d43fbaaefd0cf584c4a39becb6a5bb1fc20ed00d153842fe329b3d63b52a05a6e1b1a2c830975b227ebe28012079a059618c323c7041531d871f1e5a534ccf73f362693fdb7c072a49cafa2d4adf04759fa7dc982ca76abd7fe2b670130c56f6bf27b777c63

/-- The inverse substitution table. -/
def isboxNat : Nat := 0x7d0c2155631469e126d677ba7e042b17619953833cbbebc8b0f52aae4d3be0a0ef9cc9939f7ae52d0d4ab519a97f51605fec8027591012b131c7078833a8dd1ff45acd78fec0db9a2079d2c64b3e56fc1bbe18aa0e62b76f89c5291d711af1476edf751ce837f9e28535ade72274ac9673e6b4f0cecff297eadc674f4111913a6b8a130103bdafc1020f3fca8f1e2cd00645b3b80558e4f70ad3bc8c00abd890849d8da75746155edab9edfd5048706c92b6655dcc5ca4d41698688664f6f87225d18b6d49a25b76b224d92866a12e084ec3fa420b954cee3d23c2a632947b54cbe9dec444438e3487ff2f9b8239e37cfbd7f3819ea340bf38a53630d56a0952

/-- A table entry. -/
def tableAt (t : Nat) (x : Byte) : Byte := BitVec.ofNat 8 (t >>> (8 * x.toNat))

/-- Multiplication by 2 in the field of AES. -/
def aesX (a : Byte) : Byte := if a.getLsbD 7 then (a <<< 1) ^^^ 0x1B else a <<< 1

/-- Multiplication in the field of AES by a small constant. -/
def aesMul (n : Nat) (a : Byte) : Byte :=
  (if n % 2 == 1 then a else 0) ^^^ (if n / 2 % 2 == 1 then aesX a else 0) ^^^
  (if n / 4 % 2 == 1 then aesX (aesX a) else 0) ^^^ (if n / 8 % 2 == 1 then aesX (aesX (aesX a)) else 0)

/-- Words of the expanded key after the first eight, newest last: `n` more from word number `i`, with the round constant. -/
def expandAux : Nat → Nat → Byte → List (List Byte) → List (List Byte)
  | 0, _, _, w => w
  | n + 1, i, rc, w =>
    let prev := w.getD (i - 1) []
    let back := w.getD (i - 8) []
    let sub := prev.map (tableAt sboxNat)
    let t :=
      if i % 8 == 0 then xorBytes (sub.drop 1 ++ sub.take 1) [rc, 0, 0, 0]
      else if i % 8 == 4 then sub else prev
    expandAux n (i + 1) (if i % 8 == 0 then aesX rc else rc) (w ++ [xorBytes back t])

/-- The fifteen round keys of a 32-byte key. -/
def roundKeys (k : List Byte) : List (List Byte) :=
  let w := expandAux 52 8 1 ((List.range 8).map (fun i => slice k (4 * i) 4))
  (List.range 15).map (fun r => ((w.drop (4 * r)).take 4).flatten)

/-- Rows shifted: byte 4c + r comes from column c + r. -/
def shiftRows (s : List Byte) : List Byte := (List.range 16).map (fun i => s.getD ((i + 4 * (i % 4)) % 16) 0)

/-- Rows shifted back. -/
def unshiftRows (s : List Byte) : List Byte := (List.range 16).map (fun i => s.getD ((i + 16 - 4 * (i % 4)) % 16) 0)

/-- Columns mixed with the circulant of `m`. -/
def mixCols (m : List Nat) (s : List Byte) : List Byte :=
  (List.range 16).map (fun i =>
    (List.range 4).foldl (fun a j => a ^^^ aesMul (m.getD ((j + 4 - i % 4) % 4) 0) (s.getD (i / 4 * 4 + j) 0)) 0)

/-- One block enciphered. -/
def aesEnc (ks : List (List Byte)) (b : List Byte) : List Byte :=
  let s := (List.range 13).foldl
    (fun s r => xorBytes (mixCols [2, 3, 1, 1] (shiftRows (s.map (tableAt sboxNat)))) (ks.getD (r + 1) [])) (xorBytes b (ks.getD 0 []))
  xorBytes (shiftRows (s.map (tableAt sboxNat))) (ks.getD 14 [])

/-- One block deciphered. -/
def aesDec (ks : List (List Byte)) (b : List Byte) : List Byte :=
  let s := (List.range 13).foldl
    (fun s r => mixCols [14, 11, 13, 9] (xorBytes ((unshiftRows s).map (tableAt isboxNat)) (ks.getD (13 - r) [])))
    (xorBytes b (ks.getD 14 []))
  xorBytes ((unshiftRows s).map (tableAt isboxNat)) (ks.getD 0 [])

/-! ### XTS (R57, R572) -/

/-- α times a tweak, as IEEE 1619 orders its bytes. -/
def xtsAlpha (t : List Byte) : List Byte :=
  let n := leNat t * 2
  natLE 16 (if n / 2 ^ 128 == 1 then (n % 2 ^ 128) ^^^ 0x87 else n)

/-- A line under a block function `f` with a key of 64 bytes, K1 then K2, and a tweak value (R567, R572). -/
def xtsLine (f : List (List Byte) → List Byte → List Byte) (key : List Byte) (tweak : Nat) (line : List Byte) : List Byte :=
  let k1 := roundKeys (key.take 32)
  let t0 := aesEnc (roundKeys (key.drop 32)) (natLE 16 tweak)
  ((List.range 4).foldl (fun (acc : List Byte × List Byte) j =>
    (acc.1 ++ xorBytes (f k1 (xorBytes (slice line (16 * j) 16) acc.2)) acc.2, xtsAlpha acc.2)) ([], t0)).1

/-- A line enciphered. -/
def xtsEnc : List Byte → Nat → List Byte → List Byte := xtsLine aesEnc
/-- A line deciphered. -/
def xtsDec : List Byte → Nat → List Byte → List Byte := xtsLine aesDec

/-! ### Key wrap (R571, R586) -/

/-- One step of the wrap: step `t` of `6 n`. -/
def kwStep (ks : List (List Byte)) (n : Nat) (a : List Byte × List (List Byte)) (t : Nat) : List Byte × List (List Byte) :=
  let i := (t - 1) % n
  let b := aesEnc ks (a.1 ++ a.2.getD i [])
  (xorBytes (b.take 8) (natBE 8 t), a.2.set i (b.drop 8))

/-- KW: wraps a string of 8-byte words. -/
def kwWrap (key data : List Byte) : List Byte :=
  let ks := roundKeys key
  let n := data.length / 8
  let r := (List.range (6 * n)).foldl (fun a t => kwStep ks n a (t + 1)) (fill 8 0xA6, (List.range n).map (fun i => slice data (8 * i) 8))
  r.1 ++ r.2.flatten

/-- One step of the unwrap. -/
def kwBack (ks : List (List Byte)) (n : Nat) (a : List Byte × List (List Byte)) (t : Nat) : List Byte × List (List Byte) :=
  let i := (t - 1) % n
  let b := aesDec ks (xorBytes a.1 (natBE 8 t) ++ a.2.getD i [])
  (b.take 8, a.2.set i (b.drop 8))

/-- KW: the wrapped string, or nothing where the integrity check fails (R589). -/
def kwUnwrap (key blob : List Byte) : Option (List Byte) :=
  let ks := roundKeys key
  let n := blob.length / 8 - 1
  let r := (List.range (6 * n)).foldl (fun a t => kwBack ks n a (6 * n - t))
    (blob.take 8, (List.range n).map (fun i => slice blob (8 + 8 * i) 8))
  if r.1 == fill 8 0xA6 then some r.2.flatten else none

/-! ### GCM and GMAC (R418, R586) -/

/-- The product in the field of GCM: bit 127 of a number is the coefficient of 1. `n` bits of `x`, highest first, remain. -/
def ghMulAux : Nat → Nat → Nat → Nat → Nat
  | 0, _, _, z => z
  | n + 1, x, v, z =>
    ghMulAux n x (if v % 2 == 1 then (v / 2) ^^^ (0xE1 <<< 120) else v / 2) (if bit x n then z ^^^ v else z)

/-- The product of two blocks of GCM. -/
def ghMul (x y : Nat) : Nat := ghMulAux 128 x y 0

/-- Zeros up to a multiple of 16 bytes. -/
def pad16 (bs : List Byte) : List Byte := bs ++ fill ((16 - bs.length % 16) % 16) 0

/-- GHASH of a string of whole blocks. -/
def ghash (h : Nat) (bs : List Byte) : Nat :=
  (List.range (bs.length / 16)).foldl (fun y i => ghMul (y ^^^ beAt bs (16 * i) 16) h) 0

/-- The counter block of a 96-bit nonce. -/
def gcmCtr (nonce : List Byte) (n : Nat) : List Byte := nonce ++ natBE 4 n

/-- Counter-mode encipherment from counter 2. -/
def gcmCrypt (ks : List (List Byte)) (nonce data : List Byte) : List Byte :=
  ((List.range (ceilDiv data.length 16)).map (fun i =>
    xorBytes (slice data (16 * i) 16) (aesEnc ks (gcmCtr nonce (i + 2))))).flatten

/-- The tag of SP 800-38D. -/
def gcmTag (ks : List (List Byte)) (nonce aad c : List Byte) : List Byte :=
  let h := beNat (aesEnc ks (fill 16 0))
  let s := ghash h (pad16 aad ++ pad16 c ++ natBE 8 (8 * aad.length) ++ natBE 8 (8 * c.length))
  xorBytes (natBE 16 s) (aesEnc ks (gcmCtr nonce 1))

/-- SEAL: ciphertext and tag. -/
def gcmSeal (key nonce aad data : List Byte) : List Byte :=
  let ks := roundKeys key
  let c := gcmCrypt ks nonce data
  c ++ gcmTag ks nonce aad c

/-- OPEN: the plaintext, or nothing where the tag fails (R589). -/
def gcmOpen (key nonce aad blob : List Byte) : Option (List Byte) :=
  let ks := roundKeys key
  let c := blob.take (blob.length - 16)
  if gcmTag ks nonce aad c == blob.drop (blob.length - 16) then some (gcmCrypt ks nonce c) else none

/-- GMAC of SP 800-38D: the tag over data that is only authenticated. -/
def gmac (key nonce data : List Byte) : List Byte := gcmTag (roundKeys key) nonce data []

/-! ### SHA3-512 (R600) -/

/-- Round constants of Keccak. -/
def keccakRc : List Nat := [0x1, 0x8082, 0x800000000000808a, 0x8000000080008000, 0x808b, 0x80000001, 0x8000000080008081, 0x8000000000008009, 0x8a, 0x88, 0x80008009, 0x8000000a, 0x8000808b, 0x800000000000008b, 0x8000000000008089, 0x8000000000008003, 0x8000000000008002, 0x8000000000000080, 0x800a, 0x800000008000000a, 0x8000000080008081, 0x8000000000008080, 0x80000001, 0x8000000080008008]

/-- Rotations of Keccak, lane x + 5 y. -/
def keccakRot : List Nat := [0, 1, 62, 28, 27, 36, 44, 6, 55, 20, 3, 10, 43, 25, 39, 41, 45, 15, 21, 8, 18, 2, 61, 56, 14]

/-- A 64-bit lane rotated left. -/
def rotl64 (v n : Nat) : Nat := (v * 2 ^ n) % 2 ^ 64 + v / 2 ^ (64 - n)

/-- One round of Keccak over its 25 lanes. -/
def keccakRound (a : List Nat) (rc : Nat) : List Nat :=
  let g (l : List Nat) (i : Nat) : Nat := l.getD i 0
  let c := (List.range 5).map (fun x => g a x ^^^ g a (x + 5) ^^^ g a (x + 10) ^^^ g a (x + 15) ^^^ g a (x + 20))
  let d := (List.range 5).map (fun x => g c ((x + 4) % 5) ^^^ rotl64 (g c ((x + 1) % 5)) 1)
  let t := (List.range 25).map (fun i => g a i ^^^ g d (i % 5))
  let b := (List.range 25).map (fun i =>
    let x := i % 5
    let y := i / 5
    let src := (x + 3 * y) % 5 + 5 * x
    rotl64 (g t src) (g keccakRot src))
  (List.range 25).map (fun i =>
    let x := i % 5
    let y := i / 5 * 5
    let v := g b i ^^^ ((0xFFFFFFFFFFFFFFFF ^^^ g b ((x + 1) % 5 + y)) &&& g b ((x + 2) % 5 + y))
    if i == 0 then v ^^^ rc else v)

/-- The permutation. -/
def keccakF (a : List Nat) : List Nat := keccakRc.foldl keccakRound a

/-- One 72-byte block absorbed. -/
def keccakAbsorb (a : List Nat) (blk : List Byte) : List Nat :=
  keccakF ((List.range 25).map (fun i => if i < 9 then a.getD i 0 ^^^ leAt blk (8 * i) 8 else a.getD i 0))

/-- SHA3-512 of FIPS 202. -/
def sha3 (m : List Byte) : List Byte :=
  let padLen := 72 - m.length % 72
  let p := m ++ (if padLen == 1 then [0x86] else 0x06 :: (fill (padLen - 2) 0 ++ [0x80]))
  let a := (List.range (p.length / 72)).foldl (fun a i => keccakAbsorb a (slice p (72 * i) 72)) (List.replicate 25 0)
  ((List.range 8).map (fun i => natLE 8 (a.getD i 0))).flatten

end Sys2Proof.Machine
end

