-- ==== Sys2Proof/Config.lean ====
section
/-! DEFINITION. What one device of the family fixes for good, and the values the manual leaves open. Every `opaque` here is a
free value: nothing in Lean can see it. -/
namespace Sys2Proof.Config

/-- A draw of the random number generator of R593, by the number of draws made before it: a FREE VALUE (log 4). -/
opaque rng : Nat → BitVec 64

/-- The ML-DSA-87 signature that the device's identity key makes over a digest (R609): a FREE VALUE (log 5). -/
opaque mldsaSign : List Byte → List Byte

/-- A result that the spec names but does not state, by the number of such results taken before it: a FREE VALUE (log 6). -/
opaque freeNat : Nat → Nat

/-- The serial number burned into the part (R755): a FREE VALUE (log 7). -/
opaque serial : BitVec 64

/-- The fused core voltage in millivolts (R643): a FREE VALUE (log 7). -/
opaque vFuse : Nat

/-- The device identity public key (R608): a FREE VALUE (log 7). -/
opaque identityKey : List Byte

/-- The ML-DSA-87 signature that an image's owner has made over its digest (R539), by the digest and the owner's key: a FREE VALUE (log 206). -/
opaque ownerSign : List Byte → List Byte → List Byte

/-- The fused leakage of a block (R647) in mW at a temperature in whole 1/16 °C (R648): a FREE VALUE (log 7). -/
opaque leakage : Nat → Int → Nat

/-- The fused energy of an event of a block, by the block and the kind of event, in picojoules (R648): a FREE VALUE (log 7). -/
opaque energy : Nat → Nat → Nat

/-- The service die's fused power in mW (R648): a FREE VALUE (log 7). -/
opaque servicePower : Nat

/-- Length of the pulse of PPS_OUT in ns (R484): the spec gives it none (log 209). -/
opaque ppsWidth : Nat

end Sys2Proof.Config
end

