-- ==== Sys2Proof/Machine/StControl.lean ====
section
/-! DEFINITION. State of the control ports and their registers (18, 19), and the record of everything the device sends. -/
namespace Sys2Proof.Machine
open Sys2Proof

/-- STATUS codes of a completion (R732). -/
inductive Status where
  | ok | forced | mode | busy | aborted | nvFail | badOpcode | badField | badPartition | notOwner | dmaFail | refused
  | superseded | entropy | limit | bodyError | badRange | inUse | badTenant | badCourse | tableFull | notRegistered
  | windowOpen | hamperLive | skipped | badTarget | badScope | badChannel | notListed | brickOwner | badProfile
  | encipherConflict | noTwin | windowLimit | badRing | farDenied | farUnreachable | notOpen | noQp | qpLimit | badPort
  | badClass | tenantLimit | reserve | notAuthorised | slotBound | slotPartition | badSlot | slotInUse | noImport | unwrap
  | weakKey | notActive | notLoaded | scFull | notInstalled | noRecord | mismatch | peerTimeout | farPeer | arbiter | paired
  | badStart | badSource | badFirmware | badChallenge | badSignature | notNeeded | permanent | badTable
  | running
  deriving DecidableEq, Repr

/-- The causes of INT_STATUS (R759), by bit. -/
inductive IntCause where
  | lostPage | flashShort | arbiterLost | deviceConflict | thermalWarn | macsecPn | modeChange | timeState | ringStopped
  | budgetZero | dieLost | pwrFail | holdup | linkDown | lockViolation | entropyFail | ownerLost
  deriving DecidableEq, Repr

/-- CAUSE of a ring's status register (R762). -/
inductive RingCause where
  | none | disabled | badDoorbell | dma | badSize | reset
  deriving DecidableEq, Repr

/-- The registers of one ring (R762). -/
structure RingSt where
  base : Nat
  log2 : Nat
  enable : Bool
  stopped : Bool
  cause : RingCause
  tail : Nat
  head : Nat
  phase : Bool
  deriving DecidableEq, Repr

/-- What a command ends with (R721). -/
structure Ended where
  tag : BitVec 32
  opcode : Nat
  irq : Bool
  status : Status
  detail : Nat
  result : List Byte
  /-- it has changed what CONFIG_GEN counts (R748) -/
  cfg : Bool
  deriving DecidableEq, Repr

/-- A journal entry (R749). -/
structure JEntry where
  desc : List Byte
  tag : BitVec 32
  opcode : Nat
  status : Status
  detail : Nat
  result : List Byte
  jseq : Nat
  fetched : Nat
  completed : Option Nat
  written : Bool
  /-- the core cycle on which the service die decided its fetch (R726) -/
  at_ : Nat
  /-- the core cycle on which the command started (R726) -/
  started : Option Nat
  deriving DecidableEq, Repr

/-- An event as an event ring holds it (R741). -/
structure Event where
  typ : Nat
  eseq : Nat
  time : Nat
  body : List Byte
  phase : Bool
  deriving DecidableEq, Repr

/-- A received EAPOL frame in its slot (R743). -/
structure EapolSlot where
  slot : Nat
  frame : List Byte
  deriving DecidableEq, Repr

/-- One control port: endpoint state, rings, journal and its own registers. -/
structure CtlPort where
  linkUp : Bool
  linkDownSince : Option Nat
  busMaster : Bool
  busMasterClearSince : Option Nat
  perst : Bool
  perstHighAt : Nat
  d3hot : Bool
  cmd : RingSt
  cpl : RingSt
  evt : RingSt
  cplIntCount : Nat
  cplIntTime : Nat
  unsignalled : Nat
  oldestUnsignalled : Option Nat
  journal : List JEntry
  jseq : Nat
  /-- descriptors between CMD_HEAD and CMD_TAIL, as host memory holds them (R716) -/
  posted : List (List Byte)
  /-- commands that have ended and whose completion is not yet written -/
  ended : List Ended
  /-- completions that wait for a slot of the completion ring (R722) -/
  unwritten : List Ended
  eseq : Nat
  eventsDropped : Nat
  lockOpen : Bool
  violations : Nat
  apertureSel : BitVec 32
  tmuxSelect : BitVec 32
  intStatus : BitVec 17
  /-- by cause, the core cycle of its latest occurrence (R18, R52) -/
  intAt : List (Nat × Nat)
  /-- the core cycle of the latest INTERRUPT event, if one has been signalled (R761) -/
  intEvent : Option Nat
  intEnable : BitVec 17
  intVmap : List (BitVec 32)
  msixEnable : Bool
  /-- vectors that are unmasked, and vectors whose pending bit is set -/
  unmasked : List Nat
  pendingBits : List Nat
  /-- what has been written to the MSI-X table, by offset of the 32-bit word (R770) -/
  msixTable : List (Nat × Nat)
  /-- writes discarded and reported through AER (R713, R753) -/
  unsupported : Nat
  deriving DecidableEq, Repr

/-- Who may command a partition (R729). -/
inductive Owner where
  | both | port0 | port1
  deriving DecidableEq, Repr

/-- What a wire response says (R118-R120). -/
inductive Reply where
  | ack (msn : BitVec 24)
  | nak (syndrome : BitVec 8)
  | readData (bytes : List Byte)
  | atomicAck (original : BitVec 64)
  | cnp
  deriving DecidableEq, Repr

/-- A CM message that the device sends (R85, R94, R99, R104): a REP with the path MTU in bytes, a REJ with its reason and its additional rejection information. -/
inductive CmOut where
  | rep (epsn : BitVec 24) (respRes : Nat) (policy : BitVec 2) (pmtu : Nat)
  | rej (reason : Nat) (info : List Byte)
  | dreq
  | drep
  deriving DecidableEq, Repr

/-- How a packet of a QP leaves (R90, R103): the requester's QPN, addresses and tags of the context, the port, and the UDP source port. -/
structure Route where
  dest : BitVec 24
  ip : BitVec 128
  mac : BitVec 48
  vlan : BitVec 16
  dscp : BitVec 6
  port : Nat
  brk : Nat
  sport : Nat
  deriving DecidableEq, Repr

/-- The UDP source port of every packet sent on a QP (R90). -/
def udpSource (qpn : BitVec 24) : Nat := 0xC000 + qpn.toNat % 16384

/-- How a Penquavin packet leaves: the cycle, the port by its index among the partition's, the destination address, the UDP ports (R436, R444), the priority and DSCP
of its traffic group (R461), and the IP hop limit where one is fixed (R463). It is ECN-capable, with ECT(0) (R460). -/
structure FabWay where
  at_ : Nat
  port : Nat
  dst : Nat
  sport : Nat
  dport : Nat
  pcp : Nat
  dscp : Nat
  hops : Option Nat
  deriving DecidableEq, Repr

/-- Something that leaves the device, in the order of the decisions. A paced packet is on its way until the cycle it leaves on: it can still be withdrawn or paced anew
(R122, R140). CM messages leave on QP1, with its source port. -/
inductive Out where
  | rdma (at_ : Nat) (qpn psn : BitVec 24) (r : Reply) (way : Route)
  | cm (sport : Nat) (qpn : BitVec 24) (m : CmOut)
  | cmTo (sport : Nat) (dest : BitVec 24) (m : CmOut)
  | mirror (part : Nat) (path : Nat) (kind : Nat) (body : List Byte)
  | arbiter (part : Nat) (kind : Nat) (body : List Byte)
  | fabric (part : Nat) (peer : Nat) (path : Nat) (cls : Nat) (way : FabWay) (body : List Byte)
  | pause (port prio quanta : Nat)
  | frame (port brk : Nat) (bytes : List Byte)
  /-- an address answered for: with the group MAC address, or as one of the port's own -/
  | arp (part : Nat) (addr : BitVec 128) (groupMac : Option Nat)
  | completion (port slot : Nat) (phase : Bool) (e : Ended)
  | event (port slot : Nat) (e : Event)
  | vector (port vec : Nat)
  | dma (port addr : Nat) (bytes : List Byte)
  | ibi (cause : Nat)
  | avsWrite (rail mv : Nat)
  | sideband (bytes : List Byte)
  deriving DecidableEq, Repr

/-- Whether the device works on a ring: enabled, and not stopped (R717, R724, R763). -/
def RingSt.active (r : RingSt) : Bool := r.enable && !r.stopped

def RingSt.reset : RingSt :=
  { base := 0, log2 := 0, enable := false, stopped := true, cause := .reset, tail := 0, head := 0, phase := true }

def CtlPort.reset : CtlPort :=
  { linkUp := false, linkDownSince := none, busMaster := true, busMasterClearSince := none, perst := false, perstHighAt := 0,
    d3hot := false, cmd := RingSt.reset, cpl := RingSt.reset, evt := RingSt.reset, cplIntCount := 1, cplIntTime := 0,
    unsignalled := 0, oldestUnsignalled := none, journal := [], jseq := 0, posted := [], ended := [], unwritten := [], eseq := 0,
    eventsDropped := 0, lockOpen := false, violations := 0, apertureSel := 0, tmuxSelect := 0, intStatus := 0, intAt := [], intEvent := none, intEnable := 0,
    intVmap := [0, 0, 0, 0, 0], msixEnable := true, unmasked := [], pendingBits := [], msixTable := [],
    unsupported := 0 }

end Sys2Proof.Machine
end

