-- ==== Sys2Proof/Machine/StFabric.lean ====
section
/-! DEFINITION. State of the Penquavin fabric (11), of fabric time, and of the meters (12). -/
namespace Sys2Proof.Machine
open Sys2Proof

/-- STATE of a peer entry (R446). -/
inductive PeerState where
  | empty | announced | pending | joining | joined | conflict
  deriving DecidableEq, Repr

/-- STATE of a path (R446). -/
inductive PathState where
  | untried | up | down
  deriving DecidableEq, Repr

/-- A packet sent and not acknowledged (R451). -/
structure TxPkt where
  pseq : Nat
  cls : Nat
  msg : Nat
  off : Nat
  len : Nat
  sentAt : Nat
  timeouts : Nat
  body : List Byte
  total : Nat
  deriving DecidableEq, Repr

/-- A path to a peer (R444-R460). Times are fabric nanoseconds. -/
structure Path where
  state : PathState
  cwnd : Nat
  baseRtt : Nat
  /-- RTT samples of the last 10 s: time and value (R458) -/
  samples : List (Nat × Nat)
  srtt : Nat
  rttvar : Nat
  nextPseq : Nat
  cum : Nat
  retrans : Nat
  ce : Nat
  lastDecrease : Nat
  tx : List TxPkt
  /-- packets that wait for the window (R460) -/
  queue : List TxPkt
  /-- PSEQs received above CUM -/
  above : List Nat
  unacked : Nat
  oldestUnacked : Option Nat
  ceSinceAck : Nat
  echo : Nat
  highPseq : Nat
  lastAck : Nat
  probeAt : Nat
  /-- the cycle from which the pace lets the next packet leave (R460) -/
  paceAt : Nat
  /-- PKT_PAYLOAD, Q_TARGET and CWND_MAX as they stood when the path was created (R564) -/
  payload : Nat
  qTarget : Nat
  cwndMax : Nat
  deriving DecidableEq, Repr

/-- A reassembly slot (R453-R456). -/
structure Slot where
  total : Nat
  count : Nat
  bitsSet : List Nat
  data : Memory
  at_ : Nat
  home : Nat
  /-- PKT_PAYLOAD and REASM_TIMEOUT, in core cycles, as they stood when the message's first packet came (R564) -/
  payload : Nat
  timeout : Nat
  deriving DecidableEq, Repr

/-- A peer entry (R446) with its paths. -/
structure Peer where
  state : PeerState
  mode : Nat
  ident : BitVec 64
  lastAnnounce : Nat
  slotOrJoin : Nat
  nextMsg : List (Nat × Nat)
  late : Nat
  reasm : Nat
  resend : Nat
  addrs : List (BitVec 128)
  joinedAny : Bool
  paths : List (Nat × Path)
  /-- by class: lowest MSG_ID not closed, and the closed ones above it with whether they were delivered -/
  closed : List (Nat × (Nat × List (Nat × Bool)))
  joinSentAt : Option Nat
  refusedUntil : Option Nat
  emptySince : Option Nat
  /-- fabric time of the last ANNOUNCE or ACK (R465) -/
  lastHeard : Nat
  /-- what has come in on each of the peer's paths, by its label there (R449) -/
  rx : List (Nat × Path)
  /-- messages not wholly acknowledged, by class and MSG_ID: label and body (R452, R457) -/
  sent : List ((Nat × Nat) × (Nat × List Byte))
  /-- messages that wait because 16,384 are unacknowledged (R452): label, class, body -/
  backlog : List (Nat × Nat × List Byte)
  deriving DecidableEq, Repr

/-- A far request that the serving partition has sent (R474). -/
structure FarSent where
  opId : Nat
  sseq : Nat
  firstAt : Nat
  peer : Nat
  op : Nat
  body : FarReq
  /-- when NOT_SERVING last came in answer (R476) -/
  notServing : Option Nat
  deriving DecidableEq, Repr

/-- A stream that this partition backs (R474). -/
structure FarStream where
  next : Nat
  waiting : List FarReq
  /-- the SSEQ of a CLOSE that waits for the stream's accepted writes (R478) -/
  closing : Option Nat
  deriving DecidableEq, Repr

/-- A probe for an OPEN_WINDOW of a far window (R738). -/
structure FarProbe where
  peer : Nat
  cmd : CmdRef
  req : WinReq
  firstAt : Nat
  deriving DecidableEq, Repr

/-- Fabric state of one partition. -/
structure FabricP where
  peers : List (Nat × Peer)
  slots : List ((Nat × Nat × Nat) × Slot)
  /-- the core cycle on which each slot was decided: its message complete, or its timer expired (R52) -/
  stamps : List ((Nat × Nat × Nat) × Nat)
  joinedAny : Bool
  conflict : Bool
  lastAnnounceOut : Nat
  buildEnd : Nat
  /-- the join schedule: promised slots by peer, and the number of the next slot not promised (R470, R471) -/
  schedule : List (Nat × Nat)
  nextSlot : Nat
  farSent : List ((BitVec 24 × Nat) × FarSent)
  farNext : List (BitVec 24 × Nat)
  farStreams : List ((Nat × BitVec 24) × FarStream)
  /-- OPEN_WINDOW commands that wait for a probe's answer -/
  farProbes : List FarProbe
  counters : List (String × Nat)
  /-- arbiter messages seen, to discard second copies (R479) -/
  arbSeen : List (Nat × Nat × Nat)
  /-- messages delivered to their users (R454), the model's own record: source, class, MSG_ID, body -/
  inbox : List (Nat × Nat × Nat × List Byte)
  deriving DecidableEq, Repr

/-- PFC state of a port's priority (R462). -/
structure Pfc where
  pausedUntil : Option Nat
  weAssert : Bool
  lastSent : Nat
  occupancy : Nat
  deriving DecidableEq, Repr

/-- Link state of a port or breakout (R267, R270). -/
structure LinkSt where
  up : Bool
  downSince : Option Nat
  lost : Bool
  deriving DecidableEq, Repr

/-- Time states (R485). -/
inductive TimeMode where
  | acquiring | locked | holdover | lost
  deriving DecidableEq, Repr

/-- Fabric time (R481-R492): the counter reads `base + (now - at) × 5 / 8` ns, with a rate adjustment in parts per 10^9. -/
structure TimeSt where
  mode : TimeMode
  arb : Bool
  changedAt : Nat
  everLocked : Bool
  base : Nat
  at_ : Nat
  rate : Int
  inRange : Nat
  lastMeasure : Option Nat
  offset : Int
  master : Option PtpAnn
  masterPort : Nat
  /-- announces heard by port, for the selection -/
  heard : List (Nat × PtpAnn)
  nextPps : Option (Nat × CmdRef)
  holdSince : Option Nat
  deriving DecidableEq, Repr

/-- A minute cut (R498-R500): status 0 complete, else the marks of R500. -/
structure Cut where
  b : Nat
  status : Nat
  counts : List (Nat × List Nat)
  deriving DecidableEq, Repr

/-- An hourly evidence record (R501-R503): part of the NV store. -/
structure Evidence where
  /-- H, in seconds -/
  hour : Nat
  seq : Nat
  bytes : List Byte
  deriving DecidableEq, Repr

/-- Meters of one partition (R496-R503). -/
structure MeterP where
  /-- meter index by tenant, and indices held until a fabric time after a tenant has gone (R497) -/
  index : List (Nat × Nat)
  freeAt : List (Nat × Nat)
  ring : List (Nat × Cut)
  lastCut : Option Nat
  cutTotals : List (Nat × List Nat)
  /-- running totals by meter index: sixteen 64-bit counters -/
  totals : List (Nat × List Nat)
  evSeq : Nat
  prevRoot : List Byte
  evidence : List Evidence
  lastSample : Nat
  /-- maintenance slots in progress (R494) -/
  slotsOn : List Nat
  /-- the next cut carries the RESTORED mark (R500) -/
  restored : Bool
  deriving DecidableEq, Repr

def FabricP.reset : FabricP :=
  { peers := [], slots := [], stamps := [], joinedAny := false, conflict := false, lastAnnounceOut := 0, buildEnd := 0,
    schedule := [], nextSlot := 0, farSent := [], farNext := [], farStreams := [], farProbes := [],
    counters := [], arbSeen := [], inbox := [] }

def TimeSt.reset : TimeSt :=
  { mode := .acquiring, arb := false, changedAt := 0, everLocked := false, base := 0, at_ := 0, rate := 0, inRange := 0,
    lastMeasure := none, offset := 0, master := none, masterPort := 0, heard := [], nextPps := none, holdSince := none }

def MeterP.reset : MeterP :=
  { index := [], freeAt := [], ring := [], lastCut := none, cutTotals := [], totals := [], evSeq := 0, prevRoot := [],
    evidence := [], lastSample := 0, slotsOn := [], restored := false }

end Sys2Proof.Machine
end

