-- ==== Sys2Proof/Machine/StImage.lean ====
section
/-! DEFINITION. State of the configuration image (14) and of keys, MACsec and debug access (15). -/
namespace Sys2Proof.Machine
open Sys2Proof

/-- A record of an image: the triple (TYPE, PARTITION, INSTANCE) and the payload before padding (R537). -/
structure ImgRec where
  typ : Nat
  part : Nat
  inst : Nat
  payload : List Byte
  deriving DecidableEq, Repr

/-- A stored image or patch: what R553 keeps of it. -/
structure StoredImage where
  seq : Nat
  length : Nat
  digest : List Byte
  ownerKey : List Byte
  sigOk : Bool
  body : List Byte
  records : List ImgRec
  base : List Byte
  committed : Bool
  deriving DecidableEq, Repr

/-- One of the two copies (R553-R556). -/
structure ImageCopy where
  gen : Nat
  full : Option StoredImage
  patches : List StoredImage
  committed : Bool
  failed : Bool
  /-- RAISE_FLOOR of the load that stored it (R552) -/
  raiseFloor : Bool
  deriving DecidableEq, Repr

/-- The configuration image (14). -/
structure ImageSt where
  copies : List ImageCopy
  /-- the copy in use; none before a power-up has taken one -/
  inUse : Option Nat
  /-- the effective image's records in the order of R538, its chain digest, C_0 and its generation counter (R565) -/
  eff : List ImgRec
  chain : List Byte
  c0 : List Byte
  gen : Nat
  effSeq : Nat
  /-- an image command is under way (R558) -/
  busy : Bool
  /-- consecutive power-ups that ended by watchdog reset before BUILD was left (R556) -/
  badPowerUps : Nat
  buildLeft : Bool
  applyStamp : Nat
  /-- a full image whose changed partitions have still to settle before they take it (R525, R560) -/
  applying : Option (List ImgRec)
  deriving DecidableEq, Repr

/-- State of a tenant key slot (R568). -/
inductive SlotState where
  | empty | active | rekeying
  deriving DecidableEq, Repr

/-- The sweep of a running REKEY (R579). -/
structure Sweep where
  newHalf : Nat
  rate : Nat
  /-- the command has failed with ABORTED and the sweep goes on for itself (R581) -/
  silent : Bool
  deriving DecidableEq, Repr

/-- A tenant key slot (R567-R569). -/
structure KeySlot where
  state : SlotState
  currentHalf : Nat
  half0 : List Byte
  half1 : List Byte
  loadCount : Nat
  lastLoad : Nat
  lastErase : Nat
  part : Option Nat
  tenant : Option Nat
  sweep : Option Sweep
  deriving DecidableEq, Repr

/-- A MACsec association (R596, R597). -/
structure Assoc where
  tx : Bool
  sci : BitVec 64
  an : Nat
  ssci : Nat
  salt : List Byte
  pn : Nat
  key : List Byte
  deriving DecidableEq, Repr

/-- MACsec of one port or breakout (R596-R599). -/
structure MacPort where
  mode : Nat
  window : Nat
  assocs : List Assoc
  txAn : Option Nat
  drops : Nat
  unprotected : Nat
  deriving DecidableEq, Repr

/-- A record of the key-record region (R571): a tenant slot's half, a system slot (65,536 and its number), or the authorisation of a tenant (131,072 + 4,096 × partition +
tenant); the key or token wrapped under STORAGE, and the commit marker. The bytes stay, zeroised or not, until the region is erased. -/
structure KeyRec where
  name : Nat
  half : Nat
  wrapped : List Byte
  commit : Byte
  deriving DecidableEq, Repr

/-- Keys, seal engine, entropy, MACsec and debug access (15). -/
structure Security where
  slots : List (Nat × KeySlot)
  /-- the key-record region of the NV store, in the order of programming (R571, R669) -/
  keyRecs : List KeyRec
  /-- system slots that hold a key: 0 STORAGE, 1 IMPORT, 6-9 TWIN_WRAP, 10-13 ARBITER, 14-17 DIGEST (R570) -/
  sys : List (Nat × List Byte)
  /-- dies whose key RAM has been zeroised by a debug scope -/
  keyRamLost : List Nat
  sealNext : Nat
  sealEnd : Nat
  sealFails : Nat
  unwrapFails : List Nat
  unwrapRefuseUntil : Option Nat
  drbgStopped : Bool
  rngCount : Nat
  freeCount : Nat
  macsec : List ((Nat × Nat) × MacPort)
  challenge : Option (List Byte)
  scopes : List Nat
  scopeDies : Nat
  scopeExpiry : Option Nat
  /-- SERVICE_DEBUG has been opened: the engines refuse every operation until COLD (R611) -/
  enginesOff : Bool
  attestSeq : Nat
  deriving DecidableEq, Repr

def ImageSt.reset : ImageSt :=
  { copies := [{ gen := 0, full := none, patches := [], committed := false, failed := false, raiseFloor := false },
      { gen := 0, full := none, patches := [], committed := false, failed := false, raiseFloor := false }],
    inUse := none, eff := [], chain := [], c0 := [], gen := 0, effSeq := 0, busy := false, badPowerUps := 0,
    buildLeft := false, applyStamp := 0, applying := none }

def KeySlot.reset : KeySlot :=
  { state := .empty, currentHalf := 0, half0 := [], half1 := [], loadCount := 0, lastLoad := 0, lastErase := 0,
    part := none, tenant := none, sweep := none }

def MacPort.reset : MacPort :=
  { mode := 0, window := 0, assocs := [], txAn := none, drops := 0, unprotected := 0 }

def Security.reset : Security :=
  { slots := [], keyRecs := [], sys := [], keyRamLost := [], sealNext := 0, sealEnd := 0, sealFails := 0, unwrapFails := [],
    unwrapRefuseUntil := none, drbgStopped := false, rngCount := 0, freeCount := 0, macsec := [], challenge := none,
    scopes := [], scopeDies := 0, scopeExpiry := none, enginesOff := false, attestSeq := 0 }

end Sys2Proof.Machine
end

