-- ==== Sys2Proof/Machine/StMode.lean ====
section
/-! DEFINITION. State of the operating modes (13). -/
namespace Sys2Proof.Machine
open Sys2Proof

/-- The package's mode (R504): the partitions have modes of their own only while it is `on`. -/
inductive PkgMode where
  | cold | seqUp | seqDown | on
  deriving DecidableEq, Repr

/-- A partition's mode (R504). -/
inductive Mode where
  | build | restore | serve | solo | drain | service
  deriving DecidableEq, Repr

/-- MODE codes (R504). -/
def Mode.code : Mode → Nat
  | .build => 2 | .restore => 3 | .serve => 4 | .solo => 5 | .drain => 6 | .service => 7

/-- The causes of a mode change, a drain or a halt (R533). -/
inductive Cause where
  | power | holdup | thermal | command | bmc | off | critical | dieLost | metadataLost | buildFail | restoreFail
  | drainUnknown | twinFenced | timeLost | promoted | peerFenced | resyncDone | image | noImage | held | powerUp | stepsDone
  deriving DecidableEq, Repr

/-- Cause codes (R533). -/
def Cause.code : Cause → Nat
  | .power => 0x01 | .holdup => 0x02 | .thermal => 0x03 | .command => 0x04 | .bmc => 0x05 | .off => 0x06
  | .critical => 0x07 | .dieLost => 0x08 | .metadataLost => 0x09 | .buildFail => 0x0A | .restoreFail => 0x0B
  | .drainUnknown => 0x0C | .twinFenced => 0x0D | .timeLost => 0x0E | .promoted => 0x0F | .peerFenced => 0x10
  | .resyncDone => 0x11 | .image => 0x12 | .noImage => 0x13 | .held => 0x14 | .powerUp => 0x15 | .stepsDone => 0x16

/-- A pending MODE_REQUEST (R521) and the command that waits for it. -/
structure ModeReq where
  target : Nat
  cmd : CmdRef
  deriving DecidableEq, Repr

/-- Mode state of one partition (R505, R509-R522). -/
structure ModeSt where
  mode : Mode
  causes : List Cause
  halted : Bool
  /-- the causes of the halt (R512) -/
  haltCauses : List Cause
  haltComplete : Bool
  hold : Bool
  pending : Option ModeReq
  /-- a request decided while a TARGET DRAIN waits for its drain (R521) -/
  later : Option ModeReq
  /-- the cause that the last thermal restart wait began with, and whether its restart limit is reached (R518 row 6) -/
  restartRefused : Bool
  /-- formed under R508 -/
  provisional : Bool
  since : Nat
  deriving DecidableEq, Repr

def ModeSt.reset : ModeSt :=
  { mode := .build, causes := [], halted := false, haltCauses := [], haltComplete := false, hold := false, pending := none, later := none,
    restartRefused := false, provisional := false, since := 0 }

end Sys2Proof.Machine
end

