-- ==== Sys2Proof/Machine/StRemote.lean ====
section
/-! DEFINITION. State of remote access (03, 04): queue pairs, windows, admission, rates, operations in flight, the budget. -/
namespace Sys2Proof.Machine
open Sys2Proof

/-- STATE of a QP context (R103, R104). -/
inductive QpState where
  | free | connecting | ready | error | closing | timewait
  deriving DecidableEq, Repr

/-- What an operation does (R84); `status` is the status record of a host service message (R135), `ring` a keystone ring
entry (R161). -/
inductive OpKind where
  | write
  | writeImm (imm : BitVec 32)
  | read
  | cas (cmp swp : BitVec 64)
  | fadd (add : BitVec 64)
  | atomicWrite
  | flush (level : Nat) (visibility persistence : Bool)
  | status
  deriving DecidableEq, Repr

/-- A service profile (R546). -/
structure Profile where
  keystone : Bool
  durability : Nat
  encipher : Bool
  prio : Nat
  deriving DecidableEq, Repr

/-- The message a QP is in the middle of (R115): what its First packet recorded, and how far it has come. -/
structure CurMsg where
  send : Bool
  win : Nat
  gen : Nat
  /-- the virtual address the next packet starts at -/
  va : Nat
  left : Nat
  total : Nat
  /-- the payload gathered so far, for SEND messages -/
  gathered : List Byte
  deriving DecidableEq, Repr

/-- A QP context (R103) with the working state that the rules of chapters 03 and 10 give it. -/
structure Qp where
  state : QpState
  twinned : Bool
  policy : BitVec 2
  pmtu : BitVec 3
  tenant : Nat
  qpn : BitVec 24
  dest : BitVec 24
  epsn : BitVec 24
  msn : BitVec 24
  ip : BitVec 128
  mac : BitVec 48
  vlan : BitVec 16
  dscp : BitVec 6
  respRes : Nat
  /-- port of the die and breakout index -/
  port : Nat
  brk : Nat
  errCause : Nat
  errStamp : Nat
  /-- in units of 1 Mb/s -/
  rate : Nat
  cnpCount : Nat
  cur : Option CurMsg
  /-- original values of answered atomics whose responder resource is still held (R119) -/
  saved : List (BitVec 24 × BitVec 64)
  /-- the highest PSN accepted so far (R118) -/
  lastAcc : Option (BitVec 24)
  unacked : Nat
  oldestUnacked : Option Nat
  /-- a PSN sequence error NAK has been sent for the gap that stands open (R120) -/
  gapNaked : Bool
  /-- cycle of the last REP sent and the resends so far (R100) -/
  repAt : Option Nat
  repResends : Nat
  /-- the REP waits for the twin to have this QP_OPEN message (R402) -/
  repWait : Option Nat
  closingAt : Option Nat
  timewaitAt : Option Nat
  drepPending : Bool
  lastCnpSent : Option Nat
  cnpTimes : List Nat
  lastDecrease : Option Nat
  /-- start of the running 40 µs interval without a CNP, and how many increases have followed one another (R140) -/
  quietSince : Nat
  increases : Nat
  /-- the cycle before which no further paced response may start (R140) -/
  paceAt : Nat
  /-- twinned QPs: when an open PSN gap was first seen, and the fetch outstanding since (R405, R406) -/
  gapSince : Option Nat
  fetchSince : Option Nat
  /-- twinned QPs of a follower: the PSN at which it has itself found a fatal condition (R409) -/
  fatalAt : Option (BitVec 24)
  deriving DecidableEq, Repr

/-- The keystone ring of a window (R160-R163). -/
structure Ring where
  key : BitVec 32
  va : Nat
  order : Nat
  next : Nat
  deriving DecidableEq, Repr

/-- A window-table entry (R107) with its ring. -/
structure Win where
  baseVa : Nat
  length : Nat
  gen : Nat
  firstBrick : Nat
  tenant : Nat
  profile : Nat
  rights : BitVec 5
  farDevice : Nat
  valid : Bool
  far : Bool
  ring : Option Ring
  /-- a REVOKE_WINDOW on the index has begun and not completed (R131): its cycle -/
  revoking : Option Nat
  /-- REVOKE_FORCED has struck it (R129): its cycle -/
  forced : Option Nat
  /-- GEN has reached 255 and the index waits for a new check key (R112) -/
  retired : Bool
  deriving DecidableEq, Repr

/-- A tenant's authorisation in a partition (R734, R735). -/
structure Tenant where
  cls : Nat
  slot : Nat
  token : List Byte
  hostHampers : Bool
  farDevices : List Nat
  reserve : Nat
  meter : Nat
  badCredentials : Nat
  degradedFlush : Nat
  deriving DecidableEq, Repr

/-- An operation in flight: in the operation table of its ingress die until it has ended (R116, R122). -/
structure Op where
  id : Nat
  die : Nat
  qpn : BitVec 24
  psn : BitVec 24
  kind : OpKind
  tenant : Nat
  win : Nat
  gen : Nat
  profile : Profile
  /-- position in the backing partition's device address space of the first byte, and the byte count -/
  addr : Nat
  len : Nat
  data : List Byte
  msn : BitVec 24
  /-- the message's length; for an operation of a far stream, its SSEQ (R474) -/
  msgLen : Nat
  /-- it ends its message -/
  last : Bool
  /-- the core cycle of the pipeline's decision -/
  decided : Nat
  /-- the core cycle of acceptance (R142) -/
  accepted : Option Nat
  /-- brick and page pairs it holds a charge for -/
  charged : List (Nat × Nat)
  /-- the ring index allocated to it (R163) -/
  ring : Option Nat
  /-- the QP's EPSN, MSN and message position before it (R796) -/
  beforeMsn : BitVec 24
  beforeCur : Option CurMsg
  /-- flash units of flash-direct reads that have come in for it -/
  direct : List (Nat × Nat)
  /-- it waits for a fill, a rebuild or a frame since this cycle -/
  stalledAt : Option Nat
  /-- the backing device of its far window (R176) -/
  farTo : Option Nat
  /-- the SSEQ it was forwarded under (R474); none while it still waits for what must come before it on its QP -/
  sseq : Option Nat
  /-- it is the ring entry alone of a keystone in a far window, charged and placed here: neither metered nor acknowledged -/
  mirrored : Bool
  farFrom : Option Nat
  /-- its response must not be sent: the QP is in ERROR (R122) -/
  silent : Bool
  /-- it re-executes a duplicate request (R119) -/
  duplicate : Bool
  /-- both halves of the tenant's key at the cipher stage of the lines written whole (R573, R583) -/
  keys : Option (List Byte × List Byte)
  /-- the immediate data of a keystone waits for its ring entry to be placed, whose page is charged (R147, R162) -/
  ringDue : Bool
  /-- of a FLUSH: the writes in its scope, fixed when it is decided (R165, R167) -/
  scope : List Nat
  /-- pages already merged (R397: a held mirrored write merges page by page) -/
  merged : List (Nat × Nat)
  /-- a follower's twinned READ: the data of each page as its READ entry found it (R408) -/
  captured : List ((Nat × Nat) × List Byte)
  deriving DecidableEq, Repr

/-- A placed write that its twin has not yet confirmed (R170), for the FLUSHes whose scope holds it. -/
structure Unconfirmed where
  qpn : BitVec 24
  psn : BitVec 24
  win : Nat
  addr : Nat
  len : Nat
  mseq : Nat
  /-- it was accepted before this FLUSH-order number -/
  opId : Nat
  deriving DecidableEq, Repr

/-- The connection admission of a partition (R96-R98): counted in units of 2^-16 ns of fabric time. -/
structure Admission where
  /-- the end of the slot used last -/
  nextSlot : Nat
  /-- promised slots by requester: its address and its QPN, which is the model's choice (log 190) -/
  promised : List ((BitVec 128 × BitVec 24) × Nat)
  deriving DecidableEq, Repr

/-- A rate bucket pair of a tenant on a die (R137), in bytes and requests, each scaled by 10^9 so that refill is exact. -/
structure Bucket where
  bytes : Int
  requests : Int
  /-- fabric time of the last refill -/
  at_ : Nat
  deriving DecidableEq, Repr

/-- A host service message in a tenant's queue (R132-R134). -/
structure SvcMsg where
  qpn : BitVec 24
  bytes : List Byte
  deriving DecidableEq, Repr

/-- A message that steward 0 has taken from the queue, with its checked STATUS_KEY (R136). -/
structure SvcWork where
  tenant : Nat
  qpn : BitVec 24
  typ : Nat
  tag : Nat
  key : BitVec 32
  va : Nat
  body : List Byte
  /-- the status the envelope's checks decide before the type's work -/
  early : Option Nat
  deriving DecidableEq, Repr

/-- A status record that waits at the budget home to be charged and placed (R147). -/
structure StatusRec where
  tenant : Nat
  key : BitVec 32
  va : Nat
  bytes : List Byte
  deriving DecidableEq, Repr

/-- The dirty budget of a partition at its budget home (R146, R352-R357). -/
structure Budget where
  b : Nat
  pages : Nat
  data : Nat
  meta_ : Nat
  homeFree : Nat
  /-- charges held by pages and by accepted packets -/
  charged : Nat
  wP : Nat
  pMeas : Nat
  /-- W_c of each flash channel, by die and channel -/
  wC : List ((Nat × Nat) × Nat)
  deriving DecidableEq, Repr

/-- Remote-access state of one partition. -/
structure RemoteP where
  windows : List (Nat × Win)
  tenants : List (Nat × Tenant)
  checkKey : Option (Nat × Nat)
  admission : Admission
  svcQueue : List (Nat × List SvcMsg)
  svcWork : List SvcWork
  statusRecs : List StatusRec
  ops : List Op
  nextOp : Nat
  unconfirmed : List Unconfirmed
  budget : Budget
  /-- counters of the partition, by name -/
  counters : List (String × Nat)
  degradedLogAt : Option Nat
  degradedSince : Nat
  deriving DecidableEq, Repr

/-- Remote-access state of one die. -/
structure RemoteD where
  /-- contexts by slot -/
  qps : List (Nat × Qp)
  /-- generations of slots that have moved on from the die's starting generation (R102, R798) -/
  gens : List (Nat × Nat)
  startGen : Nat
  /-- generation of each window index in the die's replica and the revoke stamp (R125). The entries themselves are identical on every die (R107) and are written on one
  cycle (log 191), so that the partition's table stands for each replica -/
  replica : List (Nat × Nat)
  revokeStamps : List (Nat × Nat)
  eraseStamps : List (Nat × Nat)
  buckets : List (Nat × Bucket)
  credit : Nat
  drainStamp : Option Nat
  causes : List (Nat × Nat)
  wrongPort : Nat
  /-- QP_ERR_CAUSE (R768): cause, QPN and stamp as the register holds them -/
  errReg : Nat
  /-- IMM_DISCARDED and BAD_STATUS of the die (R136, R164, R769) -/
  immDiscarded : Nat
  badStatus : Nat
  /-- fabric second of the last key-event record and the events counted since (R121) -/
  keyLogAt : Option Nat
  keyEvents : Nat
  deriving DecidableEq, Repr

def Budget.reset : Budget :=
  { b := 0, pages := 0, data := 0, meta_ := 0, homeFree := 0, charged := 0, wP := 0, pMeas := 0,
    wC := [] }

def RemoteP.reset : RemoteP :=
  { windows := [], tenants := [], checkKey := none, admission := { nextSlot := 0, promised := [] }, svcQueue := [],
    svcWork := [], statusRecs := [], ops := [], nextOp := 0, unconfirmed := [], budget := Budget.reset, counters := [],
    degradedLogAt := none, degradedSince := 0 }

def RemoteD.reset : RemoteD :=
  { qps := [], gens := [], startGen := 1, replica := [], revokeStamps := [], eraseStamps := [], buckets := [], credit := 0,
    drainStamp := none, causes := [], wrongPort := 0, errReg := 0, immDiscarded := 0, badStatus := 0, keyLogAt := none, keyEvents := 0 }

end Sys2Proof.Machine
end

