-- ==== Sys2Proof/Machine/StService.lean ====
section
/-! DEFINITION. State of the service die (16, 17): NV store structures, logbook, watchdog, sideband, TAP, sequencer, supply
pins, AVSBus and the thermal model. Service-die times are counted in core cycles, 4 to a service-die cycle. -/
namespace Sys2Proof.Machine
open Sys2Proof

/-- The names of the logbook records (R687). -/
inductive LogCode where
  | logSuppressed | logSummary | permanentFull | logFreezeChange | nvWear | nvProgramFail | sectorReerased | brownOut
  | watchdog | stewardReset | optionDefault | portClaimForced | ownerReleased
  | modeChange | drainStart | drainDone | restoreCheckpoint | drainShort | budgetZero | drainCut
  | seqStep | seqFault | seqLatched | seqTableBad | railFault | railDischarge | chainTimeout | avsLost | avsFault
  | ambientStale | modelDiverge | diodeFault | thermalWarn | thermalLockout | pwrFailEdge | holdupEdge | criticalOff
  | thermalSevere | bmcDrainRequest
  | meshLink | serviceLink | stewardFail | courseGeometry | dimmUnsupported | thermalExit | sidebandLost | pmicFault
  | calUnstable | phyRetired | deviceMark | spdChanged | lostListFull | pageLost | poolShort | metadataLost | spareRowAdded
  | portDown
  | flashUnsupported | flashGeometry | flashCapacity | wbOvertime | lunRetired | flashShort | flashExhausted
  | keyCheckEvents | degradedFlush | twinSplit | deviceConflict | timeLost | twinFenced | revokeForced | mirrorPathDown
  | mirrorLost | followerLagging | arbiterLost | farTimeout | restoreTwinTimeout
  | sealFail | entropyFail | unwrapBurst | rekeyDone | keyErased | debugUnlock | debugRefused | ownerSet | ropChange
  | imageApplied | imageRefused | imageChainCut | imageFallback | fwLoaded | fwFallback | bootFail | evidenceCommit
  deriving DecidableEq, Repr

/-- SOURCE of a record (R684): the die (none: the service die) and the partition of a partition-scoped record. -/
structure LogSrc where
  die : Option Nat
  part : Option Nat
  deriving DecidableEq, Repr

/-- A logbook record (R684). -/
structure LogRec where
  code : LogCode
  permanent : Bool
  summary : Bool
  uptime : Bool
  overflow : Bool
  src : LogSrc
  rep : Nat
  seq : Nat
  time : Nat
  payload : List Byte
  /-- the rolling sector that holds it; none in the permanent region -/
  sector : Option Nat
  deriving DecidableEq, Repr

/-- Suppressed events of one CODE and SOURCE since the last summary (R691). -/
structure Suppressed where
  count : Nat
  first : Nat
  last : Nat
  lastPayload : List Byte
  deriving DecidableEq, Repr

/-- The logbook (R684-R694). -/
structure Logbook where
  recs : List LogRec
  permUsed : Nat
  /-- rolling head: sector 0-447 and bytes used in it -/
  head : Nat
  headUsed : Nat
  /-- the sector after the head is erased and ready -/
  nextErased : Bool
  seq : Nat
  /-- the byte bucket in bytes × 10^9 (R690), and the fabric or uptime nanosecond of its last refill -/
  bucket : Int
  bucketAt : Nat
  /-- records written in the running second, by code and source -/
  second : List ((LogCode × LogSrc) × (Nat × Nat))
  suppressed : List ((LogCode × LogSrc) × Suppressed)
  written : Nat
  suppressedTotal : Nat
  dropped : Nat
  summaryAt : Nat
  deriving DecidableEq, Repr

/-- An entry of the erase journal (R681). -/
structure EraseEntry where
  sector : Nat
  reason : Nat
  count : Nat
  jseq : Nat
  done : Bool
  deriving DecidableEq, Repr

/-- A boot anchor record (R671): TYPE, ANCHOR_SEQ and VALUE. -/
structure Anchor where
  typ : Nat
  seq : Nat
  value : Nat
  deriving DecidableEq, Repr

/-- An entry of the power sequence table (R616). -/
structure SeqEntry where
  en : Nat
  pg : Nat
  sns : Option Nat
  avs : Option Nat
  nominalMv : Nat
  offMv : Nat
  pgTimeout : Nat
  stepDelay : Nat
  discharge : Nat
  nominalW : Nat
  deriving DecidableEq, Repr

/-- The power sequence table (R616). -/
structure SeqTable where
  follow : Bool
  upTimeout : Nat
  dnTimeout : Nat
  coreEntry : Nat
  entries : List SeqEntry
  deriving DecidableEq, Repr

/-- The option area record in force (R673). -/
structure OptionRec where
  gen : Nat
  vendorDebug : Bool
  logCompat : Bool
  logFrozen : Bool
  i3cAddr : Nat
  /-- OWNER_HASH; empty where the record holds none -/
  ownerHash : List Byte
  /-- the bytes of the sequence table; empty for the factory table of R618 -/
  seqTable : List Byte
  deriving DecidableEq, Repr

/-- A firmware copy (R602-R605, R699): target 0 the service die, 1 the stewards. -/
structure FwCopy where
  committed : Bool
  seq : Nat
  digest : List Byte
  bytes : List Byte
  bootOk : Bool
  failed : Bool
  resets : Nat
  raiseFloor : Bool
  deriving DecidableEq, Repr

/-- The chunked firmware load of the sideband (R704). -/
structure FwLoad where
  target : Nat
  copy : Nat
  bytes : List Byte
  deriving DecidableEq, Repr

/-- The NV store of the service die by structure (R668); the structures of other chapters stand with their subsystem. -/
structure Nv where
  anchors : List Anchor
  /-- the sector in use of the two of the anchors, and records in it; likewise of the option area (R671-R673) -/
  anchorSector : Nat
  anchorUsed : Nat
  option : Option OptionRec
  optionSector : Nat
  optionUsed : Nat
  journal : List EraseEntry
  eraseCounts : List (Nat × Nat)
  /-- a sector erase under way, and whether the brown-out detector has stopped it -/
  erasing : Option EraseEntry
  eraseStopped : Bool
  /-- the cycle on which the erase under way ends -/
  eraseEnd : Nat
  svcFw : List FwCopy
  stewFw : List FwCopy
  certChain : List Byte
  /-- a service-die reset by the watchdog has still to write its WATCHDOG record (R697) -/
  watchdogDue : Bool
  deriving DecidableEq, Repr

/-- A steward as the service die sees it (R698). -/
structure Steward where
  /-- the cycles of its resets in the last 10 minutes -/
  resets : List Nat
  deriving DecidableEq, Repr

/-- The firmware watchdog (R696). -/
structure Watchdog where
  lastRestart : Nat
  recovery : Bool
  deriving DecidableEq, Repr

/-- The sideband target (R700-R706). -/
structure Sideband where
  staticAddr : Nat
  dynAddr : Option Nat
  readPtr : Nat
  mwl : Nat
  mrl : Nat
  ibiEnabled : Bool
  ibiPending : List Nat
  ibiLast : List (Nat × Nat)
  /-- the mailbox -/
  busy : Bool
  doneBit : Bool
  status : Nat
  resultLen : Nat
  opcode : Nat
  params : List Byte
  result : List Byte
  data : Memory
  fwLoad : Option FwLoad
  /-- mailbox commands that have ended and whose result is not yet written -/
  ended : List Ended
  badAmbient : Nat
  /-- the value that the last read-type CCC put on the bus -/
  lastCcc : List Byte
  deriving DecidableEq, Repr

/-- What the boundary register does (R707, R709). -/
inductive TapPins where
  | system | extest | clamp | highz | pulse | train
  deriving DecidableEq, Repr

/-- The TAP (R707-R710). -/
structure Tap where
  instr : Nat
  pins : TapPins
  boundary : List Bool
  /-- STATUS bits 6 and 7 -/
  refused : Bool
  unlockOk : Bool
  /-- the data register that the last instruction selected, as read -/
  dr : List Byte
  deriving DecidableEq, Repr

/-- Where the sequencer stands (R623, R631). -/
inductive SeqPhase where
  | off
  | waitChainUp
  | waitPg (entry : Nat)
  | stepDelay (entry : Nat)
  | waitPll
  | loadFw
  | checkImage
  | up
  | waitChainDn
  | discharge (entry : Nat)
  deriving DecidableEq, Repr

/-- Why a step of the sequence failed (R629). -/
inductive SeqKind where
  | timeout | chatter | lowRail | clock
  deriving DecidableEq, Repr

/-- The power sequencer (R619-R638). -/
structure Sequencer where
  phase : SeqPhase
  /-- the cycle on which the phase began -/
  since : Nat
  /-- entries whose SEQ_EN is asserted, in the order of assertion -/
  enabled : List Nat
  /-- entries whose power-good is debounced asserted -/
  good : List Nat
  /-- raw transitions of each entry's PG input in the running step, and the levels last seen -/
  raw : List (Nat × Nat)
  sns : List (Nat × Nat)
  /-- the running down-sequence is a reversal, a fault's reversal, or a hardware power-off -/
  reversal : Bool
  hardware : Bool
  /-- a withdrawal waits for the step in progress to end (R634) -/
  reverseDue : Bool
  retries : Nat
  latched : Bool
  fault : Option (Nat × SeqKind)
  coldSince : Nat
  /-- the last entry into COLD was a hardware power-off with cause CRITICAL -/
  coldCritical : Bool
  pllLocked : Bool
  /-- the cycle of step 7 of the power-up, from which the control ports exist (R712) -/
  portsAt : Nat
  retryAt : Option Nat
  deriving DecidableEq, Repr

/-- The supply and chain pins (R637, R640, R789) with the cycle of their last change. -/
structure Pins where
  pwrReq : Bool
  pwrReqSince : Nat
  pwrFail : Bool
  pwrFailSince : Nat
  holdupOk : Bool
  holdupSince : Nat
  chainUpIn : Bool
  chainDnIn : Bool
  chainUpOut : Bool
  chainDnOut : Bool
  /-- SEQ_EN0-SEQ_EN11 that are asserted -/
  seqEn : List Nat
  /-- THERM_TRIP_N is driven low -/
  thermTrip : Bool
  ethRefclk : Bool
  ethRefclkLostAt : Option Nat
  pcieRefclk : List Bool
  tmuxGroup : Nat
  tmuxDie : Nat
  /-- the core cycle of the latest selection, and its path: 0 JTAG, 1 and 2 the ports (R52, R758) -/
  tmuxAt : Nat × Nat
  deriving DecidableEq, Repr

/-- An AVSBus rail as last read (R641-R645). -/
structure AvsRail where
  mv : Nat
  ma : Nat
  lastGood : Nat
  lost : Bool
  faultSeen : Bool
  deriving DecidableEq, Repr

/-- A node of the thermal model (R646, R649): temperature in °C. -/
structure Node where
  temp : Rat
  diode : Option Rat
  divergeSince : Option Nat
  below80Since : Option Nat
  /-- the power poured into it over the last update, in mW (R648) -/
  power : Rat
  deriving DecidableEq, Repr

/-- A die's thermal state (R652-R660). -/
structure DieTherm where
  temp : Rat
  /-- temperatures at past updates, newest first, for the rise rate (R653) -/
  history : List (Nat × Rat)
  rise : Rat
  band : Nat
  belowSince : Option Nat
  throttle : Nat
  severeArmed : Bool
  warnLogAt : Option Nat
  deriving DecidableEq, Repr

/-- The thermal model engine (R646-R666). -/
structure Thermal where
  nodes : List (Nat × Node)
  dies : List (Nat × DieTherm)
  svcTemp : Rat
  lastUpdate : Nat
  fast : Bool
  calmSince : Option Nat
  /-- ambient in 1/16 °C, when it was written, and whether it is stale (R650) -/
  ambient : Int
  ambientAt : Nat
  stale : Bool
  diodeFaults : List Nat
  /-- the factor of the activity terms, and when it was last formed (R648) -/
  scale : Rat
  scaleAt : Nat
  /-- cycles of the automatic restarts of the last 24 operating hours (R665) -/
  restarts : List Nat
  lockout : Bool
  /-- the last reading of each diode, in °C, in its range or not (R651, R661) -/
  raw : List (Nat × Rat)
  /-- when the throttle levels last ticked (R658) -/
  throttleAt : Nat
  deriving DecidableEq, Repr

/-- The service die's state of chapters 16 and 17. -/
structure Service where
  /-- the boot has run since the standby rails came up, and what it found (SB_STATUS): 0 RUNNING, 1 BOOT_FAIL, 2 NO_SEQUENCE -/
  booted : Bool
  fwStatus : Nat
  bootAt : Nat
  /-- copy of each target that runs, and when it started -/
  runningSvc : Nat
  runningStew : Nat
  nv : Nv
  log : Logbook
  watchdog : Watchdog
  stewards : List ((Nat × Nat) × Steward)
  brownOut : Bool
  sideband : Sideband
  tap : Tap
  seqTable : Option SeqTable
  seq : Sequencer
  pins : Pins
  avs : List (Nat × AvsRail)
  coreTarget : Nat
  coreWriteAt : Option Nat
  powerMw : Nat
  thermal : Thermal
  deriving DecidableEq, Repr

def Logbook.reset : Logbook :=
  { recs := [], permUsed := 0, head := 0, headUsed := 32, nextErased := true, seq := 0, bucket := 1048576 * 1000000000,
    bucketAt := 0, second := [], suppressed := [], written := 0, suppressedTotal := 0, dropped := 0, summaryAt := 0 }

/-- The factory sequence table of R618, by die count. -/
def SeqTable.factory (dies : Nat) : SeqTable :=
  let e (i mv off sd dis : Nat) (avs : Option Nat) (w : Nat) : SeqEntry :=
    { en := i, pg := i, sns := some i, avs := avs, nominalMv := mv, offMv := off, pgTimeout := 10, stepDelay := sd,
      discharge := dis, nominalW := w * dies }
  { follow := false, upTimeout := 2000, dnTimeout := 1000, coreEntry := 1,
    entries := [e 0 1800 300 1000 20 none 10, e 1 750 150 1000 50 (some 0) 0, e 2 850 150 500 20 (some 1) 0,
      e 3 900 200 500 20 (some 2) 0, e 4 1200 300 500 20 none 15, e 5 1100 300 500 20 none 50,
      e 6 1200 300 2000 20 none 12] }

/-- The option record that a package leaves manufacture with: the factory table of R618, and the values of R674. -/
def factoryOption : OptionRec :=
  { gen := 1, vendorDebug := false, logCompat := false, logFrozen := false, i3cAddr := 0x3A, ownerHash := [], seqTable := [] }

def Nv.reset : Nv :=
  { anchors := [{ typ := 1, seq := 1, value := 1 }], anchorSector := 0, anchorUsed := 1, option := some factoryOption, optionSector := 0,
    optionUsed := 1, journal := [], eraseCounts := [], erasing := none,
    eraseStopped := false, eraseEnd := 0,
    svcFw := [{ committed := true, seq := 1, digest := [], bytes := [], bootOk := true, failed := false, resets := 0,
                raiseFloor := false },
              { committed := false, seq := 0, digest := [], bytes := [], bootOk := false, failed := false, resets := 0,
                raiseFloor := false }],
    stewFw := [{ committed := true, seq := 1, digest := [], bytes := [], bootOk := true, failed := false, resets := 0,
                 raiseFloor := false },
               { committed := false, seq := 0, digest := [], bytes := [], bootOk := false, failed := false, resets := 0,
                 raiseFloor := false }],
    certChain := [], watchdogDue := false }

def Sideband.reset : Sideband :=
  { staticAddr := 0x3A, dynAddr := none, readPtr := 0, mwl := 4160, mrl := 4160, ibiEnabled := false, ibiPending := [],
    ibiLast := [], busy := false, doneBit := false, status := 0, resultLen := 0, opcode := 0, params := fill 56 0,
    result := fill 52 0, data := [], fwLoad := none, ended := [], badAmbient := 0, lastCcc := [] }

def Sequencer.reset : Sequencer :=
  { phase := .off, since := 0, enabled := [], good := [], raw := [], sns := [], reversal := false, hardware := false,
    reverseDue := false, retries := 0, latched := false, fault := none, coldSince := 0, coldCritical := false,
    pllLocked := false, portsAt := 0, retryAt := none }

def Pins.reset : Pins :=
  { pwrReq := false, pwrReqSince := 0, pwrFail := true, pwrFailSince := 0, holdupOk := false, holdupSince := 0,
    chainUpIn := false, chainDnIn := false, chainUpOut := false, chainDnOut := false, seqEn := [], thermTrip := false,
    ethRefclk := true, ethRefclkLostAt := none, pcieRefclk := [true, true], tmuxGroup := 0, tmuxDie := 0, tmuxAt := (0, 0) }

def Thermal.reset : Thermal :=
  { nodes := [], dies := [], svcTemp := 25, lastUpdate := 0, fast := false, calmSince := none, ambient := 0x320,
    ambientAt := 0, stale := true, diodeFaults := [], scale := 1, scaleAt := 0, restarts := [], lockout := false,
    raw := [], throttleAt := 0 }

def Service.reset : Service :=
  { booted := false, fwStatus := 0, bootAt := 0, runningSvc := 0, runningStew := 0, nv := Nv.reset, log := Logbook.reset,
    watchdog := { lastRestart := 0, recovery := false }, stewards := [], brownOut := false,
    sideband := Sideband.reset,
    tap := { instr := 1, pins := .system, boundary := [], refused := false, unlockOk := false, dr := [] },
    seqTable := none, seq := Sequencer.reset, pins := Pins.reset, avs := [], coreTarget := 0, coreWriteAt := none,
    powerMw := 0, thermal := Thermal.reset }

end Sys2Proof.Machine
end

