-- ==== Sys2Proof/Machine/StStore.lean ====
section
/-! DEFINITION. State of storage: bricks, pages and DRAM (02, 05, 06), tiers and hampers (07), flash (08), drain and restore (09). -/
namespace Sys2Proof.Machine
open Sys2Proof

/-- The address orders (R67). -/
inductive Order where
  | spray | die | channel | bank
  deriving DecidableEq, Repr

/-- A course as BUILD has found it (R62-R66). -/
structure Course where
  w : Nat
  d : Nat
  order : Order
  p : Nat
  dies : List Nat
  /-- course channel j as (die, channel) (R63) -/
  channels : List (Nat × Nat)
  r : Nat
  h : Nat
  rows : Nat
  frames : Nat
  metaFrames : Nat
  inService : Bool
  /-- frames that have left the pool (R209, R265) -/
  retired : List Nat
  /-- the eviction hand (R292) -/
  hand : Nat
  /-- metadata frames that have moved, with the frame of the pool that holds each now, and those that still wait for one (R211) -/
  metaMoved : List (Nat × Nat)
  metaDue : List Nat
  deriving DecidableEq, Repr

/-- A brick-map entry (R59), the brick's VALID bitmap (R71) and its per-brick flags. Only allocated bricks are listed. -/
structure Brick where
  /-- course and frame while RES = 1 -/
  res : Option (Nat × Nat)
  pin : Bool
  mirror : Bool
  placement : Nat
  keyHalf : Nat
  cursor : Nat
  tenant : Nat
  age : Nat
  /-- the cycle of its last access (R291) -/
  accessed : Option Nat
  valid : BitVec 512
  object : Nat
  evicting : Bool
  evictFor : Option Nat
  evacuating : Bool
  /-- whether its next frame may come from a course that its object's COURSE_MASK leaves out (R289) -/
  anyCourse : Bool
  deriving DecidableEq, Repr

/-- A grout entry (R193-R195): the P delta lines, byte b of delta line j at 64 j + b, and the cycle of the first delta. -/
structure Grout where
  delta : Memory
  first : Nat
  deriving DecidableEq, Repr

/-- A page of a resident brick (R71, R148, R196, R220). Pages not listed are neither FILLED nor DIRTY. -/
structure Page where
  filled : Bool
  dirty : Bool
  stale : Bool
  grout : Option Grout
  /-- lines that hold the poison pattern: data lines, and from bit 64 on parity lines (R220) -/
  poison : BitVec 72
  /-- deltas of this page were lost with a grout entry: its parity is not current until it is computed anew (R199) -/
  lostGrout : Bool
  charges : Nat
  wbBusy : Bool
  mergedSince : Bool
  dirtySince : Nat
  prio : Nat
  /-- a rebuild holds merges into it (R206) -/
  held : Bool
  /-- within the step of its rebuild: what waits for it reads the rebuilt lines (R205) -/
  rebuilt : Bool
  deriving DecidableEq, Repr

/-- A corrective write that is due, and the re-read after it (R201-R203). -/
structure Corrective where
  course : Nat
  frame : Nat
  page : Nat
  k : Nat
  /-- the device position located; 10 for a line that a rebuild has written back (R203) -/
  pos : Nat
  at_ : Nat
  written : Option Nat
  placedSince : Bool
  deriving DecidableEq, Repr

/-- The place of a line in DRAM (R67-R70). -/
structure Place where
  die : Nat
  ch : Nat
  sub : Nat
  rank : Nat
  bg : Nat
  ba : Nat
  row : Nat
  burst : Nat
  deriving DecidableEq, Repr

/-- STATUS of a spare-row map entry (R216). -/
inductive SpareStatus where
  | pending | spprApplied | hpprDone | noResource | inProgress | rankRetired
  deriving DecidableEq, Repr

/-- A spare-row map entry (R216). -/
structure SpareRow where
  die : Nat
  ch : Nat
  /-- the DIMM slot whose map holds the entry (R216) -/
  slot : Nat
  sub : Nat
  rank : Nat
  bg : Nat
  ba : Nat
  row : Nat
  status : SpareStatus
  faults : Nat
  attempts : Nat
  time : Nat
  deriving DecidableEq, Repr

/-- A device mark of the spare-row map (R187, R216), and the lines served with it (R188). -/
structure Mark where
  die : Nat
  ch : Nat
  slot : Nat
  rank : Nat
  sub : Nat
  pos : Nat
  served : Nat
  deriving DecidableEq, Repr

/-- A unit out of service (R209). -/
inductive OutUnit where
  | row (pl : Place)
  | rank (die ch rank : Nat)
  | channel (die ch : Nat)
  | die (die : Nat)
  deriving DecidableEq, Repr

/-- An entry of the lost-page list (R221): part of the NV store. -/
structure LostPage where
  /-- which of the list's 4,096 entries it is -/
  slot : Nat
  part : Nat
  brick : Nat
  page : Nat
  cause : Nat
  tenant : Nat
  time : Nat
  deriving DecidableEq, Repr

/-- A running SCRUB and its counts (R213-R215). -/
structure Scrub where
  kind : Nat
  /-- the host port and the bus address of the summary -/
  port : Nat
  addr : Nat
  start : Nat
  linesRead : Nat
  corrected : Nat
  flagged : Nat
  checked : Nat
  pagesCorrected : Nat
  rebuilt : Nat
  reloaded : Nat
  fetched : Nat
  lost : Nat
  recomputed : Nat
  hard : Nat
  rows : Nat
  marks : Nat
  byPos : List (Nat × Nat)
  deriving DecidableEq, Repr

/-- A DIMM (R228, R249-R251). Temperatures are in 1/16 °C. -/
structure Dimm where
  kind : Nat
  gib : Nat
  serial : Nat
  temp : Int
  sampleAt : Nat
  goodAt : Nat
  tempOk : Bool
  pmic : BitVec 8
  pmicFailed : Bool
  deriving DecidableEq, Repr

/-- A rank's refresh state (R238-R241). -/
structure RankSt where
  slot : Nat
  /-- 0: 3.9 µs, 1: 1.95 µs, 2: 0.975 µs -/
  refi : Nat
  /-- every sample at or below 92 °C, and at or below 82 °C, since (R241) -/
  below95 : Option Nat
  below85 : Option Nat
  postponed : Nat
  pulledIn : Nat
  retired : Bool
  /-- the cycle of the refresh that is scheduled next (R241) -/
  nextRef : Nat
  /-- tRFC1 in nanoseconds, the end of the latest one, and the end of the latest calibration window (R239, R259) -/
  trfc1 : Nat
  busyUntil : Nat
  windowUntil : Nat
  /-- CORRECTED lines of the last second: cycle and device position (R254) -/
  corrections : List (Nat × Nat)
  deriving DecidableEq, Repr

/-- A DDR5 channel (R242-R244). -/
structure ChannelSt where
  inService : Bool
  hot : Bool
  coolSince : Option Nat
  exitAt : Option Nat
  /-- every sample at or below 85 °C since -/
  under85Since : Option Nat
  calibratedSinceExit : List Nat
  deriving DecidableEq, Repr

/-- A bank's activate bookkeeping (R245, R246). -/
structure BankSt where
  rfm : Bool
  raa : Nat
  raaimt : Nat
  raammt : Nat
  table : List (Nat × Nat)
  deriving DecidableEq, Repr

/-- A physical interface (R252-R265). -/
structure Phy where
  setting : List Int
  /-- the settings a gradual application moves to (R260) -/
  target : Option (List Int)
  runTemp : Int
  runAt : Nat
  pending : Option CalWhy
  absorbed : Nat
  running : Bool
  unstable : Nat
  lastWindow : Option Nat
  /-- windows opened for the pending run (R259) -/
  windows : Nat
  stepAt : Nat
  /-- the eye-quality figures of the last run (R253) -/
  eye : List Nat
  works : Bool
  deriving DecidableEq, Repr

/-- An object in force (R274). -/
structure Object where
  part : Nat
  first : Nat
  bricks : Nat
  placement : Nat
  tenant : Nat
  courses : Nat
  /-- 0x5A registered, 0x00 removed -/
  removed : Bool
  /-- it waits for a checkpoint footer before its STATE reads 0x00 (R377), with the footer count it needs -/
  freeing : Option Nat
  deriving DecidableEq, Repr

/-- States of a hamper entry (R300). -/
inductive EntryState where
  | queued | filling | held | late | abandoned | done | skipped
  deriving DecidableEq, Repr

/-- A hamper entry (R300-R309). -/
structure Entry where
  object : Nat
  persistent : Bool
  first : Nat
  pages : Nat
  /-- fabric time; 0 for no deadline (R299) -/
  deadline : Nat
  holdMs : Nat
  state : EntryState
  heldAt : Nat
  holdEnd : Option Nat
  deriving DecidableEq, Repr

/-- A hamper (R299-R304). -/
structure Hamper where
  tenant : Nat
  byHost : Bool
  entries : List Entry
  changed : Nat
  direct : Nat
  deriving DecidableEq, Repr

/-- A direct window (R305-R307): entry, page range of the object, and its end; none until the entry is HELD. -/
structure DirectWin where
  hamper : Nat
  entry : Nat
  object : Nat
  first : Nat
  pages : Nat
  ends : Option Nat
  /-- dies that have recorded it -/
  dies : List Nat
  deriving DecidableEq, Repr

/-- A flash unit's place (R326). -/
structure Loc where
  ch : Nat
  ce : Nat
  lun : Nat
  block : Nat
  page : Nat
  deriving DecidableEq, Repr

/-- A codeword with its header (R321, R322); `page` is the page of the brick, 4 × UNIT + CODEWORD. -/
structure Codeword where
  brick : Nat
  page : Nat
  keyHalf : Nat
  valid : Bool
  seq : Nat
  data : Memory
  deriving DecidableEq, Repr

/-- A flash-map entry (R326). -/
structure FMap where
  loc : Loc
  keyHalf : List Nat
  deriving DecidableEq, Repr

/-- A flash read under way for a unit (R278-R281). -/
structure FRead where
  brick : Nat
  unit : Nat
  /-- it fills the frame; otherwise it is flash-direct -/
  fill : Bool
  /-- operations that wait for it, and whether it reloads a page for R205's fallback -/
  waiting : List Nat
  reload : Bool
  hamper : Option (Nat × Nat)
  at_ : Nat
  deriving DecidableEq, Repr

/-- What a program is for (R349). -/
inductive WbWhy where
  | writeBack | evict | relocate
  deriving DecidableEq, Repr

/-- A write-back in flight (R328-R331). -/
structure WriteBack where
  brick : Nat
  unit : Nat
  group : Nat
  sb : Nat
  loc : Loc
  cws : List Codeword
  dirty : List Nat
  why : WbWhy
  fails : Nat
  at_ : Nat
  /-- for a relocation: the place it copies from -/
  source : Option Loc
  deriving DecidableEq, Repr

/-- State of a superblock (R324, R334-R337). -/
inductive SbState where
  | erased | openWrite | openReloc | closed | drain | ckptLog | erasing
  deriving DecidableEq, Repr

/-- A superblock of a stripe group. -/
structure Superblock where
  state : SbState
  blocks : List Nat
  /-- data units programmed so far -/
  next : Nat
  /-- erase counts of its blocks (R347) -/
  erases : List Nat
  /-- rows whose XOR unit has been programmed -/
  xorRows : Nat
  /-- footers written when its last unit became invalid (R376) -/
  invalidAt : Option Nat
  deriving DecidableEq, Repr

/-- Erases of a superblock's blocks together: what mean erase counts are compared by (R347). -/
def Superblock.worn (sb : Superblock) : Nat := sb.erases.sum

/-- A stripe group (R323). -/
structure Group where
  readOnly : Bool
  gone : Bool
  reserve : Nat
  sbs : List (Nat × Superblock)
  /-- relocation takes 75 % (R338) -/
  heavy : Bool
  deriving DecidableEq, Repr

/-- The flash tier of a partition (08). -/
structure Flash where
  /-- flash channels in increasing order (R323) -/
  channels : List (Nat × Nat)
  ces : Nat
  luns : Nat
  blocks : Nat
  ppb : Nat
  retry : Nat
  fmap : List ((Nat × Nat) × FMap)
  units : List (Loc × List Codeword)
  groups : List (Nat × Group)
  seq : Nat
  wbs : List WriteBack
  reads : List FRead
  readCounts : List ((Nat × Nat × Nat × Nat) × Nat)
  /-- units that must be relocated at once (R342) -/
  urgent : List (Nat × Nat)
  badBlocks : List (Nat × Nat × Nat × Nat)
  /-- those of them that have grown bad, without the factory's (R345, R350) -/
  grown : List (Nat × Nat × Nat × Nat)
  /-- unique IDs of the LUNs by channel, CE and LUN (R320) -/
  uids : List ((Nat × Nat × Nat) × Nat)
  lunsOut : List (Nat × Nat × Nat)
  chOut : List (Nat × Nat)
  rates : List ((Nat × Nat) × Nat)
  turn : Nat
  short : Bool
  exhausted : Bool
  scanned : Bool
  deriving DecidableEq, Repr

/-- Tracked metadata of a brick (R372). -/
structure BrickSaved where
  mirror : Bool
  placement : Nat
  keyHalf : Nat
  cursor : Nat
  tenant : Nat
  object : Nat
  deriving DecidableEq, Repr

/-- Checkpoints and the checkpoint log (R371-R377). -/
structure Ckpt where
  seq : Nat
  gen : Nat
  seqStart : Nat
  startAt : Nat
  startFabric : Nat
  running : Bool
  nextSeqStart : Nat
  /-- CKPT_SEQ of the running checkpoint's first page, and the superblocks that were open at its start (R375) -/
  firstSeq : Nat
  opens : List (Nat × Nat × Nat)
  /-- tracked pages that differ from their last written copies: (TABLE, INDEX) (R373) -/
  dirty : List (Nat × Nat)
  /-- what the log holds -/
  fmap : List ((Nat × Nat) × FMap)
  valid : List (Nat × BitVec 512)
  bricks : List (Nat × BrickSaved)
  /-- the tables stand in DRAM: RESTORE has loaded and replayed them since the last COLD or BUILD -/
  loaded : Bool
  deriving DecidableEq, Repr

/-- Latest of the three kinds of records that R379 looks for. -/
inductive RestoreFact where
  | none_ | serving | drainDone | checkpoint
  deriving DecidableEq, Repr

/-- The case of a RESTORE (R379). -/
inductive RestoreCase where
  | complete | short | unknown
  deriving DecidableEq, Repr

/-- Drain and restore of a partition (09). -/
structure DrainSt where
  /-- the drain's step of R365, 0 outside DRAIN -/
  step : Nat
  stamp : Nat
  drainSeq : Nat
  set : List (Nat × Nat)
  setAt : Option Nat
  /-- manifest in flash: DRAIN_SEQ and the pages it lists (R378) -/
  manifest : Option (Nat × List (Nat × Nat))
  /-- drain units in flash (R370) -/
  units : List Codeword
  done : Bool
  /-- NV: a drain's DRAIN_DONE record stands without its commit marker (R46) -/
  cut : Bool
  /-- NV: the latest record of R379 and the causes of the last DRAIN_DONE (R519) -/
  fact : RestoreFact
  lastCauses : List Nat
  /-- NV: FROM and TO of the partition's last MODE_CHANGE out of DRAIN's account, and whether it entered from SERVICE -/
  lastMode : Nat
  rstep : Nat
  rcase : RestoreCase
  awaited : List (Nat × Nat)
  awaitSince : Option Nat
  /-- by tenant: pages restored, taken from the twin and lost (R385) -/
  short : List (Nat × (Nat × Nat × Nat))
  deriving DecidableEq, Repr

/-- What the cached regions of a die's pantry hold, latest first (R23): lines by 128 × (512 × brick + page) + line, entries of the brick map by brick, page
states by 512 × brick + page. The bytes are those of DRAM and the tables, which the caches never leave behind. -/
structure Caches where
  lines : List Nat
  bricks : List Nat
  states : List Nat
  deriving DecidableEq, Repr

/-- Storage of one partition. -/
structure StoreP where
  courses : List (Nat × Course)
  brickCount : Nat
  bricks : List (Nat × Brick)
  pages : List ((Nat × Nat) × Page)
  /-- stored form of every data byte in DRAM, by device address (R53) -/
  dram : Memory
  /-- parity lines: byte b of parity line j of page p of brick n at (512 n + p) × 512 + 64 j + b -/
  parity : Memory
  /-- errors standing in DRAM lines, by course, frame, page and line (R184) -/
  errs : List ((Nat × Nat × Nat × Nat) × List RawErr)
  correctives : List Corrective
  rebuilds : List (Nat × Nat)
  out : List OutUnit
  evacuate : List (Nat × Nat)
  patrol : List (Nat × Nat)
  scrub : Option Scrub
  metaBytes : Nat
  metaFrames : Nat
  hampers : List (Nat × Hamper)
  direct : List DirectWin
  /-- operations that wait for a frame (R289), since when -/
  frameWaits : List (Nat × Nat)
  evictFor : List Nat
  ageAt : Nat
  counters : List (String × Nat)
  /-- counters by tenant -/
  tcounters : List ((String × Nat) × Nat)
  flash : Flash
  ckpt : Ckpt
  drain : DrainSt
  poolShort : Bool
  /-- frames that hold the twin's change maps: course and frame (R428) -/
  mapFrames : List (Nat × Nat)
  /-- the data rate that BUILD has set, in MT/s (R230) -/
  dataRate : Nat
  /-- by die (R23) -/
  caches : List (Nat × Caches)
  deriving DecidableEq, Repr

/-- Memory interfaces of one die and the hard-fault bookkeeping (05, 06). -/
structure DramD where
  dimms : List ((Nat × Nat) × Dimm)
  ranks : List ((Nat × Nat) × RankSt)
  channels : List (Nat × ChannelSt)
  banks : List ((Nat × Nat × Nat × Nat) × BankSt)
  /-- rows with a hard fault by channel, rank and subchannel (R203), oldest first, and the times of hard faults by position -/
  hardRows : List ((Nat × Nat × Nat) × List (Nat × Nat))
  hardTimes : List ((Nat × Nat × Nat × Nat) × List Nat)
  tableResetAt : Nat
  corrected : Nat
  flagged : Nat
  lostMerge : Nat
  deriving DecidableEq, Repr

/-- Device-wide storage tables of the NV store. -/
structure StoreNv where
  spare : List SpareRow
  marks : List Mark
  slotSerials : List ((Nat × Nat × Nat) × Nat)
  /-- entries of the lost-page list whose STATE reads 0x5A, and those whose STATE reads 0x00 (R221) -/
  lost : List LostPage
  lostGone : List LostPage
  objects : List (Nat × Object)
  /-- object sectors erased: records that a sector erase has freed again are simply unlisted -/
  phySettings : List (PhyId × (Nat × List Int))
  deriving DecidableEq, Repr

def Flash.reset : Flash :=
  { channels := [], ces := 0, luns := 0, blocks := 0, ppb := 0, retry := 0, fmap := [], units := [], groups := [], seq := 0,
    wbs := [], reads := [], readCounts := [], urgent := [], badBlocks := [], grown := [], uids := [], lunsOut := [], chOut := [], rates := [],
    turn := 0, short := false, exhausted := false, scanned := false }

def Ckpt.reset : Ckpt :=
  { seq := 0, gen := 0, seqStart := 0, startAt := 0, startFabric := 0, running := false, nextSeqStart := 0, firstSeq := 0, opens := [],
    dirty := [], fmap := [], valid := [], bricks := [],
    loaded := false }

def DrainSt.reset : DrainSt :=
  { step := 0, stamp := 0, drainSeq := 0, set := [], setAt := none, manifest := none, units := [], done := false, cut := false,
    fact := .none_, lastCauses := [], lastMode := 0, rstep := 0, rcase := .complete, awaited := [], awaitSince := none,
    short := [] }

def StoreP.reset : StoreP :=
  { courses := [], brickCount := 0, bricks := [], pages := [], dram := [], parity := [], errs := [], correctives := [],
    rebuilds := [], out := [], evacuate := [], patrol := [], scrub := none, metaBytes := 0,
    metaFrames := 0, hampers := [], direct := [], frameWaits := [], evictFor := [], ageAt := 0, counters := [],
    tcounters := [], flash := Flash.reset, ckpt := Ckpt.reset, drain := DrainSt.reset, poolShort := false, mapFrames := [], dataRate := 0, caches := [] }

def DramD.reset : DramD :=
  { dimms := [], ranks := [], channels := [], banks := [], hardRows := [], hardTimes := [], tableResetAt := 0,
    corrected := 0, flagged := 0, lostMerge := 0 }

def StoreNv.reset : StoreNv :=
  { spare := [], marks := [], slotSerials := [], lost := [], lostGone := [], objects := [], phySettings := [] }

def RankSt.reset : RankSt :=
  { slot := 0, refi := 0, below95 := none, below85 := none, postponed := 0, pulledIn := 0, retired := false, nextRef := 0, trfc1 := 0, busyUntil := 0, windowUntil := 0, corrections := [] }

def Page.empty : Page :=
  { filled := false, dirty := false, stale := false, grout := none, poison := 0, charges := 0, wbBusy := false,
    lostGrout := false, mergedSince := false, dirtySince := 0, prio := 15, held := false, rebuilt := false }

end Sys2Proof.Machine
end

