-- ==== Sys2Proof/Machine/StTwin.lean ====
section
/-! DEFINITION. State of twin operation (10). -/
namespace Sys2Proof.Machine
open Sys2Proof

/-- A twin's role (R418, R419). -/
inductive Role where
  | lead | follower | fenced
  deriving DecidableEq, Repr

/-- A REPLICATE that a follower has sent for a write on one of its ordinary QPs, and whose entry it awaits (R398, R399). -/
structure HeldWrite where
  opId : Nat
  replica : Nat
  brick : Nat
  page : Nat
  /-- it carries the write's ring entry, under this index -/
  ring : Option Nat
  /-- the original value of an atomic -/
  orig : BitVec 64
  deriving DecidableEq, Repr

/-- The running digest (R414, R415). -/
structure DigestSt where
  /-- D of the last epoch closed -/
  d : BitVec 128
  /-- count and fold of each epoch not yet closed -/
  folds : List (Nat × (Nat × BitVec 128))
  /-- DIGESTs of the lead that wait for their epoch's entries: count and D (R416) -/
  theirs : List (Nat × (Nat × BitVec 128))
  /-- the lead's D by epoch, until the follower's comes -/
  ours : List (Nat × BitVec 128)
  /-- the last epoch that the lead has sent -/
  sent : Option Nat
  lastMatched : Nat
  /-- the last DIGEST compared equal (R428) -/
  matched : Bool
  deriving DecidableEq, Repr

/-- One of the two mirror paths (R410, R413). -/
structure MirrorPath where
  up : Bool
  lastIn : Nat
  lastOut : Nat
  downSince : Option Nat
  deriving DecidableEq, Repr

/-- Twin state of one partition (R387-R435). -/
structure TwinP where
  paired : Bool
  /-- a TWIN_PAIR that waits: START, the command, and since when -/
  pairing : Option (Nat × CmdRef × Nat)
  /-- the initial role of the TWIN record, claimed until the first GRANT (R550, R387) -/
  claims : Role
  /-- a TWIN_UNPAIR under way (R392): its command, or none where the peer began it -/
  unpairing : Option (Option CmdRef)
  /-- the MSEQ of the notice that carried it to the peer -/
  unpairSeq : Nat
  peerUnpaired : Bool
  role : Role
  epoch : Nat
  /-- the highest ROLE_EPOCH seen (R412, R420) -/
  epochSeen : Nat
  /-- fabric time of lease expiry; none without a lease -/
  tExp : Option Nat
  renewAt : Nat
  renewUnanswered : Option Nat
  /-- ARBITER_LOST has been raised for the RENEW that stands unanswered (R422) -/
  arbLost : Bool
  solo : Bool
  freeRunning : Bool
  peerFenced : Bool
  mirrorLost : Bool
  mseqNext : Nat
  /-- messages sent and not confirmed: MSEQ -/
  sent : Nat
  confirmed : Nat
  /-- messages that wait because 4,096 are unacknowledged (R410): type and body -/
  backlog : List (Nat × List Byte)
  delivered : Nat
  /-- messages beyond the highest contiguous MSEQ, at most 4,096 numbers ahead (R410) -/
  beyond : List (Nat × MirMsg)
  /-- sending time of the message that restarted the numbering (R411) -/
  startTime : Option Nat
  /-- the last CONFIRM sent, and whether a message other than CONFIRM has come in since -/
  confirmSent : Nat
  confirmDue : Bool
  paths : List MirrorPath
  unsent : List ApplyEntry
  unsentSince : Option Nat
  /-- entries received and not yet placed, with the MSEQ of their message; on the lead, replicas that wait to be ordered -/
  stream : List (Nat × ApplyEntry)
  held : List HeldWrite
  replicaNext : Nat
  /-- REPLICATE bodies that their entries have not yet used, by number: received under an MSEQ, or our own (MSEQ 0) -/
  replicas : List (Nat × (Nat × ReplBody))
  /-- request packets kept for the peer, by QP (R405) -/
  kept : List (BitVec 24 × Kept)
  /-- accepted PSN of the peer by QPN -/
  peerPsn : List (BitVec 24 × BitVec 24)
  digest : DigestSt
  reported : List Nat
  releasing : Option Nat
  releasedAck : Bool
  mapA : List Nat
  mapB : List Nat
  curA : Bool
  mapsHeld : Bool
  wholeResync : Bool
  /-- resynchronisation as follower: bricks of the copy set, units received -/
  copySet : List Nat
  unitsIn : List (Nat × Nat)
  resync : Bool
  resyncDone : Bool
  /-- the lead's: MSEQ of its RESYNC_END (R430) -/
  endSeq : Option Nat
  pageReqs : List (Nat × Nat)
  /-- PAGE_REQs of the peer that wait for the entries before them (R413): MSEQ, brick, page -/
  pageWaits : List (Nat × (Nat × Nat))
  /-- core cycle of the last PROGRESS, and fabric second of the last change-map swap -/
  progressAt : Nat
  swapSec : Nat
  badTags : Nat
  splitWrites : Nat
  deriving DecidableEq, Repr

/-- What an arbiter keeps of one twin (R421). -/
structure ArbTwin where
  device : Nat
  role : Role
  tExp : Nat
  reportedBad : Bool
  released : Bool
  deriving DecidableEq, Repr

/-- What an arbiter keeps of one group (R421). -/
structure ArbGroup where
  epoch : Nat
  twins : List ArbTwin
  split : Bool
  unpairing : Bool
  deriving DecidableEq, Repr

def DigestSt.reset : DigestSt := { d := 0, folds := [], theirs := [], ours := [], sent := none, lastMatched := 0, matched := false }

def MirrorPath.reset : MirrorPath := { up := false, lastIn := 0, lastOut := 0, downSince := none }

def TwinP.reset : TwinP :=
  { paired := false, pairing := none, claims := .follower, unpairing := none, unpairSeq := 0, peerUnpaired := false, role := .follower, epoch := 0,
    epochSeen := 0, tExp := none, renewAt := 0, renewUnanswered := none, arbLost := false, solo := false, freeRunning := false, peerFenced := false,
    mirrorLost := false, mseqNext := 1, sent := 0, confirmed := 0, backlog := [], delivered := 0, beyond := [], startTime := none, confirmSent := 0,
    confirmDue := false, paths := [MirrorPath.reset, MirrorPath.reset], unsent := [], unsentSince := none, stream := [], held := [], replicaNext := 0,
    replicas := [], kept := [], peerPsn := [], digest := DigestSt.reset, reported := [], releasing := none, releasedAck := false, mapA := [],
    mapB := [], curA := true, mapsHeld := false, wholeResync := false, copySet := [], unitsIn := [], resync := false, resyncDone := false,
    endSeq := none, pageReqs := [], pageWaits := [], progressAt := 0, swapSec := 0, badTags := 0, splitWrites := 0 }

end Sys2Proof.Machine
end

