-- ==== Sys2Proof/Machine/State.lean ====
section
/-! DEFINITION. The state of the block, the reasons a step can stop, and the state after reset. -/
namespace Sys2Proof.Machine
open Sys2Proof

/-- What is fixed at manufacture (R1, R792): no command changes it. -/
structure Hw where
  member : Member
  revision : Nat
  deriving DecidableEq, Repr

/-- One partition of the effective image. -/
structure Part where
  mode : ModeSt
  remote : RemoteP
  store : StoreP
  twin : TwinP
  fabric : FabricP
  meters : MeterP
  owner : Owner
  /-- groups this partition arbitrates (R421) -/
  arbiter : List (Nat × ArbGroup)
  /-- last written copies of the tracked tables in the checkpoint log (R372): windows with their rings, meters -/
  savedWindows : List (Nat × Win)
  savedMeters : MeterP
  /-- the dies that the check key was drawn for (R111) -/
  dieMask : Nat
  deriving DecidableEq, Repr

/-- One controller die. -/
structure Die where
  remote : RemoteD
  dram : DramD
  lost : Bool
  lostCause : Nat
  /-- mortar-link ports that are up, replays of each in the running millisecond, and in all (R31, R769) -/
  meshUp : List Bool
  replays : List (Nat × (Nat × Nat))
  serviceLink : Bool
  /-- this die's share of each tenant's counters, by meter index (R496) -/
  meters : List (Nat × List Nat)
  fabricCounters : List (String × Nat)
  deriving DecidableEq, Repr

/-- A command under way that waits for a condition (R725), with what its completion needs. -/
inductive LongOp where
  | twinPair (part : Nat)
  | twinUnpair (part : Nat)
  | destroyQp (part : Nat) (qpn : BitVec 24)
  | openFar (part : Nat) (peer : Nat) (sseq : Nat)
  | revoke (part : Nat) (idx : Nat)
  | rekey (part : Nat) (slot : Nat) (half : Nat)
  | unregister (part : Nat) (obj : Nat)
  | promote (part : Nat) (hamper : Nat) (cfg : Bool)
  | demote (part : Nat) (obj : Nat)
  | clearLost (part : Nat) (brick page : Nat) (encipher : Bool)
  | scrub (part : Nat)
  /-- the channels and the outcomes of the repairs under way (R218) -/
  | ppr (part : Nat) (hppr : Bool) (mask : Nat) (outs : List PprOut)
  | image
  | timeSet
  /-- applied here, and awaiting the twin's confirmation (R390) -/
  | twinned (part : Nat) (result : List Byte) (cfg : Bool)
  /-- carried to the lead, and awaiting its TABLE_SYNC (R390) -/
  | carried (part : Nat) (body : TableSync) (result : List Byte)
  deriving DecidableEq, Repr

/-- A command under way. -/
structure Running where
  cmd : CmdRef
  opcode : Nat
  op : LongOp
  since : Nat
  /-- the mirror message that its twin must confirm first (R390); 0 for none -/
  mseq : Nat
  deriving DecidableEq, Repr

/-- The whole block. `pending`, `now`, `updates`, `out` and `sec.freeCount` are the model's own (log 1, 2, 176, 9, 6). -/
structure State where
  pending : List Instr
  /-- the core cycle of the latest decision -/
  now : Nat
  /-- the model's count of updates, from which the state aperture's version counters are formed (R745, log 176) -/
  updates : Nat
  hw : Hw
  pkg : PkgMode
  /-- the package's recorded causes, and since when it stands in its mode -/
  pkgCauses : List Cause
  parts : List (Nat × Part)
  /-- what the flash and the NV store keep of partitions that the effective image does not name -/
  stowed : List (Nat × Part)
  dies : List (Nat × Die)
  svc : Service
  image : ImageSt
  sec : Security
  ports : List CtlPort
  configGen : Nat
  running : List Running
  /-- ended commands whose completion waits until a partition's tracked pages fit its allowance again (R373) -/
  heldEnds : List (CmdRef × Nat)
  storeNv : StoreNv
  phys : List (PhyId × Phy)
  links : List ((Nat × Nat) × LinkSt)
  pfc : List ((Nat × Nat) × Pfc)
  /-- by Ethernet port: the next receive slot, and the slots filled so far (R743) -/
  eapol : List (Nat × (Nat × List EapolSlot))
  time : TimeSt
  out : List Out
  deriving DecidableEq, Repr

/-- Why a step stops with a fault: never. Every command of this block has its effect in every state. -/
inductive Fault where
  deriving DecidableEq, Repr

/-- Why a step is refused. -/
inductive Refusal where
  /-- Raised by the dispatch for a command without a meaning in the model: safe. -/
  | notModelled (mnemonic : String)
  deriving DecidableEq, Repr

def Part.reset : Part :=
  { mode := ModeSt.reset, remote := RemoteP.reset, store := StoreP.reset, twin := TwinP.reset, fabric := FabricP.reset,
    meters := MeterP.reset, owner := .both, arbiter := [], savedWindows := [], savedMeters := MeterP.reset, dieMask := 0 }

def Die.reset : Die :=
  { remote := RemoteD.reset, dram := DramD.reset, lost := false, lostCause := 0, meshUp := [true, true, true, true],
    replays := [], serviceLink := true, meters := [], fabricCounters := [] }

/-- The state after reset: the part as shipped, standby rails about to rise, in COLD (R508, R672, R789, R792). -/
def State.reset : State :=
  { pending := [], now := 0, updates := 0, hw := { member := .ae8804, revision := 1 }, pkg := .cold, pkgCauses := [], parts := [], stowed := [],
    dies := [(0, Die.reset), (1, Die.reset), (2, Die.reset), (3, Die.reset)], svc := Service.reset,
    image := ImageSt.reset, sec := Security.reset, ports := [CtlPort.reset, CtlPort.reset], configGen := 0, running := [], heldEnds := [],
    storeNv := StoreNv.reset, phys := [], links := [], pfc := [], eapol := [], time := TimeSt.reset, out := [] }

end Sys2Proof.Machine
end

