-- ==== Sys2Proof/Machine/Ops.lean ====
section
/-! DEFINITION. Named operations over the state: the clock and fabric time, access to partitions, dies and ports, what the image
says, the logbook (R684-R694), events and interrupts (R741-R744, R759-R761). -/
namespace Sys2Proof.Machine
open Sys2Proof

/-! ### The clock (R47) -/

/-- Core cycles in a microsecond, a millisecond and a second at 1.6 GHz. -/
abbrev cUs : Nat := 1600
abbrev cMs : Nat := 1600000
abbrev cS : Nat := 1600000000

/-- The value in force of a boot anchor (R672). -/
def anchorOf (l : List Anchor) (typ : Nat) : Nat :=
  match (l.filter (fun a => a.typ == typ)).getLast? with | some a => a.value | none => 0

/-- Whether boot anchors `b` may follow `a` (R672, R675): floors and the counter have only risen, the revocation mask has only gained bits, and
ROP2 stands for good. -/
def anchorsRise (a b : List Anchor) : Bool :=
  (anchorOf a 1 != 2 || anchorOf b 1 == 2) && anchorOf a 2 &&& anchorOf b 2 == anchorOf a 2 &&
    decide (anchorOf a 3 ≤ anchorOf b 3) && decide (anchorOf a 4 ≤ anchorOf b 4) && decide (anchorOf a 5 ≤ anchorOf b 5) &&
    decide (anchorOf a 6 ≤ anchorOf b 6)

/-- The boot anchors after a command: writes that break R672 are refused, whatever their cause. -/
def keepAnchors (a b : List Anchor) : List Anchor := if anchorsRise a b then b else a

/-- What holds of every command's result `r`, from state `s`: the clock stands at `now`, what manufacture fixed stays (R1, R792), the queue is not
the command's to change, the command is one update (R745), and the boot anchors keep R672. -/
def commit (s : State) (now : Nat) (r : State) : State :=
  let nv : Nv := { r.svc.nv with anchors := keepAnchors s.svc.nv.anchors r.svc.nv.anchors }
  { r with now := now, updates := s.updates + 1, hw := s.hw, pending := s.pending, svc := { r.svc with nv := nv } }

/-- The decision cycle of a command: the clock never goes back (log 2). -/
def decided (t : Nat) (s : State) : Nat := max s.now t

/-- The state on the decision cycle of a command: the clock has moved, and the command counts as one update of what the state aperture shows (R745). -/
def State.upTo (s : State) (t : Nat) : State := { s with now := decided t s, updates := s.updates + 1 }

/-- Runs a command's effect on its decision cycle `t`. -/
def run (t : Nat) (s : State) (f : State → State) : Host.Outcome State Fault Refusal := .next (commit s (decided t s) (f (s.upTo t)))

/-- Fabric time at a core cycle, in nanoseconds (R483, R486): the counter's base and its adjusted rate. -/
def fabAt (s : State) (cycle : Nat) : Nat :=
  s.time.base + (Int.toNat (Int.ofNat ((cycle - s.time.at_) * 5) * (1000000000 + s.time.rate)) / 8000000000)

/-- Fabric time of the decision (R489). -/
def fab (s : State) : Nat := fabAt s s.now

/-- Service-die uptime in nanoseconds (R684). -/
def uptime (s : State) : Nat := (s.now - s.svc.bootAt) * 5 / 8

/-- Whether a timer that began at `since` and lasts `len` cycles has expired (R49: on the cycle itself it has). -/
def due (s : State) (since len : Nat) : Bool := decide (since + len ≤ s.now)

/-- The same for a timer of the service die, which counts its own cycles at 400 MHz (R47, R495). -/
def dueSvc (s : State) (since len : Nat) : Bool := decide (since / 4 + len / 4 ≤ s.now / 4)

/-! ### Races of timers with the events they await (R49, R495) -/

/-- What a timer of R495 awaits, and what else is decided before an event of its own cycle (R130, R584, R585, R615, R694). -/
inductive Awaited where
  | request (qpn : BitVec 24) | rtu (qpn : BitVec 24) | drep (qpn : BitVec 24) | cnp (qpn : BitVec 24) | opEnds (part op : Nat) | credit (part die : Nat)
  | groutBack (part brick page : Nat) | linkUp (port brk : Nat) | flashRead (part brick unit : Nat) | cancel (part hamper : Nat) | demote (part obj : Nat)
  | mirror (part path : Nat) | fetched (qpn : BitVec 24) | resyncEnd (part : Nat) | grant (part : Nat) | ack (part peer path : Nat)
  | fragment (part src cls msg : Nat) | heard (part peer : Nat) | joinAnswer (part peer : Nat) | joinReq (part peer : Nat) | farResult (part : Nat) (qpn : BitVec 24) (sseq : Nat)
  | powerGood | holdup (level : Bool) | timeLock | dimmRead (die ch slot : Nat) | powerOk (entry : Nat) | chain | avsRead (rail : Nat) | ambient | kick
  | unlock | freeze | erase (slot : Nat) | revoke (part key : Nat)
  deriving DecidableEq, Repr

/-- The awaited events that a command brings. -/
def Instr.brings : Instr → List Awaited
  | .rdmaWrite _ p | .rdmaWriteWithImmediate _ p _ | .rdmaReadRequest _ p | .compareSwap _ p _ _ | .fetchAdd _ p _ | .atomicWrite _ p | .flush _ p _ _ | .send _ p => [.request p.dqpn]
  | .cmRtu _ f => [.rtu f.qpn]
  | .cmDrep _ f => [.drep f.qpn]
  | .cnp _ f => [.cnp f.qpn]
  | .placement _ p o => [.opEnds p o]
  | .budgetAccept _ p d => [.credit p d]
  | .groutWriteback _ p b g why => if why == GroutWhy.age || why == GroutWhy.uncorrectable then [] else [.groutBack p b g]
  | .linkUp _ port b => [.linkUp port b]
  | .flashReadComplete _ p b u _ => [.flashRead p b u]
  | .hamperCancel _ _ p h => [.cancel p h.toNat]
  | .demote _ _ p o _ _ => [.demote p o.toNat]
  | .apply _ p h _ | .replicate _ p h _ | .confirm _ p h _ | .progress _ p h _ | .digest _ p h _ _ _ | .fetchReq _ p h _ _ _ | .pageReq _ p h _ _ | .pageData _ p h _ _ _ |
    .tableSync _ p h _ | .qpOpen _ p h _ | .qpState _ p h _ | .brickData _ p h _ | .heartbeat _ p h | .fenceNotice _ p h _ => [.mirror p h.path]
  | .fetchData _ p h q _ | .fetchNone _ p h q => [.mirror p h.path, .fetched q]
  | .resyncEnd _ p h => [.mirror p h.path, .resyncEnd p]
  | .grant _ p _ => [.grant p]
  | .penquavinAck _ p h a => [.ack p h.src a.path, .heard p h.src]
  | .penquavinData _ p _ h _ _ => [.fragment p h.src h.cls h.msg]
  | .announce _ p src _ => [.heard p src]
  | .joinAccept _ p src _ | .joinRefuse _ p src _ _ => [.joinAnswer p src]
  | .joinReq _ p src _ => [.joinReq p src]
  | .farResult _ p _ r => [.farResult p r.qpn r.sseq]
  | .pwrFailNDeassert _ => [.powerGood]
  | .holdupOkEdge _ level => [.holdup level]
  | .ptpSync _ _ _ _ _ | .ppsEdge _ _ => [.timeLock]
  | .dimmTempSample _ d c k _ ok => if ok then [.dimmRead d c k] else []
  | .seqPgAssert _ e _ _ => [.powerOk e]
  | .chainUpIn _ _ | .chainDnIn _ _ => [.chain]
  | .avsRead _ r _ _ ok _ => if ok then [.avsRead r] else []
  | .ambientWrite _ _ => [.ambient]
  | .watchdogRestart _ => [.kick]
  | .debugUnlock _ _ _ => [.unlock]
  | .logFreeze _ _ freeze => if freeze then [.freeze] else []
  | .eraseKey _ _ _ slot => [.erase slot.toNat]
  | .revokeWindow _ _ p key => [.revoke p key.toNat]
  | _ => []

/-- Whether an event waits in the queue that is decided on the cycle of the decision in progress: it comes before a timer that expires on that cycle, and the timer's
expiry has no effect (R49, log 177). -/
def State.sooner (s : State) (a : Awaited) : Bool := (s.pending.takeWhile (fun c => decide (c.cycle ≤ s.now))).any (fun c => (Instr.brings c).contains a)

/-- The same for a timer of the service die, whose cycle is four core cycles (R47). -/
def State.soonerSvc (s : State) (a : Awaited) : Bool := (s.pending.takeWhile (fun c => decide (c.cycle / 4 ≤ s.now / 4))).any (fun c => (Instr.brings c).contains a)

/-- Runs the expiry of a timer, which an awaited event of the same cycle forestalls. -/
def timer (t : Nat) (s : State) (awaited : List Awaited) (f : State → State) : Host.Outcome State Fault Refusal :=
  run t s (fun s => if awaited.any s.sooner then s else f s)

/-- The same for a timer of the service die. -/
def timerSvc (t : Nat) (s : State) (awaited : List Awaited) (f : State → State) : Host.Outcome State Fault Refusal :=
  run t s (fun s => if awaited.any s.soonerSvc then s else f s)

/-! ### Access -/

def State.part? (s : State) (p : Nat) : Option Part := aget s.parts p
def State.modPart (s : State) (p : Nat) (f : Part → Part) : State := { s with parts := aupd s.parts p f }
def State.die? (s : State) (d : Nat) : Option Die := aget s.dies d
def State.modDie (s : State) (d : Nat) (f : Die → Die) : State := { s with dies := aupd s.dies d f }
def State.port? (s : State) (i : Nat) : Option CtlPort := s.ports[i]?
def State.modPort (s : State) (i : Nat) (f : CtlPort → CtlPort) : State := { s with ports := modNth s.ports i f }
def State.modSvc (s : State) (f : Service → Service) : State := { s with svc := f s.svc }
def State.modSec (s : State) (f : Security → Security) : State := { s with sec := f s.sec }

/-- Runs `f` on a partition that exists; without it nothing changes. -/
def State.onPart (s : State) (p : Nat) (f : Part → State → State) : State :=
  match s.part? p with
  | some P => f P s
  | none => s

/-- Runs `f` on a die that the member has; without it nothing changes. -/
def State.onDie (s : State) (d : Nat) (f : Die → State → State) : State :=
  match s.die? d with
  | some D => f D s
  | none => s

def State.modStore (s : State) (p : Nat) (f : StoreP → StoreP) : State := s.modPart p (fun P => { P with store := f P.store })
def State.modRemote (s : State) (p : Nat) (f : RemoteP → RemoteP) : State := s.modPart p (fun P => { P with remote := f P.remote })
def State.modTwin (s : State) (p : Nat) (f : TwinP → TwinP) : State := s.modPart p (fun P => { P with twin := f P.twin })
def State.modFabric (s : State) (p : Nat) (f : FabricP → FabricP) : State := s.modPart p (fun P => { P with fabric := f P.fabric })
def State.modMode (s : State) (p : Nat) (f : ModeSt → ModeSt) : State := s.modPart p (fun P => { P with mode := f P.mode })
def State.modFlash (s : State) (p : Nat) (f : Flash → Flash) : State := s.modStore p (fun S => { S with flash := f S.flash })
def State.modRd (s : State) (d : Nat) (f : RemoteD → RemoteD) : State := s.modDie d (fun D => { D with remote := f D.remote })
def State.modDram (s : State) (d : Nat) (f : DramD → DramD) : State := s.modDie d (fun D => { D with dram := f D.dram })
def State.modLog (s : State) (f : Logbook → Logbook) : State := s.modSvc (fun v => { v with log := f v.log })
def State.modNv (s : State) (f : Nv → Nv) : State := s.modSvc (fun v => { v with nv := f v.nv })
def State.modSeq (s : State) (f : Sequencer → Sequencer) : State := s.modSvc (fun v => { v with seq := f v.seq })
def State.modPins (s : State) (f : Pins → Pins) : State := s.modSvc (fun v => { v with pins := f v.pins })
def State.modTherm (s : State) (f : Thermal → Thermal) : State := s.modSvc (fun v => { v with thermal := f v.thermal })
def State.modSb (s : State) (f : Sideband → Sideband) : State := s.modSvc (fun v => { v with sideband := f v.sideband })

/-- Something leaves the device. -/
def State.send (s : State) (o : Out) : State := { s with out := s.out ++ [o] }

/-- A list of effects, first to last. -/
def State.each {α : Type} (s : State) (l : List α) (f : State → α → State) : State := l.foldl f s

/-- Names of the partitions that exist, in increasing number. -/
def State.partIds (s : State) : List Nat := (List.range 4).filter (fun p => (s.part? p).isSome)

/-- A free value of the random number generator (R592, R593), and the count of draws advanced. -/
def State.draw (s : State) : BitVec 64 × State :=
  (Config.rng s.sec.rngCount, s.modSec (fun x => { x with rngCount := x.rngCount + 1 }))

/-- `n` bytes of free values from the random number generator. -/
def State.drawBytes : Nat → State → List Byte × State
  | 0, s => ([], s)
  | n + 1, s =>
    let r := s.draw
    let rest := State.drawBytes n r.2
    ((r.1.setWidth 8) :: rest.1, rest.2)

/-- A free value for a result that the spec names and does not state (log 6). -/
def State.free (s : State) : Nat × State :=
  (Config.freeNat s.sec.freeCount, s.modSec (fun x => { x with freeCount := x.freeCount + 1 }))

/-! ### The member (R1) -/

def memberDies : Member → Nat
  | .ae8802 => 2 | .ae8804 => 4 | .ae8808 => 8

/-- The package's absolute maximum power in mW (R1). -/
def memberMaxMw : Member → Nat
  | .ae8802 => 165000 | .ae8804 => 315000 | .ae8808 => 600000

/-- Operations in flight of the whole member (R1). -/
def memberOps : Member → Nat
  | .ae8802 => 65536 | .ae8804 => 131072 | .ae8808 => 262144

/-- DEVICE of the identification registers (R702, R755). -/
def memberDeviceId : Member → Nat
  | .ae8802 => 0x8802 | .ae8804 => 0x8804 | .ae8808 => 0x8808

def State.dieCount (s : State) : Nat := memberDies s.hw.member

/-! ### What the effective image says (R542-R550) -/

/-- The payload of a record in effect. -/
def State.rec? (s : State) (typ part inst : Nat) : Option (List Byte) :=
  (s.image.eff.find? (fun r => r.typ == typ && r.part == part && r.inst == inst)).map (·.payload)

/-- The payload of a record in effect, empty where there is none. -/
def State.recD (s : State) (typ part inst : Nat) : List Byte := (s.rec? typ part inst).getD []

/-- A field of a record: `n` bytes at an offset, or `d` where no such record is in effect. -/
def State.field (s : State) (typ part inst off n d : Nat) : Nat :=
  match s.rec? typ part inst with
  | some b => leAt b off n
  | none => d

/-- Whether a partition is the provisional one of R508. -/
def State.provisional (s : State) (p : Nat) : Bool :=
  match s.part? p with
  | some P => P.mode.provisional
  | none => false

/-- The dies of a partition in increasing number: DIE_MASK (R543), or every die for the provisional partition. -/
def State.partDies (s : State) (p : Nat) : List Nat :=
  if s.provisional p then List.range s.dieCount
  else (List.range s.dieCount).filter (fun d => bit (s.field 1 p 0 0 1 0) d)

/-- The budget home: the lowest-numbered die (R146). -/
def State.homeDie (s : State) (p : Nat) : Nat := (s.partDies p).headD 0

/-- The partition that holds a die, if any. -/
def State.partOfDie (s : State) (d : Nat) : Option Nat := s.partIds.find? (fun p => (s.partDies p).contains d)

/-- Whether a port 2 × die + port belongs to a partition (PORT_MASK). -/
def State.partHasPort (s : State) (p port : Nat) : Bool := bit (s.field 1 p 0 2 2 0) port

/-- The breakout count of a port (R543 BREAKOUT). -/
def State.breakouts (s : State) (p port : Nat) : Nat := 2 ^ bits (s.field 1 p 0 32 4 0) (2 * port + 1) (2 * port)

/-- BRICK_COUNT (R55). -/
def State.brickCount (s : State) (p : Nat) : Nat := s.field 1 p 0 16 4 0
/-- DATA_TAG (R58). -/
def State.dataTag (s : State) (p : Nat) : Nat := s.field 1 p 0 20 2 0 % 4096
/-- WINDOW_LIMIT. -/
def State.windowLimit (s : State) (p : Nat) : Nat := s.field 1 p 0 24 4 0

/-- The flash channels of a partition as (die, channel), in increasing order (R323). -/
def State.onfiChannels (s : State) (p : Nat) : List (Nat × Nat) :=
  ((List.range 64).filter (fun i => bit (s.field 1 p 0 8 8 0) i)).map (fun i => (i / 8, i % 8))

/-- DEVICE of the FABRIC record. -/
def State.device (s : State) (p : Nat) : Nat := s.field 9 p 0 4 2 0 % 4096

/-- A service profile of a partition (R546). -/
def State.profile? (s : State) (p i : Nat) : Option Profile :=
  (s.rec? 4 p i).map (fun b =>
    { keystone := leAt b 0 1 == 1, durability := leAt b 1 1, encipher := leAt b 2 1 == 1, prio := leAt b 3 1 })

def State.profile (s : State) (p i : Nat) : Profile :=
  (s.profile? p i).getD { keystone := false, durability := 0, encipher := false, prio := 0 }

/-- Fields of a TENANT_CLASS record (R547). -/
structure TClass where
  maxTenants : Nat
  policy : Nat
  qpLimit : Nat
  byteRate : Nat
  reqRate : Nat
  burstBytes : Nat
  burstReqs : Nat
  reserve : Nat
  limit : Nat
  pinLimit : Nat
  hamperLimit : Nat
  deriving DecidableEq, Repr

def State.tclass? (s : State) (p c : Nat) : Option TClass :=
  (s.rec? 5 p c).map (fun b =>
    { maxTenants := leAt b 0 2, policy := leAt b 2 1, qpLimit := leAt b 4 4, byteRate := leAt b 8 8, reqRate := leAt b 16 4,
      burstBytes := leAt b 20 4, burstReqs := leAt b 24 4, reserve := leAt b 28 4, limit := leAt b 32 4,
      pinLimit := leAt b 36 4, hamperLimit := leAt b 40 1 })

/-- N_t: the tenants that a partition's classes allow (R547). -/
def State.nTenants (s : State) (p : Nat) : Nat :=
  ((List.range 64).map (fun c => s.field 5 p c 0 2 0)).sum

/-! ### The logbook (R684-R694) -/

/-- The code of a record (R687): first code of the range plus the name's place in it. -/
def LogCode.code : LogCode → Nat
  | .logSuppressed => 0x0001 | .logSummary => 0x0002 | .permanentFull => 0x0003 | .logFreezeChange => 0x0004
  | .nvWear => 0x0005 | .nvProgramFail => 0x0006 | .sectorReerased => 0x0007 | .brownOut => 0x0008 | .watchdog => 0x0009
  | .stewardReset => 0x000A | .optionDefault => 0x000B | .portClaimForced => 0x000C | .ownerReleased => 0x000D
  | .modeChange => 0x0101 | .drainStart => 0x0102 | .drainDone => 0x0103 | .restoreCheckpoint => 0x0104
  | .drainShort => 0x0105 | .budgetZero => 0x0106 | .drainCut => 0x0107
  | .seqStep => 0x0201 | .seqFault => 0x0202 | .seqLatched => 0x0203 | .seqTableBad => 0x0204 | .railFault => 0x0205
  | .railDischarge => 0x0206 | .chainTimeout => 0x0207 | .avsLost => 0x0208 | .avsFault => 0x0209 | .ambientStale => 0x020A
  | .modelDiverge => 0x020B | .diodeFault => 0x020C | .thermalWarn => 0x020D | .thermalLockout => 0x020E
  | .pwrFailEdge => 0x020F | .holdupEdge => 0x0210 | .criticalOff => 0x0211 | .thermalSevere => 0x0212
  | .bmcDrainRequest => 0x0213
  | .meshLink => 0x0301 | .serviceLink => 0x0302 | .stewardFail => 0x0303 | .courseGeometry => 0x0304
  | .dimmUnsupported => 0x0305 | .thermalExit => 0x0306 | .sidebandLost => 0x0307 | .pmicFault => 0x0308
  | .calUnstable => 0x0309 | .phyRetired => 0x030A | .deviceMark => 0x030B | .spdChanged => 0x030C | .lostListFull => 0x030D
  | .pageLost => 0x030E | .poolShort => 0x030F | .metadataLost => 0x0310 | .spareRowAdded => 0x0311 | .portDown => 0x0312
  | .flashUnsupported => 0x0401 | .flashGeometry => 0x0402 | .flashCapacity => 0x0403 | .wbOvertime => 0x0404
  | .lunRetired => 0x0405 | .flashShort => 0x0406 | .flashExhausted => 0x0407
  | .keyCheckEvents => 0x0501 | .degradedFlush => 0x0502 | .twinSplit => 0x0503 | .deviceConflict => 0x0504
  | .timeLost => 0x0505 | .twinFenced => 0x0506 | .revokeForced => 0x0507 | .mirrorPathDown => 0x0508 | .mirrorLost => 0x0509
  | .followerLagging => 0x050A | .arbiterLost => 0x050B | .farTimeout => 0x050C | .restoreTwinTimeout => 0x050D
  | .sealFail => 0x0601 | .entropyFail => 0x0602 | .unwrapBurst => 0x0603 | .rekeyDone => 0x0604 | .keyErased => 0x0605
  | .debugUnlock => 0x0606 | .debugRefused => 0x0607 | .ownerSet => 0x0608 | .ropChange => 0x0609
  | .imageApplied => 0x0701 | .imageRefused => 0x0702 | .imageChainCut => 0x0703 | .imageFallback => 0x0704
  | .fwLoaded => 0x0705 | .fwFallback => 0x0706 | .bootFail => 0x0707 | .evidenceCommit => 0x0708

/-- The PERMANENT-class records: the names marked in R687. -/
def LogCode.permanentClass : LogCode → Bool
  | .permanentFull | .watchdog | .optionDefault | .portClaimForced | .drainShort | .drainCut | .seqLatched | .seqTableBad
  | .railFault | .thermalLockout | .criticalOff | .meshLink | .serviceLink | .stewardFail | .metadataLost | .flashExhausted
  | .twinSplit | .arbiterLost | .entropyFail | .keyErased | .debugUnlock | .debugRefused | .ownerSet | .ropChange
  | .imageApplied | .imageChainCut | .imageFallback | .fwLoaded | .fwFallback | .bootFail => true
  | _ => false

/-- Records without a per-code limit (R689). -/
def LogCode.unlimited (c : LogCode) : Bool :=
  c.permanentClass || c == .modeChange || c == .drainStart || c == .drainDone || c == .logSuppressed || c == .logSummary

/-- SOURCE of the service die. -/
def srcSvc : LogSrc := { die := none, part := none }
/-- SOURCE of a partition-scoped record. -/
def srcPart (p : Nat) : LogSrc := { die := none, part := some p }
/-- SOURCE of a die. -/
def srcDie (d : Nat) : LogSrc := { die := some d, part := none }

/-- The number of a SOURCE field (R684). -/
def LogSrc.code (l : LogSrc) : Nat :=
  (match l.die with | some d => d | none => 0xF) +
  (match l.part with | some p => p * 16 + 64 | none => 0)

/-- Bytes of a record's whole 32-byte granules (R684). -/
def granules (payload : Nat) : Nat := ceilDiv (24 + payload) 32 * 32

/-- TIME of a record: fabric time once it has locked, uptime before (R684). -/
def logTime (s : State) : Nat := if s.time.everLocked then fab s else uptime s

/-- The limit per second of a record: 10, or the LOG_RATE entry of its code where that is lower (R689). -/
def logLimit (s : State) (c : LogCode) : Nat :=
  let r := s.recD 0xD 0xFF 0
  let n := leAt r 0 2
  match (List.range n).find? (fun i => leAt r (8 + 4 * i) 2 == c.code) with
  | some i => min 10 (leAt r (10 + 4 * i) 2)
  | none => 10

/-- Whether LOG_FROZEN is set (R694). -/
def logFrozen (s : State) : Bool := match s.svc.nv.option with | some o => o.logFrozen | none => false
/-- Whether LOG_COMPAT is set (R692). -/
def logCompat (s : State) : Bool := match s.svc.nv.option with | some o => o.logCompat | none => false

/-- Bytes of the permanent region (R688). -/
def permBytes : Nat := 4194304

/-- Where a record of `g` bytes starts in a sector filled up to `used`: it never crosses a 256-byte page (R684). -/
def placeInSector (used g : Nat) : Nat := if used % 256 + g ≤ 256 then used else (used / 256 + 1) * 256

/-- A record appended to the rolling region: into the head sector, or the next one once it is erased; dropped and counted while
frozen without one (R685, R694). -/
def logRolling (s : State) (r : LogRec) : State :=
  let g := granules r.payload.length
  let l := s.svc.log
  let at_ := placeInSector l.headUsed g
  if at_ + g ≤ 65536 then
    s.modLog (fun l => { l with recs := l.recs ++ [{ r with sector := some l.head }], headUsed := at_ + g, seq := r.seq, written := l.written + 1,
                                bucket := l.bucket - g * 1000000000 })
  else if !l.nextErased && logFrozen s then s.modLog (fun l => { l with dropped := l.dropped + 1 })
  else
    let h := (l.head + 1) % 448
    s.modLog (fun l => { l with recs := l.recs.filter (fun x => x.sector != some h) ++ [{ r with sector := some h }], head := h,
                                headUsed := 32 + g, nextErased := false, seq := r.seq, written := l.written + 1,
                                bucket := l.bucket - g * 1000000000 })

/-- A PERMANENT-class record: to the permanent region, with PERMANENT_FULL once fewer than 256 bytes would remain, and afterwards
to the rolling region with PERM_OVERFLOW (R688). -/
def logPermanent (s : State) (r : LogRec) : State :=
  let g := granules r.payload.length
  let l := s.svc.log
  let at_ := placeInSector l.permUsed g
  if permBytes < l.permUsed + 256 then logRolling s { r with overflow := true }
  else
    let s := s.modLog (fun l => { l with recs := l.recs ++ [{ r with permanent := true }], permUsed := at_ + g, seq := r.seq,
                                         written := l.written + 1 })
    if permBytes < at_ + g + 256 then
      s.modLog (fun l => { l with permUsed := permBytes, seq := r.seq + 1, written := l.written + 1,
                                  recs := l.recs ++ [{ r with code := .permanentFull, permanent := true, seq := r.seq + 1, payload := fill 32 0 }] })
    else s

/-- A logbook record with its payload, under the rate limits of R689 and R690; what they hold back is counted (R691). -/
def State.log (s : State) (c : LogCode) (src : LogSrc) (payload : List Byte) : State :=
  let time := logTime s
  let l := s.svc.log
  let bucket := min (1048576 * 1000000000 : Int) (l.bucket + ((time - l.bucketAt) * 2048 : Nat))
  let s := s.modLog (fun l => { l with bucket := bucket, bucketAt := max l.bucketAt time })
  let r : LogRec :=
    { code := c, permanent := false, summary := false, uptime := !s.time.everLocked, overflow := false, src := src, rep := 0,
      seq := l.seq + 1, time := time, payload := payload.take 232, sector := none }
  if c.permanentClass then logPermanent s r
  else
    let sec := time / 1000000000
    let cnt := match aget l.second (c, src) with | some (k, n) => if k == sec then n else 0 | none => 0
    if !c.unlimited && (decide (logLimit s c ≤ cnt) || decide (bucket ≤ 0)) then
      s.modLog (fun l => { l with suppressed := amod l.suppressed (c, src) { count := 0, first := time, last := time, lastPayload := [] }
                                    (fun x => { x with count := x.count + 1, last := time, lastPayload := payload.take 232 }),
                                  suppressedTotal := l.suppressedTotal + 1 })
    else
      logRolling (s.modLog (fun l => { l with second := aset l.second (c, src) (sec, cnt + 1) })) r

/-- The 32-byte payload of R686: SUBJECT and V0 to V2. -/
def subject (die : Option Nat) (kind index sub ext : Nat) (vs : List Nat) : List Byte :=
  natLE 8 ((match die with | some d => d % 16 | none => 0xF) + kind % 256 * 16 + index % 256 * 4096 + sub % 4096 * 1048576 +
    ext % 4294967296 * 4294967296) ++ natLE 8 (vs.getD 0 0) ++ natLE 8 (vs.getD 1 0) ++ natLE 8 (vs.getD 2 0)

/-- The payload of R686 without a subject. -/
def values (vs : List Nat) : List Byte := subject none 0 0 0 0 vs

/-! ### Events and interrupts (R741-R744, R759-R761) -/

/-- Raises an MSI-X vector of a port: a message while it is unmasked, else its pending bit (R744, R770). -/
def State.raiseVector (s : State) (i v : Nat) : State :=
  match s.port? i with
  | none => s
  | some p =>
    if !p.msixEnable then s
    else if p.unmasked.contains v then s.send (.vector i v)
    else s.modPort i (fun p => { p with pendingBits := if p.pendingBits.contains v then p.pendingBits else p.pendingBits ++ [v] })

/-- Entries of a ring. -/
def RingSt.size (r : RingSt) : Nat := 2 ^ r.log2

/-- Whether the event ring has no slot to write into (R764). -/
def RingSt.full (r : RingSt) : Bool := (r.tail + 1) % r.size == r.head

/-- The ring after an entry has been written at its tail: PHASE inverts on each pass (R722). -/
def RingSt.push (r : RingSt) : RingSt :=
  let t := (r.tail + 1) % r.size
  { r with tail := t, phase := if t == 0 then !r.phase else r.phase }

/-- One event written to a port's event ring, which has room. -/
def State.writeEvent (s : State) (i typ : Nat) (body : List Byte) : State :=
  match s.port? i with
  | none => s
  | some p =>
    let e : Event := { typ := typ, eseq := p.eseq + 1, time := fab s, body := body, phase := p.evt.phase }
    ((s.modPort i (fun p => { p with eseq := p.eseq + 1, evt := p.evt.push })).send (.event i p.evt.tail e)).raiseVector i 1

/-- EVENTS_LOST, written once the ring has room again (R742). -/
def State.writeLost (s : State) (i : Nat) : State :=
  match s.port? i with
  | none => s
  | some p =>
    if p.eventsDropped == 0 || !p.evt.active || p.evt.full then s
    else (s.writeEvent i 5 (natLE 4 p.eventsDropped)).modPort i (fun p => { p with eventsDropped := 0 })

/-- What a write to a port's EVT_HEAD names, of a command that is one. -/
def Instr.evtHead? (i : Nat) : Instr → Option Nat
  | .evtHeadWrite _ port head => if port == i then some (head % 4096) else none
  | _ => none

/-- A write to EVT_HEAD that is decided on the cycle of an event comes before the event, which uses the slot it frees (R764). -/
def State.headFirst (s : State) (i : Nat) : State :=
  match (s.pending.takeWhile (fun c => decide (c.cycle ≤ s.now))).findSome? (Instr.evtHead? i) with
  | some h => s.modPort i (fun p => if p.evt.active && decide (h < p.evt.size) then { p with evt := { p.evt with head := h } } else p)
  | none => s

/-- An event for one port: written, or dropped and counted where the ring is full (R742); nothing where the ring is not enabled. -/
def State.portEvent (s : State) (i typ : Nat) (body : List Byte) : State :=
  let s := (s.headFirst i).writeLost i
  match s.port? i with
  | none => s
  | some p =>
    if !p.evt.active then s
    else if p.evt.full then s.modPort i (fun p => { p with eventsDropped := p.eventsDropped + 1 })
    else s.writeEvent i typ body

/-- An event for every port whose event ring is enabled (R741). -/
def State.event (s : State) (typ : Nat) (body : List Byte) : State := (s.portEvent 0 typ body).portEvent 1 typ body

end Sys2Proof.Machine
end

