-- ==== Sys2Proof/Machine/Flags.lean ====
section
/-! DEFINITION. The flags that the device raises: the causes of INT_STATUS with their vectors and events (R759-R761), and the sideband's in-band interrupts (R705). -/
namespace Sys2Proof.Machine
open Sys2Proof

/-- The bit of a cause in INT_STATUS (R759). -/
def IntCause.bit : IntCause → Nat
  | .lostPage => 0 | .flashShort => 1 | .arbiterLost => 2 | .deviceConflict => 3 | .thermalWarn => 4 | .macsecPn => 5
  | .modeChange => 6 | .timeState => 7 | .ringStopped => 8 | .budgetZero => 9 | .dieLost => 10 | .pwrFail => 11
  | .holdup => 12 | .linkDown => 13 | .lockViolation => 14 | .entropyFail => 15 | .ownerLost => 16

/-- The vector of a cause: what INT_VMAP names, or 2 where it names 0, 1 or 2 (R744, R759). -/
def CtlPort.vectorOf (p : CtlPort) (c : Nat) : Nat :=
  let v := bits (p.intVmap.getD (c / 4) 0).toNat (8 * (c % 4) + 7) (8 * (c % 4))
  if v ≤ 2 then 2 else v

/-- Adds bits to the mask of the INTERRUPT event that a port sent last; the list stands latest first. -/
def addToEvent (i mask : Nat) : List Out → List Out
  | [] => []
  | .event j slot e :: rest =>
    if j == i && e.typ == 3 then .event j slot { e with body := natLE 4 (leAt e.body 0 4 ||| mask) } :: rest else .event j slot e :: addToEvent i mask rest
  | o :: rest => o :: addToEvent i mask rest

/-- The INTERRUPT event of a core cycle: one event holds every bit of the cycle (R761). -/
def State.intEvent (s : State) (i mask : Nat) (p : CtlPort) : State :=
  if p.intEvent == some s.now then { s with out := (addToEvent i mask s.out.reverse).reverse }
  else (s.portEvent i 3 (natLE 4 mask)).modPort i (fun p => { p with intEvent := some s.now })

/-- Signals bits of INT_STATUS that have become enabled and set: the cycle's INTERRUPT event and each bit's vector (R761). -/
def State.signal (s : State) (i : Nat) (mask : Nat) : State :=
  match s.port? i with
  | none => s
  | some p =>
    if mask == 0 then s
    else ((List.range 17).filter (fun c => bit mask c)).foldl (fun s c => s.raiseVector i (p.vectorOf c)) (s.intEvent i mask p)

/-- Sets a cause in one port's INT_STATUS (R759-R761). -/
def State.intPort (s : State) (i : Nat) (c : IntCause) : State :=
  match s.port? i with
  | none => s
  | some p =>
    let was := p.intStatus.getLsbD c.bit
    let s := s.modPort i (fun p => { p with intStatus := p.intStatus ||| BitVec.ofNat 17 (2 ^ c.bit), intAt := aset p.intAt c.bit s.now })
    if !was && p.intEnable.getLsbD c.bit then s.signal i (2 ^ c.bit) else s

/-- Sets a cause in the INT_STATUS of both ports (R760). -/
def State.int (s : State) (c : IntCause) : State := (s.intPort 0 c).intPort 1 c

/-! ### The sideband's in-band interrupts (R705) -/

/-- A cause of an IBI becomes pending while ENEC has enabled IBIs; the controller takes it through the IBI event. -/
def State.ibi (s : State) (c : Nat) : State :=
  s.modSb (fun b => if b.ibiEnabled && !b.ibiPending.contains c then { b with ibiPending := b.ibiPending ++ [c] } else b)

end Sys2Proof.Machine
end

