-- ==== Sys2Proof/Machine/MacOps.lean ====
section
/-! DEFINITION. MACsec at a port (R596-R599): its associations, the filter for received frames, the packet-number report. -/
namespace Sys2Proof.Machine
open Sys2Proof

def State.macPort (s : State) (port brk : Nat) : MacPort := agetD s.sec.macsec (port, brk) MacPort.reset
def State.modMac (s : State) (port brk : Nat) (f : MacPort → MacPort) : State := s.modSec (fun x => { x with macsec := amod x.macsec (port, brk) MacPort.reset f })

/-- The receive association that protects a frame, if one is installed. -/
def MacPort.assocOf (m : MacPort) (tag : SecTag) : Option Assoc := m.assocs.find? (fun a => !a.tx && a.sci == tag.sci && a.an == tag.an)

/-- Whether a frame is protected by an installed receive association. -/
def MacPort.covers (m : MacPort) (tag : Option SecTag) : Bool := match tag.bind m.assocOf with | some _ => true | none => false

/-- Whether a frame's packet number is in the replay window: not below the next one expected less the window (R596). -/
def MacPort.fresh (m : MacPort) (tag : Option SecTag) : Bool :=
  match tag with
  | some x => (match m.assocOf x with | some a => decide (a.pn ≤ x.pn + m.window) | none => true)
  | none => true

/-- The next packet number expected of a frame's channel and association, after the frame. -/
def MacPort.took (m : MacPort) (tag : Option SecTag) : MacPort :=
  match tag with
  | some x => { m with assocs := m.assocs.map (fun a => if !a.tx && a.sci == x.sci && a.an == x.an then { a with pn := max a.pn (x.pn + 1) } else a) }
  | none => m

/-- A frame other than EAPOL arrives (R596, R598): in MUST, one that no association protects is dropped and counted; in SHOULD it is counted and accepted. A protected one
whose number has fallen out of the replay window is dropped and counted. -/
def State.frameIn (s : State) (port brk : Nat) (tag : Option SecTag) (f : State → State) : State :=
  let m := s.macPort port brk
  let dropped : State := s.modMac port brk (fun m => { m with drops := satInc m.drops })
  if m.mode == 0 then f s
  else if m.covers tag then (if m.fresh tag then f (s.modMac port brk (fun m => m.took tag)) else dropped)
  else if m.mode == 1 then f (s.modMac port brk (fun m => { m with unprotected := satInc m.unprotected }))
  else dropped

def State.arrive (s : State) (a : Arrival) (f : State → State) : State := s.frameIn a.port a.brk a.tag f

/-- The association under which a port transmits, in a mode that protects. -/
def MacPort.txAssoc (m : MacPort) : Option Assoc := if m.mode == 0 then none else m.txAn.bind (fun n => m.assocs.find? (fun a => a.tx && a.an == n))

/-- The interrupt of a packet number that has come as far as the device reports (R599). -/
def State.pnReport (s : State) (port brk : Nat) : State :=
  match (s.macPort port brk).txAssoc with
  | some a => if a.pn == 0xC000000000000000 then s.int .macsecPn else s
  | none => s

/-- A frame other than EAPOL leaves by a port (R599): it takes the transmitting association's next packet number; at 2^64 - 1 it is dropped and counted. -/
def State.sendOn (s : State) (port brk : Nat) (o : Out) : State :=
  match (s.macPort port brk).txAssoc with
  | none => s.send o
  | some a =>
    if 2 ^ 64 - 1 ≤ a.pn then s.modMac port brk (fun m => { m with drops := satInc m.drops })
    else ((s.send o).modMac port brk (fun m => { m with assocs := m.assocs.map (fun b => if b.tx && b.an == a.an then { b with pn := b.pn + 1 } else b) })).pnReport port brk

end Sys2Proof.Machine
end

