-- ==== Sys2Proof/Machine/Codes.lean ====
section
/-! DEFINITION. The light code and the page code (R184-R191), the address orders that place a line (R63, R66-R70), and the CRCs
that other chapters name. -/
namespace Sys2Proof.Machine
open Sys2Proof

/-! ### GF(2^8) with polynomial 0x11D (R185) -/

/-- Multiplication by α = 2. -/
def gx (a : Byte) : Byte := if a.getLsbD 7 then (a <<< 1) ^^^ 0x1D else a <<< 1

/-- Multiplication: `n` low bits of `b` remain, `a` is the operand times the power of α reached. -/
def gmulAux : Nat → Byte → Byte → Byte → Byte
  | 0, _, _, acc => acc
  | n + 1, a, b, acc => gmulAux n (gx a) (b >>> 1) (if b.getLsbD 0 then acc ^^^ a else acc)

/-- The product of two field elements. -/
def gmul (a b : Byte) : Byte := gmulAux 8 a b 0

/-- α to a power. -/
def gpow : Nat → Byte
  | 0 => 1
  | n + 1 => gx (gpow n)

/-! ### The light code (R184-R188) -/

/-- Adds an error of a raw byte (R184: data bytes 0-63 by beat and nibble, check symbols 8 and 9 of codeword c at 64 + 2c, 65 + 2c)
to symbol `(c, i)`: the part of the byte's error that falls on that symbol. -/
def errAt (c i : Nat) (e : RawErr) : Byte :=
  if e.idx < 64 then
    if e.idx / 8 == c && e.idx % 4 == i / 2 && i < 8 then
      let nib := if i % 2 == 0 then e.xor &&& 0x0F else e.xor >>> 4
      if e.idx / 4 % 2 == 0 then nib else nib <<< 4
    else 0
  else if e.idx == 64 + 2 * c && i == 8 then e.xor
  else if e.idx == 65 + 2 * c && i == 9 then e.xor
  else 0

/-- The error of symbol `i` of codeword `c`. -/
def symErr (errs : List RawErr) (c i : Nat) : Byte := errs.foldl (fun a e => a ^^^ errAt c i e) 0

/-- Syndrome `m` (0 or 1) of codeword `c`: the error polynomial at 1 or at α. -/
def syndrome (errs : List RawErr) (m c : Nat) : Byte :=
  (List.range 10).foldl (fun a i => a ^^^ (if m == 0 then symErr errs c i else gmul (symErr errs c i) (gpow (9 - i)))) 0

/-- The one position whose symbol error explains both syndromes, if there is one (R186). -/
def locate1 (s0 s1 : Byte) : Option Nat :=
  if s0 == 0 then none else (List.range 10).find? (fun i => gmul s0 (gpow (9 - i)) == s1)

/-- The outcomes of R186, with the position of a correction. -/
inductive Light where
  | clean | corrected (pos : Nat) | poison | flagged
  /-- the only error lies at the marked position (R188) -/
  | marked
  deriving DecidableEq, Repr

/-- Whether the errors touch at most one device position (R186, POISON). -/
def oneDevice (errs : List RawErr) : Bool :=
  (List.range 10).any (fun d => (List.range 8).all (fun c => (List.range 10).all (fun i => i == d || symErr errs c i == 0)))

/-- The raw bytes that hold symbol errors: the inverse of `errAt`. -/
def rawOf (f : Nat → Nat → Byte) : List RawErr :=
  ((List.range 64).map (fun b =>
    let lo := f (b / 8) (2 * (b % 4))
    let hi := f (b / 8) (2 * (b % 4) + 1)
    let n (x : Byte) : Byte := if b / 4 % 2 == 0 then x &&& 0x0F else x >>> 4
    RawErr.mk b (n lo ||| (n hi <<< 4)))).filter (fun e => e.xor != 0)

/-- What a stored line differs by from the poison pattern (every data symbol 0x00, both check symbols 0xA5: R220): its data, the check symbols that
R185 gives them, and the errors that stand in it. -/
def againstPoison (content : List Byte) (errs : List RawErr) : List RawErr :=
  let data := content.zipIdx.map (fun x => RawErr.mk x.2 x.1)
  let check (c : Nat) : List RawErr :=
    let s8 := gmul (syndrome data 0 c ^^^ syndrome data 1 c) 0xF4
    [RawErr.mk (64 + 2 * c) (s8 ^^^ 0xA5), RawErr.mk (65 + 2 * c) (syndrome data 0 c ^^^ s8 ^^^ 0xA5)]
  data ++ ((List.range 8).map check).flatten ++ errs

/-- Decodes a line (R186, R188): its outcome, and the errors of its data that the outcome leaves in place. `poisoned` says that the
line was written with the poison pattern, `content` is what else was written into it, `mark` the marked device position. The match with the
poison pattern is tested first (R220); a line without error cannot meet it, since no codeword is within one symbol of the pattern. -/
def lightDecode (poisoned : Bool) (content : List Byte) (mark : Option Nat) (errs : List RawErr) : Light × List RawErr :=
  if (if poisoned then oneDevice errs else !errs.isEmpty && oneDevice (againstPoison content errs)) then (.poison, [])
  else if errs.isEmpty && !poisoned then (.clean, [])
  else
    let errs := if poisoned then errs ++ (List.range 16).map (fun i => RawErr.mk (64 + i) 0xA5) else errs
    let syn := (List.range 8).map (fun c => (c, syndrome errs 0 c, syndrome errs 1 c))
    let bad := syn.filter (fun x => !(x.2.1 == 0 && x.2.2 == 0))
    match mark with
    | some m =>
      if bad.all (fun x => gmul x.2.1 (gpow (9 - m)) == x.2.2) then
        (if bad.isEmpty then .clean else .marked, rawOf (fun c i => symErr errs c i ^^^ (if i == m then syndrome errs 0 c else 0)))
      else (.flagged, errs)
    | none =>
      if bad.isEmpty then (.clean, rawOf (symErr errs))
      else
        match bad.map (fun x => locate1 x.2.1 x.2.2) with
        | some p :: rest =>
          if rest.all (· == some p) then
            (.corrected p, rawOf (fun c i => symErr errs c i ^^^ (if i == p then syndrome errs 0 c else 0)))
          else (.flagged, errs)
        | _ => (.flagged, errs)

/-! ### The page code (R189-R191) -/

/-- A coefficient list (highest power first, without the leading 1) multiplied by (x + a). -/
def polyTimes (g : List Byte) (a : Byte) : List Byte :=
  List.zipWith (· ^^^ ·) (g ++ [0]) (a :: g.map (gmul a))

/-- g_P(x) without its leading coefficient: Π (x + α^i), i from 0 to P - 1. -/
def gPoly : Nat → List Byte
  | 0 => []
  | p + 1 => polyTimes (gPoly p) (gpow p)

/-- x times a remainder, modulo g_P. -/
def stepX (g : List Byte) (r : List Byte) : List Byte :=
  match r with
  | [] => []
  | h :: t => List.zipWith (· ^^^ ·) (t ++ [0]) (g.map (gmul h))

/-- `n` steps of multiplication by x. -/
def stepXN (g : List Byte) : Nat → List Byte → List Byte
  | 0, r => r
  | n + 1, r => stepXN g n (stepX g r)

/-- The coefficients of x^(T-1-k) mod g_P: entry j multiplies into parity line 64 + j (R193's prelude). -/
def parityCoeffs (p k : Nat) : List Byte := stepXN (gPoly p) (63 - k) (gPoly p)

/-- A difference of the bytes of a page (cell 64 k + b for byte b of data line k) carried into parity deltas (cell 64 j + b). -/
def parityDelta (p : Nat) (diff : Memory) : Memory :=
  diff.foldl (fun acc c =>
    let k := c.1 / 64
    let b := c.1 % 64
    ((parityCoeffs p k).zipIdx.foldl (fun acc x =>
      Memory.write acc (64 * x.2 + b) (Memory.read acc (64 * x.2 + b) ^^^ gmul c.2 x.1)) acc)) []

/-- R191: whether every column of a page decodes: twice its unknown errors plus its erasures is at most P. `errs` gives the raw
errors of each line that reads without FLAGGED, `flagged` counts the erasures. -/
def columnsDecode (p : Nat) (flagged : Nat) (errs : List (List RawErr)) : Bool :=
  (List.range 64).all (fun b =>
    decide (2 * (errs.filter (fun l => l.any (fun e => e.idx == b && e.xor != 0))).length + flagged ≤ p))

/-! ### Address orders (R63, R66-R70) -/

/-- The course page index (R66). -/
def coursePage (frame page : Nat) : Nat := 512 * frame + page

/-- The slot and the per-subchannel line number of line `k` of page index `g` (R67). -/
def slotOf (c : Course) (g k : Nat) : Nat × Nat :=
  let t := 64 + c.p
  match c.order with
  | .spray => let n := g * t + k; (n % (2 * c.w), n / (2 * c.w))
  | .die =>
    let e := g % c.d
    let n := g / c.d * t + k
    let sd := 2 * c.w / c.d
    let tl := n % sd
    ((e + c.d * (tl % (c.w / c.d))) + c.w * (tl / (c.w / c.d)), n / sd)
  | .channel =>
    let n := g / c.w * t + k
    (g % c.w + c.w * (n % 2), n / 2)
  | .bank => (g % (2 * c.w), g / (2 * c.w) * t + k)

/-- The place of a line (R63, R68, R69). -/
def placeOf (c : Course) (frame page k : Nat) : Place :=
  let sq := slotOf c (coursePage frame page) k
  let chan := c.channels.getD (sq.1 % c.w) (0, 0)
  let q := sq.2
  let rows := c.rows
  match c.order with
  | .bank => { die := chan.1, ch := chan.2, sub := sq.1 / c.w, rank := q / (4096 * rows), bg := q % 8, ba := q / 8 % 4,
               row := q / 4096 % rows, burst := q / 32 % 128 }
  | _ => { die := chan.1, ch := chan.2, sub := sq.1 / c.w, rank := q / (4096 * rows), bg := q / 128 % 8, ba := q / 1024 % 4,
           row := q / 4096 % rows, burst := q % 128 }

/-- The parity home of a page: the die of its first parity line's channel (R26). -/
def parityHome (c : Course) (frame page : Nat) : Nat := (placeOf c frame page 64).die

/-! ### CRCs -/

/-- One bit of a reflected CRC. -/
def crcBitR (poly c : Nat) : Nat := if c % 2 == 1 then (c / 2) ^^^ poly else c / 2

/-- One byte of a reflected CRC. -/
def crcByteR (poly c : Nat) (b : Byte) : Nat :=
  (List.range 8).foldl (fun c _ => crcBitR poly c) (c ^^^ b.toNat)

/-- CRC-32C: polynomial 0x1EDC6F41 reflected, all-ones start and final complement. -/
def crc32c (bs : List Byte) : Nat := (bs.foldl (crcByteR 0x82F63B78) 0xFFFFFFFF) ^^^ 0xFFFFFFFF

end Sys2Proof.Machine
end

