-- ==== Sys2Proof/Machine/StoreOps.lean ====
section
/-! DEFINITION. Storage operations that several families share: bricks and pages, keys of a line, the charges of a page, reading and
merging lines under both codes, lost pages, frames and eviction, flash reads and write-backs. -/
namespace Sys2Proof.Machine
open Sys2Proof

/-! ### Access -/

/-- Storage of a partition; the state after reset where the partition does not exist. -/
def State.store (s : State) (p : Nat) : StoreP := match s.part? p with | some P => P.store | none => StoreP.reset
/-- Remote-access state of a partition. -/
def State.remote (s : State) (p : Nat) : RemoteP := match s.part? p with | some P => P.remote | none => RemoteP.reset
/-- Twin state of a partition. -/
def State.twin (s : State) (p : Nat) : TwinP := match s.part? p with | some P => P.twin | none => TwinP.reset
/-- Fabric state of a partition. -/
def State.fabric (s : State) (p : Nat) : FabricP := match s.part? p with | some P => P.fabric | none => FabricP.reset
/-- Mode state of a partition. -/
def State.modeSt (s : State) (p : Nat) : ModeSt := match s.part? p with | some P => P.mode | none => ModeSt.reset
/-- Meters of a partition. -/
def State.meterSt (s : State) (p : Nat) : MeterP := match s.part? p with | some P => P.meters | none => MeterP.reset
/-- The mode of a partition. -/
def State.mode (s : State) (p : Nat) : Mode := (s.modeSt p).mode
/-- Memory interfaces of a die. -/
def State.dram (s : State) (d : Nat) : DramD := match s.die? d with | some D => D.dram | none => DramD.reset
/-- Remote-access state of a die. -/
def State.rd (s : State) (d : Nat) : RemoteD := match s.die? d with | some D => D.remote | none => RemoteD.reset

/-- Whether a partition exists and is not halted: a halted partition acts on nothing that waits (R512). -/
def State.live (s : State) (p : Nat) : Bool := (s.part? p).isSome && !(s.modeSt p).halted

/-- SERVE or SOLO. -/
def State.serving (s : State) (p : Nat) : Bool := s.mode p == .serve || s.mode p == .solo

def StoreP.brick? (S : StoreP) (b : Nat) : Option Brick := aget S.bricks b
def StoreP.modBrick (S : StoreP) (b : Nat) (f : Brick → Brick) : StoreP := { S with bricks := aupd S.bricks b f }
def StoreP.page (S : StoreP) (b g : Nat) : Page := agetD S.pages (b, g) Page.empty
def StoreP.modPage (S : StoreP) (b g : Nat) (f : Page → Page) : StoreP := { S with pages := amod S.pages (b, g) Page.empty f }
def State.modBrick (s : State) (p b : Nat) (f : Brick → Brick) : State := s.modStore p (·.modBrick b f)
def State.modPage (s : State) (p b g : Nat) (f : Page → Page) : State := s.modStore p (·.modPage b g f)

/-- Whether a page's VALID bit is set (R72). -/
def StoreP.valid (S : StoreP) (b g : Nat) : Bool := match S.brick? b with | some B => B.valid.getLsbD g | none => false
/-- Whether a brick is resident. -/
def StoreP.resident (S : StoreP) (b : Nat) : Bool := match S.brick? b with | some B => B.res.isSome | none => false
/-- The owning tenant of a brick. -/
def StoreP.tenantOf (S : StoreP) (b : Nat) : Nat := match S.brick? b with | some B => B.tenant | none => 0
/-- The course that a resident brick's frame lies on. -/
def StoreP.courseOf (S : StoreP) (b : Nat) : Option (Course × Nat) :=
  match S.brick? b with
  | some B => (match B.res with | some (c, f) => (aget S.courses c).map (fun C => (C, f)) | none => none)
  | none => none
/-- The P of the course that holds a brick. -/
def StoreP.pOf (S : StoreP) (b : Nat) : Nat := match S.courseOf b with | some (C, _) => C.p | none => 0

/-- A device-wide or partition counter by name. -/
def State.count (s : State) (p : Nat) (name : String) (n : Nat := 1) : State :=
  s.modStore p (fun S => { S with counters := abump S.counters name n })
/-- A counter of a tenant. -/
def State.tcount (s : State) (p : Nat) (name : String) (tenant : Nat) (n : Nat := 1) : State :=
  s.modStore p (fun S => { S with tcounters := abump S.tcounters (name, tenant) n })

/-- Adds to a meter counter of a tenant (R496) in a die's share, under the tenant's meter index. -/
def State.meter (s : State) (p die tenant idx n : Nat) : State :=
  match aget (s.meterSt p).index tenant with
  | some m => s.modDie die (fun D => { D with meters := amod D.meters m (List.replicate 16 0) (fun l => modNth l idx (· + n)) })
  | none => s

/-- BAD_STATUS counted on the budget home's die, whose steward 0 does the work (R136, R769). -/
def State.badStatus (s : State) (p : Nat) : State := s.modRd (s.homeDie p) (fun r => { r with badStatus := r.badStatus + 1 })

/-- First byte of a page in a partition's device address space (R53). -/
def pageAddr (b g : Nat) : Nat := b * 2097152 + g * 4096

/-- A brick-map entry as 64 little-endian bits (R59); a brick that is not allocated has the entry 0. -/
def Brick.word (B : Brick) : Nat :=
  1 + (if B.res.isSome then 2 else 0) + (if B.pin then 4 else 0) + (if B.mirror then 8 else 0) + B.placement % 4 * 16 + B.keyHalf % 2 * 64 +
    B.cursor % 1024 * 128 + (match B.res with | some (c, f) => c % 16 * 2 ^ 17 + f % 2 ^ 23 * 2 ^ 21 | none => 0) + B.tenant % 4096 * 2 ^ 44 + B.age % 256 * 2 ^ 56

/-- The page-state nibble: VALID, FILLED, DIRTY, PARITY_STALE from bit 0 (R71); its VALID bit is the bitmap's (R72). -/
def StoreP.nibble (S : StoreP) (b g : Nat) : Nat :=
  let P := S.page b g
  (if S.valid b g then 1 else 0) + (if P.filled then 2 else 0) + (if P.dirty then 4 else 0) + (if P.stale then 8 else 0)

/-- The column address sent to the DIMM: C[10:4] is the burst, C[3:0] is 0 (R70). -/
def Place.column (pl : Place) : Nat := 16 * pl.burst
/-- The chip select, counted across the channel's DIMMs, and the 3DS chip ID of a logical rank (R70). -/
def Course.chipSelect (C : Course) (r : Nat) : Nat := r / max 1 C.h
def Course.chipId (C : Course) (r : Nat) : Nat := r % max 1 C.h

/-! ### Keys and the form of a line (R57, R569, R574-R577) -/

def State.slot (s : State) (i : Nat) : KeySlot := agetD s.sec.slots i KeySlot.reset

/-- The key slot of a tenant: the one that its authorisation names, while it is bound to the tenant, or, once withdrawn, the one still bound to it
(R569). -/
def State.slotOfTenant (s : State) (p tenant : Nat) : Option Nat :=
  match aget (s.remote p).tenants tenant with
  | some T =>
    let k := s.slot T.slot
    if T.slot < 4096 && k.tenant == some tenant && (k.part == some p || k.part.isNone) then some T.slot else none
  | none => (s.sec.slots.find? (fun e => e.2.part == some p && e.2.tenant == some tenant)).map (·.1)

/-- The half that a page uses (R59, R60). -/
def pageHalf (B : Brick) (g : Nat) : Nat := if g < B.cursor then B.keyHalf else 1 - B.keyHalf

def KeySlot.half (k : KeySlot) (h : Nat) : List Byte := if h == 0 then k.half0 else k.half1

/-- The key of a page of a tenant's brick, if the slot holds one. -/
def State.pageKey (s : State) (p : Nat) (B : Brick) (g : Nat) : Option (List Byte) :=
  match s.slotOfTenant p B.tenant with
  | some i =>
    let k := s.slot i
    if k.state == .empty || (k.half (pageHalf B g)).isEmpty then none else some (k.half (pageHalf B g))
  | none => none

/-- Whether a tenant's slot holds no key, or the tenant has no slot (R577); an ERASE_KEY of the same cycle is decided first (R584). -/
def State.keyErased (s : State) (p tenant : Nat) : Bool :=
  match s.slotOfTenant p tenant with
  | some i => (s.slot i).state == .empty || s.sooner (.erase i)
  | none => true

/-- The tweak of a line (R57). -/
def State.tweak (s : State) (p b g k : Nat) : Nat := s.dataTag p * 2 ^ 52 + pageAddr b g + 64 * k

/-- A line's stored form under a key, or the plain bytes without one. -/
def State.toStored (s : State) (p b g k : Nat) (key : Option (List Byte)) (plain : List Byte) : List Byte :=
  match key with
  | some key => xtsEnc key (s.tweak p b g k) plain
  | none => plain

/-- A stored line deciphered. -/
def State.toPlain (s : State) (p b g k : Nat) (key : Option (List Byte)) (stored : List Byte) : List Byte :=
  match key with
  | some key => xtsDec key (s.tweak p b g k) stored
  | none => stored

/-! ### Budget charges (R146-R148) -/

/-- Unspent credit on a partition's dies. -/
def State.creditOut (s : State) (p : Nat) : Nat := ((s.partDies p).map (fun d => (s.rd d).credit)).sum

/-- Charge given back to the budget home: it becomes free there as far as the data part allows (R44, R148). -/
def State.release (s : State) (p n : Nat) : State :=
  let credits := s.creditOut p
  s.modRemote p (fun r =>
    let b := r.budget
    let charged := b.charged - n
    { r with budget := { b with charged := charged, homeFree := min (b.homeFree + n) (b.data - charged - credits) } })

/-- A charge of a merged packet's page, kept or refunded as R148 states. -/
def State.settleCharge (s : State) (p b g : Nat) : State :=
  let P := (s.store p).page b g
  if !P.dirty || (P.wbBusy && !P.mergedSince) then s.modPage p b g (fun P => { P with charges := P.charges + 1 })
  else s.release p 1

/-! ### Lines, marks and places -/

/-- The place of a line of a resident page. -/
def StoreP.place (S : StoreP) (b g k : Nat) : Option Place := (S.courseOf b).map (fun cf => placeOf cf.1 cf.2 g k)

/-- Whether a place lies on a unit out of service (R209). -/
def OutUnit.covers (u : OutUnit) (pl : Place) : Bool :=
  match u with
  | .row q => q.die == pl.die && q.ch == pl.ch && q.sub == pl.sub && q.rank == pl.rank && q.bg == pl.bg && q.ba == pl.ba && q.row == pl.row
  | .rank d c r => d == pl.die && c == pl.ch && r == pl.rank
  | .channel d c => d == pl.die && c == pl.ch
  | .die d => d == pl.die

/-- Whether a mark stands for a place's rank and subchannel. -/
def Mark.names (m : Mark) (pl : Place) : Bool := m.die == pl.die && m.ch == pl.ch && m.rank == pl.rank && m.sub == pl.sub

/-- The marked device position of a place's rank and subchannel (R187). -/
def State.markAt (s : State) (pl : Place) : Option Nat :=
  (s.storeNv.marks.find? (·.names pl)).map (·.pos)

/-- The errors that stand in a line. -/
def StoreP.errAt (S : StoreP) (b g k : Nat) : List RawErr :=
  match S.brick? b with
  | some B => (match B.res with | some (c, f) => agetD S.errs (c, f, g, k) [] | none => [])
  | none => []

/-- The frame that a brick occupies, as course and frame. -/
def StoreP.resOf (S : StoreP) (b : Nat) : Option (Nat × Nat) := match S.brick? b with | some B => B.res | none => none

/-- A line that has just been written holds no error. -/
def StoreP.clearErr (S : StoreP) (b g k : Nat) : StoreP :=
  match S.resOf b with
  | some (c, f) => { S with errs := adel S.errs (c, f, g, k) }
  | none => S

/-- The bytes written last into a line of a page: a data line, or from line 64 on a parity line. -/
def StoreP.lineBytes (S : StoreP) (b g k : Nat) : List Byte :=
  if k < 64 then Memory.readN S.dram (pageAddr b g + 64 * k) 64 else Memory.readN S.parity ((512 * b + g) * 512 + 64 * (k - 64)) 64

def Corrective.names (x : Corrective) (c f g k : Nat) : Bool := x.course == c && x.frame == f && x.page == g && x.k == k

/-- How a data or parity line of a resident, FILLED page reads (R186, R209), with the errors that decoding leaves. -/
def State.lineOutcome (s : State) (p b g k : Nat) : Light × List RawErr :=
  let S := s.store p
  match S.place b g k with
  | none => (.flagged, [])
  | some pl =>
    if (S.page b g).rebuilt then (.clean, [])
    else if S.out.any (·.covers pl) then (.flagged, [])
    else lightDecode ((S.page b g).poison.getLsbD k) (S.lineBytes b g k) (s.markAt pl) (S.errAt b g k)

/-- How a line reads that is no brick's: of a free, metadata or retired frame. Its content is not held here: it counts as zeros (log 181). -/
def State.freeOutcome (s : State) (p c f g k : Nat) : Light × List RawErr :=
  let S := s.store p
  match aget S.courses c with
  | none => (.flagged, [])
  | some C =>
    let pl := placeOf C f g k
    if S.out.any (·.covers pl) then (.flagged, []) else lightDecode false (fill 64 0) (s.markAt pl) (agetD S.errs (c, f, g, k) [])

/-- The brick that occupies a frame. -/
def StoreP.brickAt (S : StoreP) (c f : Nat) : Option Nat := (S.bricks.find? (fun e => e.2.res == some (c, f))).map (·.1)

/-- How any line of a course reads. -/
def State.frameOutcome (s : State) (p c f g k : Nat) : Light × List RawErr :=
  match (s.store p).brickAt c f with
  | some b => s.lineOutcome p b g k
  | none => s.freeOutcome p c f g k

/-- The stored bytes of a data line after its light code, with undetected errors left in. -/
def State.storedLine (s : State) (p b g k : Nat) : List Byte :=
  (s.lineOutcome p b g k).2.foldl (fun l e => if e.idx < 64 then modNth l e.idx (· ^^^ e.xor) else l)
    (Memory.readN (s.store p).dram (pageAddr b g + 64 * k) 64)

/-- A CORRECTED line is counted: for its die, and for its rank with the device position over the last second (R186, R254, R769). -/
def DramD.noteCorrected (D : DramD) (pl : Place) (pos now : Nat) : DramD :=
  { D with corrected := D.corrected + 1, ranks := aupd D.ranks (pl.ch, pl.rank) (fun r => { r with corrections := r.corrections.filter (fun x => decide (now ≤ x.1 + cS)) ++ [(now, pos)] }) }

/-- The latest `n` of a list with an entry put in front. -/
def keepLatest (n x : Nat) (l : List Nat) : List Nat := (x :: l.filter (· != x)).take n

/-- A region of a die's pantry in units of 64 KiB, by its place in the PANTRY record (R23, R545). -/
def State.pantryUnits (s : State) (d i : Nat) : Nat :=
  match s.image.eff.find? (fun r => r.typ == 3 && r.inst == d) with
  | some r => leAt r.payload (2 * i) 2
  | none => 0

/-- A line that is read or merged stands in its channel die's line cache, its brick's and page's entries in the other two (R23; log 189). -/
def State.remember (s : State) (p b g k : Nat) : State :=
  match (s.store p).place b g k with
  | none => s
  | some pl =>
    let n (i per : Nat) : Nat := s.pantryUnits pl.die i * 65536 / per
    s.modStore p (fun S => { S with caches := amod S.caches pl.die { lines := [], bricks := [], states := [] } (fun x =>
      { lines := keepLatest (n 4 64) (128 * (512 * b + g) + k) x.lines, bricks := keepLatest (n 6 8) b x.bricks, states := keepLatest (2 * n 7 1) (512 * b + g) x.states }) })

/-- What the reading of a line of a frame sets off, by its outcome: a corrected line is due to be written back (R201), a flagged one and one
served with a mark are counted (R188, R769). -/
def State.lineRead (s : State) (p c f g k : Nat) (pl : Place) (l : Light) : State :=
  match l with
  | .corrected pos =>
    (s.modStore p (fun S => if S.correctives.any (·.names c f g k) then S
      else { S with correctives := S.correctives ++ [{ course := c, frame := f, page := g, k := k, pos := pos, at_ := s.now, written := none, placedSince := false }] })).modDram
      pl.die (fun D => D.noteCorrected pl pos s.now)
  | .flagged => s.modDram pl.die (fun D => { D with flagged := D.flagged + 1 })
  | .marked => { s with storeNv := { s.storeNv with marks := s.storeNv.marks.map (fun m => if m.names pl then { m with served := m.served + 1 } else m) } }
  | _ => s

/-- A line of a page is read. -/
def State.touchLine (s : State) (p b g k : Nat) : State :=
  match (s.store p).resOf b, (s.store p).place b g k with
  | some (c, f), some pl => (s.lineRead p c f g k pl (s.lineOutcome p b g k).1).remember p b g k
  | _, _ => s

/-- Lines of a page read one after the other. -/
def State.touchLines (s : State) (p b g : Nat) (ks : List Nat) : State := ks.foldl (fun s k => s.touchLine p b g k) s

/-- A placement into a line is noted: the corrective write of the line is dropped (R202). -/
def StoreP.notePlaced (S : StoreP) (b g k : Nat) : StoreP :=
  match S.resOf b with
  | some (c, f) => { S with correctives := S.correctives.map (fun x => if x.names c f g k then { x with placedSince := true } else x) }
  | none => S

/-! ### Lost pages (R220-R227) -/

/-- Whether a page stands in the lost-page list. -/
def State.listed (s : State) (p b g : Nat) : Bool := s.storeNv.lost.any (fun l => l.part == p && l.brick == b && l.page == g)

/-- Entries of the list whose STATE is programmed to 0x00 (R221, R224, R225): they stand until their place is needed. -/
def StoreNv.unlist (N : StoreNv) (gone : LostPage → Bool) : StoreNv :=
  { N with lost := N.lost.filter (fun l => !gone l), lostGone := N.lostGone ++ N.lost.filter gone }

/-- Takes a page off the list (R224, R225). -/
def State.unlist (s : State) (p b g : Nat) : State :=
  { s with storeNv := s.storeNv.unlist (fun l => l.part == p && l.brick == b && l.page == g) }

/-- The lowest number from `i` on that is in no list, among `n` tries. -/
def lowestFree (taken : List Nat) : Nat → Nat → Nat
  | 0, i => i
  | n + 1, i => if taken.contains i then lowestFree taken n (i + 1) else i

/-- A new entry of the lost-page list (R221): in the lowest place still erased, or, where none is, in the lowest of a removed entry, whose
place has then been erased (log 182). -/
def StoreNv.list (N : StoreNv) (l : LostPage) : StoreNv :=
  let all := (N.lost ++ N.lostGone).map (·.slot)
  let i := if all.length < 4096 then lowestFree all all.length 0 else lowestFree (N.lost.map (·.slot)) N.lost.length 0
  { N with lost := N.lost ++ [{ l with slot := i }], lostGone := N.lostGone.filter (fun x => x.slot != i) }

/-- The 32 bytes of an entry of the lost-page list, with its STATE (R221). -/
def LostPage.bytes (l : LostPage) (st : Nat) : List Byte :=
  natLE 4 (l.brick % 2 ^ 28 + l.part % 4 * 2 ^ 28 + 3 * 2 ^ 30) ++ natLE 2 (l.page % 512 + 7 * 512 + l.cause % 16 * 4096) ++ natLE 2 (l.tenant % 4096 + 15 * 4096) ++
    natLE 8 l.time ++ fill 15 0xFF ++ natLE 1 st

/-- The whole list as the NV store holds it: 4,096 entries, erased ones 0xFF (R221). -/
def StoreNv.lostBytes (N : StoreNv) : List Byte :=
  ((List.range 4096).map (fun i => match N.lost.find? (·.slot == i) with
    | some l => l.bytes 0x5A
    | none => match N.lostGone.find? (·.slot == i) with | some l => l.bytes 0x00 | none => fill 32 0xFF)).flatten

/-- The errors of every line of a page gone, and its corrective writes dropped: its lines have been written anew. -/
def StoreP.clearErrs (S : StoreP) (b g : Nat) : StoreP :=
  match S.resOf b with
  | some (c, f) =>
    { S with errs := S.errs.filter (fun e => !(e.1.1 == c && e.1.2.1 == f && e.1.2.2.1 == g)),
             correctives := S.correctives.map (fun x => if x.course == c && x.frame == f && x.page == g then { x with placedSince := true } else x) }
  | none => S

/-- Poisons a page of a resident brick: every line, data and parity, holds the poison pattern, nothing of it is dirty, its charges are released
(R220). The page is FILLED, so its VALID bit is set too (R73; log 183). -/
def State.poison (s : State) (p b g : Nat) : State :=
  let S := s.store p
  if !S.resident b then s
  else
    let n := (S.page b g).charges
    (s.modStore p (fun S =>
      let S : StoreP := S.modPage b g (fun P => { P with filled := true, dirty := false, stale := false, grout := none, poison := BitVec.allOnes 72, lostGrout := false, charges := 0,
                                                         mergedSince := false, held := false })
      let S : StoreP := S.modBrick b (fun B => { B with valid := B.valid ||| BitVec.ofNat 512 (2 ^ g) })
      ({ S with dram := Memory.clear S.dram (pageAddr b g) 4096, parity := Memory.clear S.parity ((512 * b + g) * 512) 512 } : StoreP).clearErrs b g)).release p n

/-- A page is lost: poisoned, listed while the list has room, and LOST_PAGE raised (R220, R221, R227). -/
def State.markLost (s : State) (p b g cause : Nat) : State :=
  let s := s.poison p b g
  let tenant := (s.store p).tenantOf b
  let s : State :=
    if s.listed p b g then s
    else if s.storeNv.lost.length < 4096 then
      let s' : State := { s with storeNv := s.storeNv.list { slot := 0, part := p, brick := b, page := g, cause := cause, tenant := tenant, time := fab s } }
      s'.log .pageLost (srcPart p) (subject none 8 0 0 tenant [])
    else s.log .lostListFull (srcPart p) (values [])
  let s : State := match (s.store p).scrub with
    | some _ => s.modStore p (fun S => { S with scrub := S.scrub.map (fun (x : Scrub) => { x with lost := x.lost + 1 }) })
    | none => s
  s.int .lostPage

/-- Whether a read that touches data line `k` of a page is refused with PAGE_LOST (R222, R227). -/
def State.lineLost (s : State) (p b g k : Nat) : Bool :=
  s.listed p b g || (((s.store p).page b g).filled && (s.lineOutcome p b g k).1 == .poison)

/-! ### Writing pages (R75, R192) -/

/-- The parity of a page's 64 data lines as stored (R189, R192). -/
def StoreP.freshParity (S : StoreP) (b g : Nat) : Memory :=
  parityDelta (S.pOf b) (Memory.extract S.dram (pageAddr b g) 4096)

/-- Fresh parity lines for a page, and its pending delta forgotten (R192, R199). -/
def StoreP.writeParity (S : StoreP) (b g : Nat) : StoreP :=
  let par := S.freshParity b g
  let base := (512 * b + g) * 512
  let S' : StoreP := S.modPage b g (fun P => { P with stale := false, grout := none, lostGrout := false, poison := P.poison &&& BitVec.ofNat 72 (2 ^ 64 - 1) })
  { S' with
    parity := par.foldl (fun (m : Memory) (c : Host.Cell) => Memory.write m (base + c.1) c.2) (Memory.clear S.parity base 512) }

/-- A whole page written into the frame in stored form, with its parity (R192); FILLED. -/
def State.writePage (s : State) (p b g : Nat) (data : Memory) : State :=
  s.modStore p (fun S =>
    let S : StoreP := { S with dram := data.foldl (fun (m : Memory) (c : Host.Cell) => Memory.write m (pageAddr b g + c.1) c.2) (Memory.clear S.dram (pageAddr b g) 4096) }
    ((S.modPage b g (fun P => { P with filled := true, poison := 0 })).writeParity b g).clearErrs b g)

/-- The stored form of 64 zero lines under a key (R575). -/
def State.zeroForm (s : State) (p b g : Nat) (key : Option (List Byte)) : Memory :=
  match key with
  | none => []
  | some _ => (List.range 64).foldl (fun m k => Memory.writeN m (64 * k) (s.toStored p b g k key (fill 64 0))) []

/-- The half that a brick's first zero-fill writes into KEY_HALF (R574): CURRENT_HALF, or the half being loaded. -/
def State.firstHalf (s : State) (p tenant : Nat) : Nat :=
  match s.slotOfTenant p tenant with
  | some i =>
    let k := s.slot i
    if k.state == .rekeying then 1 - k.currentHalf else k.currentHalf
  | none => 0

/-- Tracked metadata page of a table and index that has changed since its last written copy (R372, R373): 512 entries of the flash map,
64 VALID bitmaps or 512 brick-map entries to a 4 KiB page. -/
def State.track (s : State) (p table entry : Nat) : State :=
  s.modStore p (fun S => { S with ckpt := { S.ckpt with dirty := if S.ckpt.dirty.contains (table, entry) then S.ckpt.dirty else S.ckpt.dirty ++ [(table, entry)] } })

/-- Tracked pages that differ from their last written copies: each holds a page of the metadata part (R372, R373). -/
def StoreP.trackedDirty (S : StoreP) : List (Nat × Nat) := S.ckpt.dirty.filter (fun e => decide (3 ≤ e.1))

/-- The tracked allowance: the metadata part less ceil(data part / 60) (R373). -/
def State.trackedAllowance (s : State) (p : Nat) : Nat :=
  let b := (s.remote p).budget
  b.meta_ - ceilDiv b.data 60

/-- Zero-fills a page of a resident brick and sets VALID and FILLED in one update (R75, R574, R575). -/
def State.zeroFill (s : State) (p b g : Nat) (encipher : Bool) : State :=
  match (s.store p).brick? b with
  | none => s
  | some B =>
    let s := if B.valid == 0 then (s.modBrick p b (fun B => { B with keyHalf := s.firstHalf p B.tenant, cursor := 512 })).track p 3 (b / 512) else s
    let key := if encipher then (match (s.store p).brick? b with | some B => s.pageKey p B g | none => none) else none
    (s.writePage p b g (s.zeroForm p b g key)).modBrick p b (fun B => { B with valid := B.valid ||| BitVec.ofNat 512 (2 ^ g) })

/-! ### The grout cache (R193-R200) -/

/-- A rebuild of some pages of a brick is due (R205). -/
def State.rebuildDue (s : State) (p b : Nat) (gs : List Nat) : State :=
  s.modStore p (fun S => { S with rebuilds := S.rebuilds ++ (gs.map (fun g => (b, g))).filter (fun x => !S.rebuilds.contains x) })

/-- A line written back as it decoded (R201, R203): the errors that the code missed are content from now on, every other is gone, and a
corrective write that was due has been made with it. -/
def StoreP.writeDecoded (S : StoreP) (b g k : Nat) (left : List RawErr) (now : Nat) : StoreP :=
  let cells : Memory := (left.filter (fun e => decide (e.idx < 64))).map (fun e => (e.idx, e.xor))
  let S : StoreP := if k < 64 then { S with dram := Memory.xorIn S.dram (pageAddr b g + 64 * k) cells }
    else { S with parity := Memory.xorIn S.parity ((512 * b + g) * 512 + 64 * (k - 64)) cells }
  match S.resOf b with
  | some (c, f) => { S.clearErr b g k with correctives := S.correctives.map (fun x => if x.names c f g k && x.written.isNone then { x with written := some now } else x) }
  | none => S

/-- Lines of a page in which errors stand. -/
def StoreP.errLines (S : StoreP) (b g : Nat) : List Nat := (List.range (64 + S.pOf b)).filter (fun k => !(S.errAt b g k).isEmpty)

/-- The parity of a page computed anew from its data lines, which are read and decoded first; all its lines are written (R192, R197, R199). -/
def State.recomputeParity (s : State) (p b g : Nat) : State :=
  let ks := ((s.store p).errLines b g).filter (fun k => decide (k < 64))
  let s' := s.touchLines p b g ks
  let s' := s'.modStore p (fun S =>
    ((ks.foldl (fun S k => S.writeDecoded b g k (s.lineOutcome p b g k).2 s.now) S).writeParity b g).clearErrs b g)
  s'.modStore p (fun S => { S with scrub := S.scrub.map (fun (x : Scrub) => { x with recomputed := x.recomputed + 1 }) })

/-- Parity lines of a brick's pages. -/
def StoreP.parityLines (S : StoreP) (b : Nat) : List Nat := (List.range (S.pOf b)).map (· + 64)

/-- A page's parity is current: its lines with its entry, if it has one, give the parity of its data (R198's prelude). -/
def Page.current (P : Page) : Bool := !P.lostGrout && (!P.stale || P.grout.isSome)

/-- A page's grout entry is lost (R199): its parity is not current. -/
def StoreP.loseEntry (S : StoreP) (b g : Nat) : StoreP := S.modPage b g (fun P => { P with lostGrout := P.lostGrout || P.stale, grout := none })

/-- The grout entry `gr` of a page written back into its parity lines (R196); where a parity line reads FLAGGED the parity is computed anew (R197),
and where a data line reads so too the page takes R205's fallback: it counts as not current, and its rebuild is due (R200). -/
def State.groutBack (s : State) (p b g : Nat) (gr : Grout) : State :=
  let S := s.store p
  let flagged (k : Nat) : Bool := (s.lineOutcome p b g k).1 == .flagged
  if (S.parityLines b).any flagged then
    if (List.range 64).any flagged then
      (s.modStore p (·.loseEntry b g)).rebuildDue p b [g]
    else s.recomputeParity p b g
  else
    (s.touchLines p b g (S.parityLines b)).modStore p (fun S' =>
      let S' := ((S.errLines b g).filter (fun k => decide (64 ≤ k))).foldl (fun S' k => S'.writeDecoded b g k (s.lineOutcome p b g k).2 s.now) S'
      ({ S' with parity := Memory.xorIn S'.parity ((512 * b + g) * 512) gr.delta } : StoreP).modPage b g (fun P => { P with stale := P.lostGrout, grout := none }))

/-- The delta area of a die's grout cache: 30 MiB in lines of 64 bytes (R193). -/
def groutLines : Nat := 491520

/-- Channels of a course on a die. -/
def Course.onDie (C : Course) (d : Nat) : Nat := (C.channels.filter (fun c => c.1 == d)).length

/-- Entries of a course's share of a die's grout cache, and the sets of that share (R193). -/
def StoreP.groutEntries (S : StoreP) (C : Course) (d : Nat) : Nat :=
  groutLines * C.onDie d / max 1 (S.courses.map (fun e => e.2.onDie d)).sum / max 1 C.p
def StoreP.groutSets (S : StoreP) (C : Course) (d : Nat) : Nat := S.groutEntries C d / 16

/-- Entries of a course in a die's grout cache: page, course page index and the cycle of the first delta. -/
def StoreP.groutHeld (S : StoreP) (c : Nat) (C : Course) (d : Nat) : List ((Nat × Nat) × (Nat × Nat)) :=
  S.pages.filterMap (fun e => match e.2.grout, S.resOf e.1.1 with
    | some gr, some (c', f) => if c' == c && parityHome C f e.1.2 == d then some (e.1, (coursePage f e.1.2, gr.first)) else none
    | _, _ => none)

/-- The page whose entry has the oldest first delta. -/
def oldestGrout (l : List ((Nat × Nat) × (Nat × Nat))) : Option (Nat × Nat) :=
  (l.foldl (fun (best : Option ((Nat × Nat) × (Nat × Nat))) x => match best with
    | some y => if x.2.2 < y.2.2 then some x else some y
    | none => some x) none).map (·.1)

/-- Where a page's entry lies: course, course page index and the parity home's die (R193, R195). -/
def StoreP.groutHome (S : StoreP) (b g : Nat) : Option (Nat × Course × Nat × Nat) :=
  match S.resOf b, S.courseOf b with
  | some (c, f), some (C, _) => some (c, C, coursePage f g, parityHome C f g)
  | _, _ => none

/-- The entries that stand in the set of a page's entry (R193). -/
def StoreP.groutSet (S : StoreP) (b g : Nat) : List ((Nat × Nat) × (Nat × Nat)) :=
  match S.groutHome b g with
  | some (c, C, i, d) => let n := max 1 (S.groutSets C d); (S.groutHeld c C d).filter (fun x => x.2.1 % n == i % n)
  | none => []

/-- Whether a course's share of a die's grout cache is more than 75 % full (R196). -/
def StoreP.groutCrowded (S : StoreP) (c : Nat) (C : Course) (d : Nat) : Bool := decide (3 * S.groutEntries C d < 4 * (S.groutHeld c C d).length)

/-- The tag of an entry (R194). -/
def groutTag (c i first : Nat) : Nat := i % 2 ^ 32 + c % 16 * 2 ^ 32 + 2 ^ 36 + first / 256 % 65536 * 2 ^ 37

/-- A way for a page's entry (R196): where its 16 ways are taken the entry of the oldest first delta is written back. DRAIN writes none back, and
the entry is lost (log 184). -/
def State.groutWay (s : State) (p b g : Nat) : State :=
  let S := s.store p
  let held := S.groutSet b g
  if (S.page b g).grout.isSome || held.length < 16 then s
  else
    match oldestGrout held with
    | none => s
    | some v =>
      match (S.page v.1 v.2).grout with
      | none => s
      | some gr => if s.mode p == .drain then s.modStore p (·.loseEntry v.1 v.2) else s.groutBack p v.1 v.2 gr

/-- A placement into a page (R71, R148, R195): the new stored line `new` of data line `k`; parity deltas gather in the grout entry,
PARITY_STALE is set. -/
def State.putLine (s : State) (p b g k : Nat) (new : List Byte) : State :=
  let s := s.groutWay p b g
  s.modStore p (fun S =>
    let a := pageAddr b g + 64 * k
    let old := Memory.readN S.dram a 64
    let diff := ((xorBytes old new).zipIdx.filter (fun x => x.1 != 0)).map (fun x => (64 * k + x.2, x.1))
    let delta := parityDelta (S.pOf b) diff
    let S := { S with dram := Memory.writeN S.dram a new }
    let S := S.modPage b g (fun P =>
      let gr := match P.grout with | some e => e | none => { delta := [], first := s.now }
      { P with grout := some { gr with delta := Memory.xorIn gr.delta 0 delta }, stale := true,
               poison := P.poison &&& ~~~(BitVec.ofNat 72 (2 ^ k)) })
    (S.clearErr b g k).notePlaced b g k) |>.remember p b g k

/-- DIRTY set by a merge, and the time it was set (R71, R151). -/
def State.setDirty (s : State) (p b g : Nat) : State :=
  s.modPage p b g (fun P => { P with dirty := true, dirtySince := if P.dirty then P.dirtySince else s.now,
                                     mergedSince := P.wbBusy || P.mergedSince })

/-- A page of which every data line has been written in full since it was lost becomes a page again, and is charged (R224). -/
def State.wholeAgain (s : State) (p b g : Nat) : State :=
  if ((s.store p).page b g).poison &&& BitVec.ofNat 72 (2 ^ 64 - 1) == 0 then
    let s := (((s.recomputeParity p b g).unlist p b g).setDirty p b g).modPage p b g (fun P => { P with charges := P.charges + 1 })
    s.modRemote p (fun r => { r with budget := { r.budget with homeFree := r.budget.homeFree - 1, charged := r.budget.charged + 1 } })
  else s

/-! ### Frames (R283-R296) -/

/-- Frames of a course that bricks occupy. -/
def StoreP.occupied (S : StoreP) (c : Nat) : List Nat :=
  S.bricks.filterMap (fun e => match e.2.res with | some (c', f) => if c' == c then some f else none | none => none) ++
    (S.mapFrames.filter (fun x => x.1 == c)).map (·.2)

/-- Where a metadata frame stands now (R211). -/
def Course.metaAt (C : Course) (i : Nat) : Nat := agetD C.metaMoved i i

/-- Frames that no brick may hold: those that have left the pool, and those that metadata has moved to (R209, R211). -/
def Course.taken (C : Course) : List Nat := C.retired ++ C.metaMoved.map (·.2)

/-- Frames of a course that belong to the pool. -/
def Course.usable (C : Course) : Nat := C.frames - C.metaFrames - ((C.taken.filter (fun f => decide (C.metaFrames ≤ f))).eraseDups).length

/-- Free frames of a course: neither metadata, nor retired, nor occupied. -/
def StoreP.freeCount (S : StoreP) (c : Nat) : Nat :=
  match aget S.courses c with
  | some C => C.usable - (S.occupied c).length
  | none => 0

/-- The lowest frame from `f` on that is in none of the lists. -/
def firstFree (taken : List Nat) : Nat → Nat → Nat
  | 0, f => f
  | n + 1, f => if taken.contains f then firstFree taken n (f + 1) else f

/-- The lowest-numbered free frame of a course (log 12: the spec gives the free list no order). -/
def StoreP.freeFrame (S : StoreP) (c : Nat) : Option Nat :=
  if S.freeCount c == 0 then none
  else (aget S.courses c).map (fun C => let t := C.taken ++ S.occupied c; firstFree t t.length C.metaFrames)

/-- Frames charged to a tenant (R283). -/
def StoreP.usage (S : StoreP) (tenant : Nat) : Nat := (S.bricks.filter (fun e => e.2.res.isSome && e.2.tenant == tenant)).length

/-- Frames of the pool: all but metadata and retired frames. -/
def StoreP.pool (S : StoreP) : Nat := (S.courses.map (fun e => e.2.usable)).sum

/-- POOL_LIMIT of a tenant; none without an authorisation (R283). -/
def State.poolLimit (s : State) (p tenant : Nat) : Option Nat :=
  match aget (s.remote p).tenants tenant with
  | some T => (s.tclass? p T.cls).map (·.limit)
  | none => none

/-- Sum of the POOL_RESERVEs of the authorised tenants. -/
def State.reserves (s : State) (p : Nat) : Nat :=
  ((s.remote p).tenants.map (fun e => match s.tclass? p e.2.cls with | some c => c.reserve | none => 0)).sum

/-- A tenant's effective reserve (R283, R285). -/
def State.poolReserve (s : State) (p tenant : Nat) : Nat :=
  match aget (s.remote p).tenants tenant with
  | some T =>
    match s.tclass? p T.cls with
    | some c =>
      let pool := (s.store p).pool
      let sum := s.reserves p
      if 7 * pool < 8 * sum then c.reserve * 7 * pool / (8 * sum) else c.reserve
    | none => 0
  | none => 0

/-- A tenant's PIN_LIMIT, lowered with its reserve (R285). -/
def State.pinLimit (s : State) (p tenant : Nat) : Nat :=
  match aget (s.remote p).tenants tenant with
  | some T => (match s.tclass? p T.cls with | some c => min c.pinLimit (s.poolReserve p tenant) | none => 0)
  | none => 0

/-- Whether a tenant is at its POOL_LIMIT (R287). -/
def State.atLimit (s : State) (p tenant : Nat) : Bool :=
  match s.poolLimit p tenant with
  | some l => decide (l ≤ (s.store p).usage tenant)
  | none => false

/-- Dirty pages of a brick. -/
def StoreP.dirtyPages (S : StoreP) (b : Nat) : List Nat := (S.pages.filter (fun e => e.1.1 == b && e.2.dirty)).map (·.1.2)

/-- R292: whether a brick may be evicted for a requesting tenant. -/
def State.eligible (s : State) (p : Nat) (t : Option Nat) (B : Brick) : Bool :=
  let S := s.store p
  if B.pin || B.placement == 1 || B.evacuating || B.evicting then false
  else
    match t with
    | some t => if s.atLimit p t then B.tenant == t else decide (s.poolReserve p B.tenant < S.usage B.tenant)
    | none => decide (s.poolReserve p B.tenant < S.usage B.tenant)

/-- R292: whether brick `a` is a better victim than `b`. -/
def StoreP.better (S : StoreP) (a b : Nat × Brick) : Bool :=
  if (a.2.placement == 2) != (b.2.placement == 2) then a.2.placement == 2
  else if a.2.age != b.2.age then decide (b.2.age < a.2.age)
  else decide ((S.dirtyPages a.1).length < (S.dirtyPages b.1).length)

/-- Bricks of a course by distance of their frame from the hand: the order in which the hand meets them. -/
def StoreP.fromHand (S : StoreP) (c : Nat) (C : Course) : List (Nat × (Nat × Brick)) :=
  S.bricks.filterMap (fun e => match e.2.res with
    | some (c', f) => if c' == c then some ((f + C.frames - C.hand % C.frames) % C.frames, e) else none
    | none => none)

/-- The best of the bricks that one call of choose_victim meets, in the hand's order. -/
def StoreP.bestIn (S : StoreP) (l : List (Nat × (Nat × Brick))) : Option (Nat × (Nat × Brick)) :=
  l.foldl (fun best x => match best with
    | none => some x
    | some y => if S.better x.2 y.2 || (!S.better y.2 x.2 && decide (x.1 < y.1)) then some x else some y) none

/-- choose_victim until it returns a brick or the hand has passed every frame once (R292): the brick, and the hand after it. -/
def State.chooseVictim (s : State) (p c : Nat) (t : Option Nat) (only : Brick → Bool := fun _ => true) : Option Nat × State :=
  let S := s.store p
  match aget S.courses c with
  | none => (none, s)
  | some C =>
    let can := (S.fromHand c C).filter (fun x => s.eligible p t x.2.2 && only x.2.2)
    let first := can.foldl (fun m x => min m x.1) C.frames
    if can.isEmpty then
      (none, s.modStore p (fun S => { S with courses := aupd S.courses c (fun C => { C with hand := (C.hand + ceilDiv C.frames 4096 * min 4096 C.frames) % C.frames }) }))
    else
      let block := first / 4096
      let inBlock := can.filter (fun x => x.1 / 4096 == block)
      let hand := (C.hand + (block + 1) * min 4096 C.frames) % C.frames
      ((S.bestIn inBlock).map (fun x => x.2.1),
        s.modStore p (fun S => { S with courses := aupd S.courses c (fun C => { C with hand := hand }) }))

/-- Marks a brick as being evicted (R293). -/
def State.startEvict (s : State) (p b : Nat) (forTenant : Option Nat) : State :=
  s.modBrick p b (fun B => { B with evicting := true, evictFor := forTenant })

/-- Discards what a frame held: pages, parity, errors, pending deltas, and makes the brick non-resident (R196, R293). -/
def State.dropFrame (s : State) (p b : Nat) (retire : Bool) : State :=
  let S := s.store p
  match S.brick? b with
  | none => s
  | some B =>
    match B.res with
    | none => s
    | some (c, f) =>
      let n := ((S.pages.filter (fun e => e.1.1 == b)).map (fun e => e.2.charges)).sum
      (s.modStore p (fun S =>
        { S with
          pages := S.pages.filter (fun e => e.1.1 != b)
          dram := Memory.clear S.dram (pageAddr b 0) 2097152
          parity := Memory.clear S.parity (512 * b * 512) (512 * 512)
          errs := S.errs.filter (fun e => !(e.1.1 == c && e.1.2.1 == f))
          correctives := S.correctives.filter (fun x => !(x.course == c && x.frame == f))
          rebuilds := S.rebuilds.filter (fun x => x.1 != b)
          caches := S.caches.map (fun e => (e.1, { e.2 with lines := e.2.lines.filter (fun x => x / 65536 != b), states := e.2.states.filter (fun x => x / 512 != b) }))
          bricks := aupd S.bricks b (fun B => { B with res := none, evicting := false, evictFor := none, evacuating := false })
          courses := if retire then aupd S.courses c (fun C => { C with retired := if C.retired.contains f then C.retired else C.retired ++ [f] }) else S.courses })).release p n

/-- COURSE_MASK of a brick's object, 0 standing for every course (R273). -/
def State.courseMask (s : State) (p b : Nat) : Nat :=
  match (s.store p).brick? b with
  | some B => (match aget s.storeNv.objects B.object with | some o => if o.courses == 0 then 65535 else o.courses | none => 65535)
  | none => 65535

/-- Places a frame under a brick: RES, COURSE, FRAME; listed pages are poisoned (R226), every other page unfilled. A frame that the object's
COURSE_MASK does not allow counts against its tenant (R289). -/
def State.giveFrame (s : State) (p b c f : Nat) : State :=
  let s := if bit (s.courseMask p b) c then s else s.tcount p "COURSE_OVERRIDE" ((s.store p).tenantOf b)
  let s := s.modBrick p b (fun B => { B with res := some (c, f), age := 0, anyCourse := false })
  (s.storeNv.lost.filter (fun l => l.part == p && l.brick == b)).foldl (fun s l => s.poison p b l.page) s

/-- A course that is hot: one of its channels is (R244). -/
def State.courseHot (s : State) (C : Course) : Bool :=
  C.channels.any (fun ch => match aget (s.dram ch.1).channels ch.2 with | some x => x.hot | none => false)

/-- Metadata frames that wait for a frame of the pool take it before anything else does (R211); a hot course gives none (R244). -/
def State.takeMeta (s : State) (p : Nat) : State :=
  (s.store p).courses.foldl (fun s e => e.2.metaDue.foldl (fun s i =>
    match aget (s.store p).courses e.1, (s.store p).freeFrame e.1 with
    | some C, some n => if s.courseHot C then s else s.modStore p (fun S => { S with courses := aupd S.courses e.1 (fun C =>
        { C with metaMoved := aset C.metaMoved i n, metaDue := C.metaDue.filter (· != i), retired := if C.retired.contains (C.metaAt i) then C.retired else C.retired ++ [C.metaAt i] }) })
    | _, _ => s) s) s

/-- Courses that a brick's object allows, in service and not hot, in increasing number (R286). -/
def State.allowedCourses (s : State) (p b : Nat) : List Nat :=
  let S := s.store p
  let mask := match S.brick? b with | some B => if B.anyCourse then 65535 else s.courseMask p b | none => 65535
  (S.courses.filter (fun e => bit mask e.1 && e.2.inService && !s.courseHot e.2)).map (·.1)

/-- The course of a list with the most free frames, ties to the lower number; none where every one is full. -/
def StoreP.mostFree (S : StoreP) (l : List Nat) : Option Nat :=
  (l.foldl (fun (best : Option (Nat × Nat)) c =>
    let n := S.freeCount c
    if n == 0 then best
    else match best with
      | some (bc, bn) => if bn < n || (bn == n && c < bc) then some (c, n) else some (bc, bn)
      | none => some (c, n)) none).map (·.1)

/-- Begins an eviction for a tenant on the first allowed course that offers a victim (R286). -/
def State.evictOn (s : State) (p : Nat) (t : Option Nat) : List Nat → Option Nat × State
  | [] => (none, s)
  | c :: cs =>
    match s.chooseVictim p c t with
    | (some v, s') => (some v, s'.startEvict p v t)
    | (none, s') => State.evictOn s' p t cs

/-- A frame for a brick that a read needs (R286-R288): given at once, or not at all; a tenant at its limit starts one eviction of its own. -/
def State.frameForRead (s : State) (p b : Nat) : Bool × State :=
  let S := s.store p
  let tenant := S.tenantOf b
  let allowed := s.allowedCourses p b
  if s.atLimit p tenant then
    let s := s.tcount p "FILL_DEFERRED" tenant
    if S.evictFor.contains tenant then (false, s)
    else
      match s.evictOn p (some tenant) allowed with
      | (some _, s) => (false, s.modStore p (fun S => { S with evictFor := S.evictFor ++ [tenant] }))
      | (none, s) => (false, s)
  else
    match S.mostFree allowed with
    | some c => (match S.freeFrame c with | some f => (true, s.giveFrame p b c f) | none => (false, s.tcount p "FILL_DEFERRED" tenant))
    | none => (false, s.tcount p "FILL_DEFERRED" tenant)

/-- Whether an eviction for a tenant's write is under way on an allowed course. -/
def StoreP.evictingFor (S : StoreP) (t : Nat) : Bool := S.bricks.any (fun e => e.2.evicting && e.2.evictFor == some t)

/-- A frame for a brick that a write needs (R286, R287): given at once, or an eviction is begun and the operation waits (R289). -/
def State.frameForWrite (s : State) (p b opId : Nat) : Bool × State :=
  let S := s.store p
  let tenant := S.tenantOf b
  let allowed := s.allowedCourses p b
  let wait (s : State) : State :=
    s.modStore p (fun S => if ahas S.frameWaits opId then S else { S with frameWaits := S.frameWaits ++ [(opId, s.now)] })
  let free := if s.atLimit p tenant then none else S.mostFree allowed
  match free with
  | some c => (match S.freeFrame c with | some f => (true, s.giveFrame p b c f) | none => (false, wait s))
  | none => if S.evictingFor tenant then (false, wait s) else (false, wait (s.evictOn p (some tenant) allowed).2)

/-- A placement or a pin stops an eviction of its brick (R295). -/
def State.stopEvict (s : State) (p b : Nat) : State :=
  s.modStore p (fun S =>
    let t := match S.brick? b with | some B => B.evictFor | none => none
    { S.modBrick b (fun B => { B with evicting := false, evictFor := none }) with evictFor := S.evictFor.filter (fun x => some x != t) })

/-- An access sets AGE to 0 (R291). -/
def State.touchAge (s : State) (p b : Nat) : State := s.modBrick p b (fun B => { B with age := 0, accessed := some s.now })

/-! ### Flash reads and write-backs (R278-R282, R328-R331) -/

/-- The flash-map entry of a unit. -/
def Flash.entry (F : Flash) (b u : Nat) : Option FMap := aget F.fmap (b, u)

/-- The codewords of a unit in flash. -/
def Flash.unit (F : Flash) (b u : Nat) : List Codeword :=
  match F.entry b u with | some e => agetD F.units e.loc [] | none => []

/-- The stored form of a page's flash copy; zeros without one. -/
def Flash.pageData (F : Flash) (b g : Nat) : Memory :=
  match (F.unit b (g / 4)).find? (fun w => w.page == g) with | some w => w.data | none => []

/-- A flash read of a unit asked for: a later need joins a read under way (R281), and a fill makes it fill. -/
def State.startRead (s : State) (p b u : Nat) (toFill : Bool) (waiter : Option Nat) (reload : Bool) : State :=
  let ws := match waiter with | some w => [w] | none => []
  s.modFlash p (fun F =>
    if F.reads.any (fun r => r.brick == b && r.unit == u) then
      { F with reads := F.reads.map (fun r => if r.brick == b && r.unit == u then
          { r with fill := r.fill || toFill, reload := r.reload || reload, waiting := r.waiting ++ ws.filter (fun w => !r.waiting.contains w) } else r) }
    else { F with reads := F.reads ++ [{ brick := b, unit := u, fill := toFill, waiting := ws, reload := reload, hamper := none, at_ := s.now }] })

/-- Whether a direct window that a die has recorded covers a page of a brick (R306, R307), with its hamper. -/
def State.directAt (s : State) (p die b g : Nat) : Option Nat :=
  ((s.store p).direct.find? (fun w =>
    w.dies.contains die &&
    (match aget s.storeNv.objects w.object with
     | some o =>
       let page := (b - o.first) * 512 + g
       decide (o.first ≤ b) && decide (b < o.first + o.bricks) && decide (w.first ≤ page) && decide (page < w.first + w.pages)
     | none => false) &&
    (match w.ends with | some e => decide (fab s < e) | none => true))).map (·.hamper)

/-- The superblock rows of XOR units (R324): the member that holds row r's XOR unit. -/
def xorMember (row : Nat) : Nat := row % 16

/-- The data unit number `n` of a superblock: its row and member, the XOR member left out (R324). -/
def dataUnitAt (n : Nat) : Nat × Nat :=
  let row := n / 15
  let i := n % 15
  (row, if i < xorMember row then i else i + 1)

/-- The LUN of a group's member, as channel, CE and LUN position (R323). -/
def Flash.member (F : Flash) (m j : Nat) : Nat × Nat × Nat :=
  let l := 16 * m + j
  let n := F.channels.length
  (l % n, l / n / F.luns, l / n % F.luns)

/-- The location of a data unit of a superblock. -/
def Flash.locOf (F : Flash) (m : Nat) (sb : Superblock) (n : Nat) : Loc :=
  let rm := dataUnitAt n
  let l := F.member m rm.2
  { ch := l.1, ce := l.2.1, lun := l.2.2, block := sb.blocks.getD rm.2 0, page := rm.1 }

/-- Data units of a superblock: 15 to a row. -/
def Flash.sbUnits (F : Flash) : Nat := 15 * F.ppb

/-- Erased superblocks of a group. -/
def Group.erased (g : Group) : List (Nat × Superblock) := g.sbs.filter (fun e => e.2.state == .erased)

/-- The superblock of a group that is open in a state, or the erased one with the lowest mean erase count outside the reserve, opened (R337, R347). -/
def Group.openSb (g : Group) (st : SbState) (useReserve : Bool) : Option (Nat × Group) :=
  match g.sbs.find? (fun e => e.2.state == st) with
  | some e => some (e.1, g)
  | none =>
    let er := g.erased
    if er.length ≤ (if useReserve then 0 else g.reserve) then none
    else
      (er.foldl (fun (best : Option (Nat × Superblock)) e => match best with
        | some x => if e.2.worn < x.2.worn then some e else some x
        | none => some e) none).map (fun e => (e.1, { g with sbs := aupd g.sbs e.1 (fun x => { x with state := st, next := 0, xorRows := 0, invalidAt := none }) }))

/-- The next data unit of a group's open superblock in a state: its place, and the group after it. A superblock that is full closes. -/
def Flash.takeUnit (F : Flash) (m : Nat) (st : SbState) (useReserve : Bool) : Option (Nat × Loc × Flash) :=
  match aget F.groups m with
  | none => none
  | some g =>
    if g.readOnly || g.gone then none
    else
      match g.openSb st useReserve with
      | none => none
      | some (i, g') =>
        match aget g'.sbs i with
        | none => none
        | some sb =>
          let n := sb.next
          let sb' := { sb with next := n + 1, xorRows := (n + 1) / 15, state := if n + 1 == F.sbUnits then .closed else sb.state }
          some (i, F.locOf m sb n, { F with groups := aset F.groups m { g' with sbs := aset g'.sbs i sb' } })

/-- A resident page as its lines decode: what the code misses stays in (R186). -/
def State.decodedPage (s : State) (p b g : Nat) : Memory :=
  let S := s.store p
  (S.errLines b g).foldl (fun m k => if k < 64 then
      Memory.xorIn m (64 * k) (((s.lineOutcome p b g k).2.filter (fun e => decide (e.idx < 64))).map (fun e => (e.idx, e.xor)))
    else m) (Memory.extract S.dram (pageAddr b g) 4096)

/-- A snapshot of a unit's four pages for a write-back (R328): frames, flash copies, zeros. A listed or poisoned page is never written
back: its last flash copy goes along (R223, R227). -/
def State.snapshot (s : State) (p b u seq : Nat) : List Codeword :=
  let S := s.store p
  match S.brick? b with
  | none => []
  | some B =>
    (List.range 4).map (fun i =>
      let g := 4 * u + i
      let P := S.page b g
      let v := B.valid.getLsbD g
      { brick := b, page := g,
        keyHalf := if P.filled && P.poison == 0 then pageHalf B g else (match S.flash.entry b u with | some e => e.keyHalf.getD i (pageHalf B g) | none => pageHalf B g),
        valid := v, seq := seq,
        data := if !v then [] else if P.filled && P.poison == 0 then s.decodedPage p b g else S.flash.pageData b g })

end Sys2Proof.Machine
end

