-- ==== Sys2Proof/Machine/FabricOps.lean ====
section
/-! DEFINITION. What the fabric operations share: the packet header (R439), paths and windows (R444-R460), messages of the reliable
classes, and far requests with their answers (R472, R473). -/
namespace Sys2Proof.Machine
open Sys2Proof

/-! ### Parameters of the FABRIC record (R436, R549) -/

def State.domain (s : State) (p : Nat) : Nat := s.field 9 p 0 0 4 0
def State.pktPayload (s : State) (p : Nat) : Nat := s.field 9 p 0 8 2 4096
/-- REASM_TIMEOUT in core cycles. -/
def State.reasmCycles (s : State) (p : Nat) : Nat := s.field 9 p 0 12 4 2000 * cUs
def State.qTarget (s : State) (p : Nat) : Nat := s.field 9 p 0 16 4 10000
def State.cwndMax (s : State) (p : Nat) : Nat := s.field 9 p 0 20 4 1048576
def State.joinRate (s : State) (p : Nat) : Nat := s.field 9 p 0 24 2 256
/-- FAR_TIMEOUT in ns. -/
def State.farTimeout (s : State) (p : Nat) : Nat := s.field 9 p 0 26 2 50 * 1000000

/-- Counts a fabric event of a partition by name. -/
def State.fcount (s : State) (p : Nat) (name : String) (n : Nat := 1) : State :=
  s.modFabric p (fun F => { F with counters := abump F.counters name n })

def Path.reset : Path :=
  { state := .untried, cwnd := 0, baseRtt := 0, samples := [], srtt := 0, rttvar := 0, nextPseq := 1, cum := 0, retrans := 0, ce := 0,
    lastDecrease := 0, tx := [], queue := [], above := [], unacked := 0, oldestUnacked := none, ceSinceAck := 0, echo := 0, highPseq := 0,
    lastAck := 0, probeAt := 0, paceAt := 0, payload := 4096, qTarget := 10000, cwndMax := 1048576 }

def Peer.reset : Peer :=
  { state := .empty, mode := 0, ident := 0, lastAnnounce := 0, slotOrJoin := 0, nextMsg := [], late := 0, reasm := 0, resend := 0, addrs := [],
    joinedAny := false, paths := [], closed := [], joinSentAt := none, refusedUntil := none, emptySince := none, lastHeard := 0, rx := [],
    sent := [], backlog := [] }

/-- With a peer's entry changed; a peer not heard of has an EMPTY entry. -/
def State.modPeer (s : State) (p d : Nat) (f : Peer → Peer) : State :=
  s.modFabric p (fun F => { F with peers := amod F.peers d Peer.reset f })
/-- A peer's entry. -/
def State.peer (s : State) (p d : Nat) : Peer := agetD (s.fabric p).peers d Peer.reset
/-- With a path of a peer changed, where it exists. -/
def State.modPath (s : State) (p d l : Nat) (f : Path → Path) : State :=
  s.modFabric p (fun F => { F with peers := aupd F.peers d (fun e => { e with paths := aupd e.paths l f }) })

/-- The 48-byte header (R439). `kind`: 1 DATA, 2 ACK, 3 RESEND. -/
def pqHeader (s : State) (p kind cls : Nat) (unaddressed reliable : Bool) (dst path pseq msg off total payload : Nat) : List Byte :=
  natBE 2 0x50E7 ++ natBE 1 1 ++ natBE 1 kind ++ natBE 1 cls ++ natBE 1 (b2n unaddressed + 2 * b2n reliable) ++ natBE 2 (s.device p) ++
    natBE 2 (if unaddressed then 0 else dst) ++ natBE 2 path ++ natBE 4 (s.domain p) ++ natBE 4 pseq ++ natBE 8 msg ++ natBE 4 off ++
    natBE 4 total ++ natBE 8 (fab s) ++ natBE 2 payload ++ natBE 2 0

/-- The traffic group of a packet (R461): ACKs and RESENDs go with ROLL, JOIN and PEER. -/
def fabricGroup (kind cls : Nat) : Nat := if kind != 1 then 3 else if cls == 3 || cls == 4 then 1 else if cls == 5 then 2 else 3

/-- UDP_PORT of a partition (R436). -/
def State.udpPort (s : State) (p : Nat) : Nat := s.field 9 p 0 6 2 49310

/-- The destination address of a packet: the peer's address that the label names (R444), or for a number above the devices' ROLL_GROUP, a seed, or ARBITER_ADDR 0 or 1
(R463, R480). -/
def State.fabricDst (s : State) (p d l : Nat) : Nat :=
  let r := s.recD 9 p 0
  if d == 4096 then beAt r 32 16
  else if 4105 ≤ d then beAt r (48 + 16 * (d - 4105)) 16
  else if 4097 ≤ d then beAt r (96 + 16 * (d - 4097)) 16
  else ((s.peer p d).addrs.getD (l / 256 % 16) 0).toNat

/-- How a packet on a path leaves (R436, R444, R461, R463). -/
def State.fabWay (s : State) (p d l kind cls leaves : Nat) : FabWay :=
  let g := fabricGroup kind cls
  { at_ := leaves, port := l / 4096 % 16, dst := s.fabricDst p d l, sport := 0xBF00 + l % 256, dport := s.udpPort p,
    pcp := s.field 9 p 0 (80 + 4 * g) 1 ([3, 5, 4, 6].getD g 0), dscp := s.field 9 p 0 (81 + 4 * g) 1 ([26, 46, 34, 48].getD g 0),
    hops := if d == 4096 then some 8 else none }

/-- Ports of a partition, in increasing die and port number. -/
def State.portList (s : State) (p : Nat) : List Nat := (List.range 16).filter (fun i => s.partHasPort p i)

/-- The port by which a path's label sends (R444). -/
def State.labelPort (s : State) (p l : Nat) : Nat := (s.portList p).getD (l / 4096 % 16) 0

/-- A Penquavin packet leaves, on a cycle, by its label's port. -/
def State.fabricAt (s : State) (p d l kind cls leaves : Nat) (m : List Byte) : State :=
  s.sendOn (s.labelPort p l) 0 (.fabric p d l cls (s.fabWay p d l kind cls leaves) m)

/-- A Penquavin packet leaves at once. -/
def State.fabricOut (s : State) (p d l kind cls : Nat) (m : List Byte) : State := s.fabricAt p d l kind cls s.now m

/-- Unacknowledged payload on a path. -/
def Path.outstanding (x : Path) : Nat := (x.tx.map (·.len)).sum

/-- The cycle on which a path's next packet leaves: packets go evenly at CWND / SRTT (R460). Before the first RTT sample nothing paces them. -/
def Path.leaves (x : Path) (now : Nat) : Nat := if x.srtt == 0 then now else max now x.paceAt

/-- The pace after a packet of some bytes that leaves on a cycle (R460). -/
def Path.paceAfter (x : Path) (leaves len : Nat) : Nat := leaves + ceilDiv (len * x.srtt * 8) (5 * max 1 x.cwnd)

/-- Sends the packets that a path's window has room for, at the path's pace (R460); each takes the path's next PSEQ. None after a CONFLICT (R466). -/
def State.pump : Nat → State → Nat → Nat → Nat → State
  | 0, s, _, _, _ => s
  | n + 1, s, p, d, l =>
    match aget (s.peer p d).paths l with
    | none => s
    | some x =>
      match x.queue with
      | [] => s
      | k :: rest =>
        if x.outstanding + k.len ≤ max x.cwnd k.len && !(s.fabric p).conflict then
          let at_ := x.leaves s.now
          let k := { k with pseq := x.nextPseq, sentAt := at_ }
          let s := s.modPath p d l (fun x => { x with queue := rest, tx := x.tx ++ [k], nextPseq := x.nextPseq + 1, paceAt := x.paceAfter at_ k.len })
          State.pump n (s.fabricAt p d l 1 k.cls at_
            (pqHeader { s with now := at_ } p 1 k.cls false true d l k.pseq k.msg k.off k.total k.len ++ k.body)) p d l
        else s

/-- Splits a message into packets (R440). -/
def packetsOf (payload cls msg : Nat) (body : List Byte) : List TxPkt :=
  (List.range (max 1 (ceilDiv body.length payload))).map (fun i =>
    let b := slice body (payload * i) payload
    { pseq := 0, cls := cls, msg := msg, off := payload * i, len := b.length, sentAt := 0, timeouts := 0, body := b, total := body.length })

/-- A message of a reliable class on one path: the next MSG_ID of the destination and class, split, and sent as the window allows
(R440, R441, R447); it waits while 16,384 are unacknowledged (R452). Nothing where the path does not exist or a CONFLICT stops traffic (R466). -/
def State.fabricSendOn (s : State) (p d l cls : Nat) (body : List Byte) : State :=
  let e := s.peer p d
  if (s.fabric p).conflict || e.state != .joined || !ahas e.paths l then s
  else if 16384 ≤ e.sent.length then s.modPeer p d (fun e => { e with backlog := e.backlog ++ [(l, cls, body)] })
  else
    let msg := agetD e.nextMsg cls 1
    let ks := packetsOf (s.pktPayload p) cls msg body
    let s := (s.modPeer p d (fun e => { e with nextMsg := aset e.nextMsg cls (msg + 1), sent := aset e.sent (cls, msg) (l, body) })).modPath p d l (fun x => { x with queue := x.queue ++ ks })
    State.pump (ks.length + 1) s p d l

/-- The path for a message's first transmission: UP, lowest SRTT - BASE_RTT, then the lower label (R447). -/
def Peer.bestPath (e : Peer) : Option Nat :=
  ((e.paths.filter (fun x => x.2.state != .down)).foldl (fun (best : Option (Nat × Nat)) x =>
    let q := x.2.srtt - x.2.baseRtt
    match best with
    | some (bl, bq) => if q < bq || (q == bq && x.1 < bl) then some (x.1, q) else some (bl, bq)
    | none => some (x.1, q)) none).map (·.1)

/-- A message of a reliable class on the best path (R447). -/
def State.fabricSend (s : State) (p d cls : Nat) (body : List Byte) : State :=
  match (s.peer p d).bestPath with
  | some l => s.fabricSendOn p d l cls body
  | none => s

/-- A message of an unreliable class: one packet (R443). -/
def State.fabricPlain (s : State) (p d cls : Nat) (unaddressed : Bool) (body : List Byte) : State :=
  if (s.fabric p).conflict && cls != 1 then s
  else
    let msg := agetD (s.peer p d).nextMsg cls 1
    let s := if unaddressed then s else s.modPeer p d (fun e => { e with nextMsg := aset e.nextMsg cls (msg + 1) })
    s.fabricOut p d 0 1 cls (pqHeader s p 1 cls unaddressed false d 0 0 msg 0 body.length body.length ++ body)

/-- One copy of an arbiter message as an ARBITER packet on a path (R443, R479). -/
def State.arbiterOn (s : State) (p d dst l : Nat) (m : List Byte) : State :=
  let msg := agetD (s.peer p dst).nextMsg 4 1
  (s.modPeer p dst (fun e => { e with nextMsg := aset e.nextMsg 4 (msg + 1) })).fabricOut p d l 1 4 (pqHeader s p 1 4 false false dst l 0 msg 0 m.length m.length ++ m)

/-- An arbiter message goes out on the two lowest-labelled UP paths to its device, or on one (R479); to an arbiter that has not joined, to its listed addresses (R480). -/
def State.arbiterPackets (s : State) (p dst : Nat) (m : List Byte) : State :=
  let up := (((s.peer p dst).paths.filter (fun x => x.2.state != .down)).map (·.1)).mergeSort (· ≤ ·)
  if !up.isEmpty then (up.take 2).foldl (fun s l => s.arbiterOn p dst dst l m) s
  else if 32768 ≤ s.field 9 p 0 28 2 0 && s.field 9 p 0 28 2 0 % 4096 == dst then
    (([0, 1].filter (fun i => s.fabricDst p (4105 + i) 0 != 0)).foldl (fun s i => s.arbiterOn p (4105 + i) dst 0 m) s)
  else s

/-! ### Far windows (R472, R473) -/

/-- The body of a far request (R472). -/
def farBytes (r : FarReq) : List Byte :=
  natBE 1 r.op ++ natBE 1 (b2n r.keystone + 2 * r.durability + 8 * b2n r.encipher + 16 * r.prio) ++ natBE 2 r.tenant ++ natBE 4 r.qpn.toNat ++
    natBE 8 r.sseq ++ natBE 8 r.addr ++ natBE 4 r.len ++ natBE 4 r.imm.toNat ++ natBE 8 r.a.toNat ++ natBE 8 r.b.toNat ++ r.data

/-- Far requests of a QP that have no answer yet (R474). -/
def FabricP.unanswered (F : FabricP) (qpn : BitVec 24) : Nat := (F.farSent.filter (fun e => e.1.1 == qpn)).length

/-- Forwards a request under the QP's next SSEQ and keeps it until it is answered (R474). A QP has one count of SSEQs, whichever partitions back its windows: the spec does not
say whether the count is one per backing partition, and this is the model's choice (R177, log 203). -/
def State.farForward (s : State) (p peer opId : Nat) (r : FarReq) : Nat × State :=
  let n := agetD (s.fabric p).farNext r.qpn 1
  let r := { r with sseq := n }
  (n, (s.modFabric p (fun F =>
    { F with farNext := aset F.farNext r.qpn (n + 1),
             farSent := aset F.farSent (r.qpn, n) { opId := opId, sseq := n, firstAt := fab s, peer := peer, op := r.op, body := r, notServing := none } })).fabricSend
      p peer 5 (farBytes r))

/-- Answers a far request (R473). -/
def State.farAnswer (s : State) (p peer op result : Nat) (qpn : BitVec 24) (sseq : Nat) (orig : BitVec 64) (off : Nat) (data : List Byte) : State :=
  s.fabricSend p peer 5 (natBE 1 op ++ natBE 1 result ++ natBE 2 0 ++ natBE 4 qpn.toNat ++ natBE 8 sseq ++ natBE 8 orig.toNat ++ natBE 4 off ++
    natBE 4 data.length ++ data)

/-! ### Roll call (R463-R466) -/

/-- IDENT of a partition (R463). -/
def ident (p : Nat) : List Byte := (sha3 (Config.identityKey ++ natLE 1 p)).take 8

/-- Seeds of the FABRIC record, and where its port addresses begin (R549). -/
def State.seeds (s : State) (p : Nat) : Nat := s.field 9 p 0 30 1 0
/-- Fabric addresses of a partition, in the record's order (R437, R549). -/
def State.fabricAddrs (s : State) (p : Nat) : List (BitVec 128) :=
  let r := s.recD 9 p 0
  (List.range (leAt r 31 1)).map (fun i => BitVec.ofNat 128 (beAt r (96 + 16 * leAt r 30 1 + 24 * i + 8) 16))

/-- The body of an ANNOUNCE (R463, R464). -/
def State.announceBody (s : State) (p : Nat) : List Byte :=
  let F := s.fabric p
  let as := (s.fabricAddrs p).take 16
  ident p ++ natBE 1 (s.mode p).code ++ natBE 1 (b2n F.joinedAny) ++ natBE 1 as.length ++ natBE 1 0 ++ natBE 8 F.buildEnd ++ natBE 4 0 ++
    (as.map (fun a => natBE 16 a.toNat)).flatten

/-- The destinations of a roll call that are no device numbers: 4,096 stands for ROLL_GROUP and 4,097 + i for seed i. -/
def State.rollDests (s : State) (p : Nat) : List Nat :=
  (if beAt (s.recD 9 p 0) 32 16 == 0 then [] else [4096]) ++ (List.range (s.seeds p)).map (· + 4097)

/-- An ANNOUNCE to ROLL_GROUP and to each seed, from BUILD entry until COLD (R463). -/
def State.announce (s : State) (p : Nat) : State :=
  if !(s.pkg == .on || s.pkg == .seqDown) then s
  else (s.rollDests p).foldl (fun s d => s.fabricPlain p d 1 true (s.announceBody p)) s

/-! ### Joining (R467-R471) -/

/-- A JOIN message: TYPE, seven zero bytes, the body (R467). -/
def State.joinMsg (s : State) (p d typ : Nat) (body : List Byte) : State := s.fabricPlain p d 2 false (natBE 1 typ ++ fill 7 0 ++ body)

/-- JOIN_REQ sent: the peer's answer is awaited (R467, R468). -/
def State.joinReq (s : State) (p d : Nat) : State :=
  if (s.fabric p).conflict then s
  else (s.joinMsg p d 1 (ident p)).modPeer p d (fun e => { e with state := .joining, joinSentAt := some (fab s), refusedUntil := none })

/-- JOIN_REFUSE with a cause and a time (R467). -/
def State.joinRefuse (s : State) (p d cause retry : Nat) : State := s.joinMsg p d 3 (natBE 1 cause ++ fill 7 0 ++ natBE 8 retry)

/-- How many ports a partition has. -/
def State.localPorts (s : State) (p : Nat) : Nat := (s.portList p).length

/-- The label of path j of a join (R444, R445). -/
def joinLabel (l a j : Nat) : Nat := j % l * 4096 + j / l % a * 256 + j

/-- A path's initial state (R460), with the FABRIC record's parameters of its creation (R564). -/
def State.newPath (s : State) (p : Nat) : Path :=
  { Path.reset with cwnd := 16 * s.pktPayload p, payload := s.pktPayload p, qTarget := s.qTarget p, cwndMax := s.cwndMax p }

/-- The paths that a join creates (R445): up to eight, and for the twin the two that its record names. -/
def State.joinPaths (s : State) (p d : Nat) (addrs : Nat) : List (Nat × Path) :=
  let l := s.localPorts p
  let own := (List.range (min 8 (l * addrs))).map (fun j => joinLabel l addrs j)
  let twin := match s.rec? 10 p 0 with
    | some b => if leAt b 0 2 % 4096 == d then [leAt b 24 2, leAt b 26 2] else []
    | none => []
  (own ++ twin.filter (fun x => !own.contains x)).eraseDups.map (fun x => (x, s.newPath p))

/-- A join is complete: MSG_IDs restart, paths are created, JOINED_ANY is set (R468). -/
def State.joined (s : State) (p d : Nat) : State :=
  (s.modPeer p d (fun e =>
    { e with state := .joined, slotOrJoin := fab s, nextMsg := [], paths := s.joinPaths p d e.addrs.length, closed := [], joinSentAt := none,
             refusedUntil := none, rx := [], sent := [], backlog := [] })).modFabric p (fun F =>
    { F with joinedAny := true, schedule := adel F.schedule d, slots := F.slots.filter (fun x => x.1.1 != d) })

/-- The twin and the arbiter partition join outside the schedule (R470). -/
def State.outsideSchedule (s : State) (p d : Nat) : Bool :=
  (match s.rec? 10 p 0 with
    | some b => leAt b 0 2 % 4096 == d || (leAt b 28 2 < 32768 && leAt b 28 2 % 4096 == d)
    | none => false) ||
  (let a := s.field 9 p 0 28 2 0; decide (32768 ≤ a) && a % 4096 == d)

/-- The fabric time of join slot i (R470). -/
def State.slotTime (s : State) (p i : Nat) : Nat := (s.fabric p).buildEnd + i * 1000000000 / max 1 (s.joinRate p)

/-- The order of 12 bits reversed (R470). -/
def bitrev12 (k : Nat) : Nat := ((List.range 12).map (fun i => if bit k i then 2 ^ (11 - i) else 0)).sum

/-- The rank of a peer (R470). -/
def State.joinRank (s : State) (p n : Nat) : Nat := bitrev12 ((n + 4096 - s.device p) % 4096)

/-- A slot for a peer that has none: the next free one after the last promised that has not passed (R471). -/
def State.nextJoinSlot (s : State) (p d : Nat) : Nat × State :=
  let F := s.fabric p
  let passed := if fab s ≤ F.buildEnd then 0 else ceilDiv ((fab s - F.buildEnd) * s.joinRate p) 1000000000
  let i := max F.nextSlot passed
  (s.slotTime p i, s.modFabric p (fun F => { F with schedule := aset F.schedule d (s.slotTime p i), nextSlot := i + 1 }))

/-- The end of BUILD (R470): twin and arbiter first, then one schedule of every PENDING and ANNOUNCED peer by rank; the PENDING hear of their slots. -/
def State.scheduleJoins (s : State) (p : Nat) : State :=
  let s := s.modFabric p (fun F => { F with buildEnd := fab s, schedule := [], nextSlot := 0 })
  let known := ((s.fabric p).peers.filter (fun e => e.2.state == .pending || e.2.state == .announced)).map (·.1)
  let s := (known.filter (fun d => s.outsideSchedule p d)).foldl (fun s d => s.joinReq p d) s
  let others := (List.range 4096).filterMap (fun k => known.find? (fun d => !s.outsideSchedule p d && s.joinRank p d == k))
  others.foldl (fun s d =>
    let i := (s.fabric p).nextSlot
    let at_ := s.slotTime p i
    let s := s.modFabric p (fun F => { F with schedule := aset F.schedule d at_, nextSlot := i + 1 })
    if (s.peer p d).state == .pending then (s.joinRefuse p d 2 at_).modPeer p d (fun e => { e with slotOrJoin := at_ }) else s) s

/-- LEAVE to every JOINED peer, on entry to SEQUENCE toward COLD (R468). -/
def State.leaveAll (s : State) : State :=
  s.partIds.foldl (fun s p => ((s.fabric p).peers.filter (fun e => e.2.state == .joined)).foldl (fun s e => s.joinMsg p e.1 4 []) s) s

/-- The device number is tried again (R466): on a new image, or once the conflicting peer has been EMPTY for 5 s. -/
def State.retryNumber (s : State) (p : Nat) : State :=
  if (s.fabric p).conflict then (s.modFabric p (fun F => { F with conflict := false, peers := adel F.peers (s.device p) })).announce p else s

end Sys2Proof.Machine
end

