-- ==== Sys2Proof/Machine/TwinOps.lean ====
section
/-! DEFINITION. What the twin operations share: roles, mirror messages (R410-R412), the apply stream (R397-R400), digests (R414), change
maps (R428), and arbiter messages (R418). -/
namespace Sys2Proof.Machine
open Sys2Proof

/-- Fields of the TWIN record (R550). -/
def State.group (s : State) (p : Nat) : Nat := s.field 10 p 0 4 4 0 % 16777216

/-- A paired twin that leads (R397). -/
def TwinP.lead (T : TwinP) : Bool := T.paired && T.role == .lead
/-- A paired twin that follows the lead's stream: neither promoted nor free-running, or being resynchronised (R399, R424, R432). -/
def TwinP.follows (T : TwinP) : Bool := T.paired && T.role != .lead && !T.freeRunning && (T.role == .follower || T.resync)
/-- A paired twin whose peer takes part: entries and replicas travel (R398); during a resynchronisation too (R431, R432). -/
def TwinP.mirrors (T : TwinP) : Bool :=
  T.paired && !T.freeRunning && (T.resync || (!T.solo && !T.peerFenced && T.role != .fenced))
/-- The MSEQ that the next message sent will have. -/
def TwinP.nextMseq (T : TwinP) : Nat := T.mseqNext + T.backlog.length

/-- The EPOCH of a moment (R400): fabric milliseconds modulo 2^32. -/
def epochNow (s : State) : Nat := fab s / 1000000 % 4294967296

/-- A mirror message with its header (R411). -/
def mirrorBytes (s : State) (p path kind mseq : Nat) (body : List Byte) : List Byte :=
  natBE 2 0x54E1 ++ natBE 1 kind ++ natBE 1 path ++ natBE 4 (s.group p) ++ natBE 4 (s.twin p).epoch ++ natBE 8 mseq ++
    natBE 4 body.length ++ natBE 8 (fab s) ++ body

/-- The label of a mirror path (R410, R550). -/
def State.mirrorLabel (s : State) (p path : Nat) : Nat := s.field 10 p 0 (24 + 2 * path) 2 0
/-- The peer device of the TWIN record. -/
def State.twinPeer (s : State) (p : Nat) : Nat := s.field 10 p 0 0 2 0 % 4096

/-- One copy of a mirror message, on the path that R410 assigns to it. -/
def State.mirrorCopy (s : State) (p path kind mseq : Nat) (body : List Byte) : State :=
  let m := mirrorBytes s p path kind mseq body
  (s.send (.mirror p path kind m)).fabricSendOn p (s.twinPeer p) (s.mirrorLabel p path) 3 m

/-- Sends a message on both paths under the next MSEQ (R410). -/
def State.mirrorNow (s : State) (p kind : Nat) (body : List Byte) : State :=
  let n := (s.twin p).mseqNext
  ((s.mirrorCopy p 0 kind n body).mirrorCopy p 1 kind n body).modTwin p
    (fun T => { T with mseqNext := n + 1, sent := n, paths := T.paths.map (fun x => { x with lastOut := s.now }) })

/-- A mirror message: sent at once, or kept while 4,096 are unacknowledged (R410). -/
def State.mirror (s : State) (p kind : Nat) (body : List Byte) : State :=
  let T := s.twin p
  if T.sent - T.confirmed < 4096 && T.backlog.isEmpty then s.mirrorNow p kind body
  else s.modTwin p (fun T => { T with backlog := T.backlog ++ [(kind, body)] })

/-- KIND of an apply entry (R400). -/
def applyCode : ApplyKind → Nat
  | .inStep => 1 | .replica => 2 | .read => 3 | .error => 4 | .ring => 5

/-- Byte 0 of an entry: KIND and PART. -/
def entryByte0 (e : ApplyEntry) : Nat := applyCode e.kind + 16 * b2n e.second

/-- An apply entry's 24 bytes (R400). -/
def entryBytes (e : ApplyEntry) : List Byte :=
  natBE 1 (entryByte0 e) ++ natBE 1 e.cause ++ natBE 2 0 ++ natBE 4 e.epoch ++ natBE 4 e.id ++ natBE 4 e.psn.toNat ++ natBE 8 e.page

/-- Sends every unsent entry in one APPLY message (R411); writes that waited for their entry's message learn its MSEQ (R170). -/
def State.sendApply (s : State) (p : Nat) : State :=
  let T := s.twin p
  if T.unsent.isEmpty then s
  else
    let n := T.nextMseq
    let s := s.mirror p 1 (T.unsent.map entryBytes).flatten
    (s.modTwin p (fun T => { T with unsent := [], unsentSince := none })).modRemote p (fun r =>
      { r with unconfirmed := r.unconfirmed.map (fun u => if u.mseq == 0 then { u with mseq := n } else u) })

/-- f of an entry (R414): the bare GHASH of its two blocks under the digest key. -/
def digestOf (h : Nat) (e : ApplyEntry) (placed : List Byte) : Nat :=
  ghash h (natBE 8 e.page ++ natBE 4 e.id ++ natBE 4 e.psn.toNat ++ natBE 4 e.epoch ++ natBE 1 (entryByte0 e) ++ natBE 3 0 ++
    natBE 4 (crc32c placed) ++ natBE 4 placed.length)

/-- The digest key H of a partition's pair (R570). -/
def State.digestKey (s : State) (p : Nat) : List Byte := agetD s.sec.sys (14 + p) (fill 16 0)

/-- Folds an applied write's entry into its epoch (R414). -/
def State.foldDigest (s : State) (p : Nat) (e : ApplyEntry) (placed : List Byte) : State :=
  let f : BitVec 128 := BitVec.ofNat 128 (digestOf (beNat (s.digestKey p)) e placed)
  s.modTwin p (fun T => { T with digest := { T.digest with folds := amod T.digest.folds e.epoch (0, 0) (fun x => (x.1 + 1, x.2 ^^^ f)) } })

/-- Whether one epoch is not after another, modulo 2^32 (R400). -/
def epochLe (a b : Nat) : Bool := decide ((b + 4294967296 - a) % 4294967296 < 2147483648)

/-- Count of an epoch's entries and D after it (R414, R415). -/
def DigestSt.at_ (D : DigestSt) (e : Nat) : Nat × BitVec 128 :=
  ((agetD D.folds e (0, 0)).1, (D.folds.filter (fun x => epochLe x.1 e)).foldl (fun d x => d ^^^ x.2.2) D.d)

/-- An epoch closed: its folds enter D. -/
def DigestSt.close (D : DigestSt) (e : Nat) : DigestSt :=
  { D with d := (D.at_ e).2, folds := D.folds.filter (fun x => !epochLe x.1 e) }

/-- An entry of the lead's stream: unsent until 64 gather or 500 ns pass (R397, R411). -/
def State.entry (s : State) (p : Nat) (e : ApplyEntry) : State :=
  let s := s.modTwin p (fun T => { T with unsent := T.unsent ++ [e], unsentSince := match T.unsentSince with | some c => some c | none => some s.now })
  if 64 ≤ (s.twin p).unsent.length then s.sendApply p else s

/-- The bit of a MIRROR brick in the current change map (R428). -/
def State.markMap (s : State) (p b : Nat) : State :=
  let T := s.twin p
  if !T.mapsHeld then s
  else
    let add (l : List Nat) : List Nat := if l.contains b then l else l ++ [b]
    s.modTwin p (fun T => if T.curA then { T with mapA := add T.mapA } else { T with mapB := add T.mapB })

/-- A number for a REPLICATE message: the follower's have bit 31 set, so that the two twins' never meet (log 13). -/
def State.replicaNumber (s : State) (p : Nat) : Nat × State :=
  let T := s.twin p
  (T.replicaNext % 2147483648 + (if T.role == .lead then 0 else 2147483648), s.modTwin p (fun T => { T with replicaNext := T.replicaNext + 1 }))

/-- The body of a REPLICATE message (R412). -/
def replBytes (n b g : Nat) (mask : BitVec 64) (lines : List (List Byte)) : List Byte :=
  natBE 4 n ++ natBE 8 (pageAddr b g) ++ natBE 8 mask.toNat ++ lines.flatten

/-- Bytes 0-31 of an arbiter message (R418). -/
def arbHead (kind role reason peerState epoch group device time value : Nat) : List Byte :=
  natBE 2 0xA7B1 ++ natBE 1 kind ++ natBE 1 role ++ natBE 4 group ++ natBE 4 epoch ++ natBE 2 device ++ natBE 1 reason ++
    natBE 1 peerState ++ natBE 8 time ++ natBE 8 value

/-- TAG under a partition's arbiter key (R418). -/
def State.arbTag (s : State) (p device time : Nat) (head : List Byte) : List Byte :=
  gmac (agetD s.sec.sys (10 + p) (fill 32 0)) (natBE 2 device ++ natBE 8 time ++ [0, 0]) head

/-- An arbiter message with its tag (R418). -/
def arbBytes (s : State) (p kind role reason peerState epoch group device time value : Nat) : List Byte :=
  let m := arbHead kind role reason peerState epoch group device time value
  m ++ s.arbTag p device time m

/-- The role code of R418. -/
def Role.code : Role → Nat
  | .follower => 0 | .lead => 1 | .fenced => 2

/-- The ROLE that a twin's messages carry: before its first GRANT, the one of its record (R418, R550). -/
def TwinP.roleCode (T : TwinP) : Nat := if T.pairing.isSome && T.epoch == 0 then T.claims.code else T.role.code

/-- Whether the seal engine works: neither stopped for want of randomness nor opened for debug (R595, R611). -/
def State.engine (s : State) : Bool := !s.sec.drbgStopped && !s.sec.enginesOff

/-- Sends the arbiter a message of a type with a reason (R418); without a tag none leaves (R595). -/
def State.toArbiter (s : State) (p kind reason value : Nat) : State :=
  let T := s.twin p
  if (s.fabric p).conflict || !s.engine then s
  else
    let m := arbBytes s p kind T.roleCode reason 0 T.epoch (s.group p) (s.device p) (fab s) value
    (s.send (.arbiter p kind m)).arbiterPackets p (s.field 10 p 0 28 2 0 % 4096) m

/-- A REPORT, sent once for each reason until the role changes (R413, R417). -/
def State.report (s : State) (p reason : Nat) : State :=
  let T := s.twin p
  if T.reported.contains reason then s
  else (s.toArbiter p 4 reason T.digest.lastMatched).modTwin p (fun T => { T with reported := T.reported ++ [reason] })

/-- FENCE_NOTICE to the peer (R419, R426). -/
def State.fenceNotice (s : State) (p reason : Nat) : State := s.mirror p 0x11 (natBE 1 reason)

/-- RENEW (R419). -/
def State.renew (s : State) (p : Nat) : State :=
  (s.toArbiter p 1 0 0).modTwin p (fun T => { T with renewAt := fab s, renewUnanswered := match T.renewUnanswered with | some c => some c | none => some (fab s) })

/-- The guard before a lease's expiry, in ns: twice the declared holdover drift over 200 ms, and 1 ms (R419, R548 DRIFT_PPB). -/
def State.guard (s : State) : Nat := 2 * s.field 0xE 0xFF 0 8 4 20000 * 200000000 / 1000000000 + 1000000

/-- A QP context's 64 bytes (R103). -/
def qpStateCode : QpState → Nat
  | .free => 0 | .connecting => 1 | .ready => 2 | .error => 3 | .closing => 4 | .timewait => 5

def qpBytes (q : Qp) : List Byte :=
  natLE 1 (qpStateCode q.state + 16 * b2n q.twinned + 32 * q.policy.toNat) ++ natLE 1 q.pmtu.toNat ++ natLE 2 q.tenant ++ natLE 4 q.qpn.toNat ++
  natLE 4 q.dest.toNat ++ natLE 4 q.epsn.toNat ++ natLE 4 q.msn.toNat ++ natLE 16 q.ip.toNat ++ natLE 6 q.mac.toNat ++ natLE 2 q.vlan.toNat ++
  natLE 1 q.dscp.toNat ++ natLE 1 q.respRes ++ natLE 1 (q.port % 2 + 2 * q.brk) ++ natLE 1 q.errCause ++ natLE 8 q.errStamp ++ natLE 4 q.rate ++
  natLE 4 q.cnpCount

end Sys2Proof.Machine
end

