-- ==== Sys2Proof/Machine/QpOps.lean ====
section
/-! DEFINITION. Queue pairs: numbers and contexts (R101-R104), what the device sends on them (R118-R120, R139-R141), the error state and what
it settles (R122), rewind (R796). -/
namespace Sys2Proof.Machine
open Sys2Proof

/-! ### Numbers and contexts -/

/-- The die, generation and slot of a QPN (R101). -/
def qpnDie (q : BitVec 24) : Nat := bits q.toNat 23 21
def qpnGen (q : BitVec 24) : Nat := bits q.toNat 20 14
def qpnSlot (q : BitVec 24) : Nat := bits q.toNat 13 0
def mkQpn (die gen slot : Nat) : BitVec 24 := BitVec.ofNat 24 (die * 2097152 + gen * 16384 + slot)

/-- The live context that a QPN names. -/
def State.qp? (s : State) (q : BitVec 24) : Option Qp :=
  match aget (s.rd (qpnDie q)).qps (qpnSlot q) with
  | some c => if c.qpn == q && c.state != .free then some c else none
  | none => none

/-- With a live context changed. -/
def State.modQp (s : State) (q : BitVec 24) (f : Qp → Qp) : State :=
  match s.qp? q with
  | some _ => s.modRd (qpnDie q) (fun r => { r with qps := aupd r.qps (qpnSlot q) f })
  | none => s

/-- Runs `f` on a live context and the partition of its die; without one nothing changes. -/
def State.onQp (s : State) (q : BitVec 24) (f : Qp → Nat → State → State) : State :=
  match s.qp? q, s.partOfDie (qpnDie q) with
  | some c, some p => f c p s
  | _, _ => s

/-- The generation after one (R102). -/
def nextGen (g : Nat) : Nat := if 127 ≤ g then 1 else g + 1

/-- The generation of a slot (R102, R798). -/
def RemoteD.gen (r : RemoteD) (slot : Nat) : Nat := agetD r.gens slot r.startGen

/-- Frees a context: its slot's generation advances by one (R102, R104). -/
def State.freeQp (s : State) (q : BitVec 24) : State :=
  match s.qp? q with
  | some _ => s.modRd (qpnDie q) (fun r =>
      { r with qps := adel r.qps (qpnSlot q), gens := aset r.gens (qpnSlot q) (nextGen (r.gen (qpnSlot q))) })
  | none => s

/-- The line rate of a port or breakout in Mb/s (R140, R543). -/
def State.lineRate (s : State) (p port : Nat) : Nat := 800000 / s.breakouts p port

/-- Whether a slot lies in the twin QP slot range (R102, R550). -/
def State.twinSlot (s : State) (p slot : Nat) : Bool :=
  match s.rec? 10 p 0 with
  | some b => decide (leAt b 16 2 ≤ slot) && decide (slot < leAt b 16 2 + leAt b 18 2)
  | none => false

/-- Context slots of a die: 1,024 to a granule of PANTRY_LAYOUT (R102, R545). -/
def State.qpSlots (s : State) (d : Nat) : Nat := min 16384 (1024 * s.field 3 0xFF d 0 2 0)

/-- The lowest-numbered FREE slot of a die, inside or outside the twin range (R102). -/
def State.freeSlot (s : State) (p d : Nat) (twin : Bool) : Option Nat :=
  (List.range (s.qpSlots d)).find? (fun i => s.twinSlot p i == twin && !ahas (s.rd d).qps i)

/-- QPs of a tenant on a partition that are not FREE. -/
def State.tenantQps (s : State) (p tenant : Nat) : Nat :=
  ((s.partDies p).map (fun d => ((s.rd d).qps.filter (fun e => e.2.tenant == tenant)).length)).sum

/-- PSN arithmetic modulo 2^24: the distance from `b` to `a`, between -2^23 and 2^23 - 1. -/
def psnDiff (a b : BitVec 24) : Int := (a - b).toInt

def mtuBytes (m : BitVec 3) : Nat := 128 * 2 ^ m.toNat

/-! ### What the device sends on a QP -/

/-- Whether an operation writes: a write packet of R142, an atomic, or a status record. -/
def Op.writes (o : Op) : Bool :=
  match o.kind with
  | .write | .writeImm _ | .cas _ _ | .fadd _ | .atomicWrite | .status => true
  | .read | .flush _ _ _ => false

/-- Whether a twin sends a response of a kind under its policy (R403, R392, R423): every response, or acknowledgements only, or nothing. -/
def State.maySend (s : State) (p : Nat) (q : Qp) (readData : Bool) : Bool :=
  if !q.twinned then true
  else
    let T := s.twin p
    if !T.paired || T.role == .fenced || T.unpairing.isSome then false
    else if T.role == .lead then true
    else if q.policy == 0 then true
    else if q.policy == 1 then !readData
    else false

/-- The way of a QP's packets (R90, R103). -/
def Qp.way (c : Qp) : Route :=
  { dest := c.dest, ip := c.ip, mac := c.mac, vlan := c.vlan, dscp := c.dscp, port := c.port, brk := c.brk, sport := udpSource c.qpn }

/-- What leaves by a QP's port. -/
def State.sendQp (s : State) (c : Qp) (o : Out) : State := s.sendOn (2 * qpnDie c.qpn + c.port) c.brk o

/-- A CM message about a QP, or to a requester without one by the port of its REQ: it leaves on QP1 (R90). -/
def State.sendCm (s : State) (q : BitVec 24) (m : CmOut) : State :=
  match s.qp? q with
  | some c => s.sendQp c (.cm (udpSource 1) q m)
  | none => s.send (.cm (udpSource 1) q m)
def State.sendCmTo (s : State) (port brk : Nat) (dest : BitVec 24) (m : CmOut) : State := s.sendOn port brk (.cmTo (udpSource 1) dest m)

/-- Whether a partition's ports have left service in a drain: everything accepted is placed, and the data set stands (R181, R365 step 5). -/
def State.portsOut (s : State) (p : Nat) : Bool := s.mode p == .drain && (s.store p).drain.setAt.isSome

/-- A response on a QP: not once it has left service, nor where the twin policy gives it to the peer. -/
def State.reply (s : State) (p : Nat) (q : BitVec 24) (at_ : Nat) (psn : BitVec 24) (r : Reply) : State :=
  match s.qp? q with
  | none => s
  | some c =>
    let rd := match r with | .readData _ => true | _ => false
    if s.maySend p c rd && c.state != .error && !s.portsOut p then s.sendQp c (.rdma at_ q psn r c.way) else s

/-- The PSN that an ACK may cover: the highest accepted, short of the oldest write that still waits (R143). -/
def State.ackPsn (s : State) (p : Nat) (c : Qp) : Option (BitVec 24) :=
  match c.lastAcc with
  | none => none
  | some a =>
    let waiting := ((s.remote p).ops.filter (fun o => o.qpn == c.qpn && o.writes && o.accepted.isNone && o.farFrom.isNone && !o.mirrored)).map (·.psn)
    match waiting with
    | [] => some a
    | w :: _ => if psnDiff a w < 0 then some a else some (w - 1)

/-- An ACK for everything accepted so far (R118). -/
def State.ackNow (s : State) (p : Nat) (q : BitVec 24) : State :=
  match s.qp? q with
  | none => s
  | some c =>
    match s.ackPsn p c with
    | some psn => (s.reply p q s.now psn (.ack c.msn)).modQp q (fun c => { c with unacked := 0, oldestUnacked := none })
    | none => s

/-- An accepted packet awaits its ACK: sent at a message's end and after 16 packets, else within 2 µs (R118). -/
def State.scheduleAck (s : State) (p : Nat) (q : BitVec 24) (psn : BitVec 24) (last : Bool) : State :=
  let s := s.modQp q (fun c => { c with unacked := c.unacked + 1, oldestUnacked := match c.oldestUnacked with | some x => some x | none => some s.now,
                                        lastAcc := match c.lastAcc with | some a => if psnDiff psn a < 0 then some a else some psn | none => some psn })
  match s.qp? q with
  | some c => if last || 16 ≤ c.unacked then s.ackNow p q else s
  | none => s

/-- A CNP to a QP's requester, at most one in 50 µs (R138, R139). -/
def State.sendCnp (s : State) (q : BitVec 24) : State :=
  match s.qp? q with
  | none => s
  | some c =>
    let ok := match c.lastCnpSent with | some x => decide (x + 50 * cUs ≤ s.now) | none => true
    if ok then (s.sendQp c (.rdma s.now q c.epsn .cnp c.way)).modQp q (fun c => { c with lastCnpSent := some s.now }) else s

/-- The core cycles that a paced packet of `n` bytes takes at a RATE. -/
def paceCycles (rate n : Nat) : Nat := ceilDiv (n * 8 * 1600) (max 1 rate)

/-- When a paced response of `n` bytes leaves, and the time before which no further one may (R140). -/
def State.pace (s : State) (q : BitVec 24) (n : Nat) : Nat × State :=
  match s.qp? q with
  | none => (s.now, s)
  | some c =>
    let at_ := max s.now c.paceAt
    (at_, s.modQp q (fun c => { c with paceAt := at_ + paceCycles c.rate n }))

/-- The bytes of a paced packet of a QP, and when it leaves: RDMA READ and atomic responses (R140). -/
def Out.paced (q : BitVec 24) : Out → Option (Nat × Nat)
  | .rdma t n _ r _ =>
    if n != q then none
    else match r with
      | .readData b => some (t, b.length)
      | .atomicAck _ => some (t, 8)
      | _ => none
  | _ => none

/-- A packet with another leaving time. -/
def Out.leaving (at_ : Nat) : Out → Out
  | .rdma _ n psn r w => .rdma at_ n psn r w
  | o => o

/-- The paced packets of a QP that have not yet left, paced anew after a change of RATE (R140). -/
def State.repace (s : State) (q : BitVec 24) : State :=
  match s.qp? q with
  | none => s
  | some c =>
    let r := s.out.foldl (fun (acc : List Out × Nat) o =>
      match o.paced q with
      | none => (acc.1 ++ [o], acc.2)
      | some (t, n) =>
        if t ≤ s.now then (acc.1 ++ [o], max s.now (t + paceCycles c.rate n))
        else (acc.1 ++ [o.leaving acc.2], acc.2 + paceCycles c.rate n)) ([], s.now)
    if s.out.any (fun o => (o.paced q).isSome) then ({ s with out := r.1 } : State).modQp q (fun c => { c with paceAt := r.2 }) else s

/-- RDMA READ responses of a QP that have not yet left are not sent (R122). -/
def State.withdraw (s : State) (q : BitVec 24) : State :=
  { s with out := s.out.filter (fun o => match o with
    | .rdma t n _ (.readData _) _ => !(n == q && decide (s.now < t))
    | _ => true) }

/-! ### Errors (R120-R122) -/

/-- The AETH syndrome of a cause (R120, R173, R404, R423); none where no NAK is sent. -/
def causeSyndrome (c : Nat) : Option (BitVec 8) :=
  if c == 0x10 || c == 0x11 || c == 0x12 then some 0x61
  else if (0x20 ≤ c && c ≤ 0x26) then some 0x62
  else if (0x30 ≤ c && c ≤ 0x33) || c == 0x36 then some 0x63
  else none

/-- Counts a cause in a die's error registers (R120). -/
def State.causeCount (s : State) (d c : Nat) : State := s.modRd d (fun r => { r with causes := abump r.causes c })

/-- KEY_CHECK_EVENTS: at most one record per second per die, with the tenant and the events since the last (R121). -/
def State.keyEvent (s : State) (d tenant : Nat) : State :=
  let r := s.rd d
  let n := r.keyEvents + 1
  let okNow := match r.keyLogAt with | some x => decide (x + 1000000000 ≤ fab s) | none => true
  if okNow then
    (s.modRd d (fun r => { r with keyEvents := 0, keyLogAt := some (fab s) })).log .keyCheckEvents (srcDie d) (subject (some d) 8 0 0 tenant [n])
  else s.modRd d (fun r => { r with keyEvents := n })

/-- The OP of a far request of an operation's kind (R472). -/
def OpKind.farOp : OpKind → Nat
  | .write | .status => 1 | .writeImm _ => 2 | .read => 3 | .cas _ _ => 4 | .fadd _ => 5 | .atomicWrite => 6 | .flush _ _ _ => 7

/-- Whether an operation takes a responder resource (R86, R165). -/
def Op.responder (o : Op) : Bool :=
  match o.kind with
  | .read | .cas _ _ | .fadd _ | .flush _ _ _ => true
  | _ => false

def State.modOps (s : State) (p : Nat) (f : List Op → List Op) : State := s.modRemote p (fun r => { r with ops := f r.ops })
def State.modOp (s : State) (p id : Nat) (f : Op → Op) : State := s.modOps p (fun l => l.map (fun o => if o.id == id then f o else o))
def State.op? (s : State) (p id : Nat) : Option Op := (s.remote p).ops.find? (·.id == id)

/-- Takes an operation out of the table, and out of every wait. A far keystone that ends without its ring entry gives that entry's charge back. -/
def State.endOp (s : State) (p id : Nat) : State :=
  let due := (s.remote p).ops.any (fun o => o.id == id && o.farTo.isSome && o.ringDue)
  let s := (s.modOps p (fun l => l.filter (·.id != id))).modStore p (fun S =>
    { S with frameWaits := S.frameWaits.filter (·.1 != id),
             flash := { S.flash with reads := S.flash.reads.map (fun r => { r with waiting := r.waiting.filter (· != id) }) } })
  if due then s.release p 1 else s

/-- What R122 leaves of a QP's operations: accepted writes and accepted atomics, whose responses are no longer sent, and requests that a backing partition has yet to
report (R128, R478). -/
def State.settleQp (s : State) (p : Nat) (q : BitVec 24) : State :=
  let keep (o : Op) : Bool := (o.writes && o.accepted.isSome) || (o.sseq.isSome && o.kind.farOp != 7)
  let gone := ((s.remote p).ops.filter (fun o => o.qpn == q && o.farFrom.isNone && !keep o)).map (·.id)
  let s := gone.foldl (fun s id => s.endOp p id) s
  s.modOps p (fun l => l.map (fun o => if o.qpn == q && o.farFrom.isNone then { o with silent := true } else o))

/-- CLOSE of a far QP, with the last SSEQ it sent (R478). -/
def State.farClose (s : State) (p : Nat) (q : BitVec 24) : State :=
  let F := s.fabric p
  match F.farSent.find? (fun e => e.1.1 == q) with
  | none => s
  | some e =>
    let last := agetD F.farNext q 1 - 1
    let r : FarReq := { op := 8, keystone := false, durability := 0, encipher := false, prio := 0, tenant := e.2.body.tenant, qpn := q, sseq := last, addr := 0,
                        len := 0, imm := 0, a := 0, b := 0, data := [] }
    (s.modFabric p (fun F => { F with farSent := aset F.farSent (q, 0) { opId := 0, sseq := 0, firstAt := fab s, peer := e.2.peer, op := 8, body := r, notServing := none } })).fabricSend
      p e.2.peer 5 (farBytes r)

/-- QP_ERR_CAUSE takes a new entry into ERROR; of two on one core cycle it keeps the one with the higher QPN (R768). -/
def RemoteD.noteError (r : RemoteD) (cause qpn stamp : Nat) : RemoteD :=
  let st := stamp % 2 ^ 32
  if r.errReg / 2 ^ 32 == st && qpn < r.errReg / 256 % 2 ^ 24 then r else { r with errReg := cause % 256 + 256 * qpn + 2 ^ 32 * st }

/-- A QP enters ERROR (R122): stamp, cause, NAK, and its outstanding operations settled. On the lead of a twinned QP an ERROR entry
carries the decision (R409). Only a READY QP enters ERROR (R104): a fatal condition of another's leaves it as it is. -/
def State.qpError (s : State) (p : Nat) (q psn : BitVec 24) (cause : Nat) : State :=
  match s.qp? q with
  | none => s
  | some c =>
    if c.state != .ready then s
    else
      let d := qpnDie q
      let T := s.twin p
      let s := if cause == 0x20 || cause == 0x21 || cause == 0x22 then s.keyEvent d c.tenant else s
      let s := match causeSyndrome cause with
        | some x => s.reply p q s.now psn (.nak x)
        | none => s
      let s := ((s.causeCount d cause).modRd d (fun r => r.noteError cause q.toNat s.now)).withdraw q
      let s := s.modQp q (fun c => { c with state := .error, errCause := cause, errStamp := s.now, cur := none, unacked := 0, oldestUnacked := none })
      let s := (s.settleQp p q).farClose p q
      if c.twinned && T.lead && T.mirrors then
        s.entry p { kind := .error, second := false, cause := cause, epoch := epochNow s, id := q.toNat, psn := psn, page := 0 }
      else s

/-- A follower's own fatal decision on a twinned QP waits for the lead's entry (R409): it is only noted. -/
def State.fatal (s : State) (p : Nat) (c : Qp) (psn : BitVec 24) (cause : Nat) : State :=
  if c.twinned && (s.twin p).follows then (s.causeCount (qpnDie c.qpn) cause).modQp c.qpn (fun c => { c with fatalAt := some psn })
  else s.qpError p c.qpn psn cause

/-- Discards an admitted packet before its acceptance and rewinds its QP to it (R796). -/
def State.rewind (s : State) (p : Nat) (o : Op) : State :=
  let later := ((s.remote p).ops.filter (fun x => x.qpn == o.qpn && x.farFrom.isNone && decide (o.id ≤ x.id) && (x.id == o.id || x.accepted.isNone || !x.writes))).map (·.id)
  let s := later.foldl (fun s id => s.endOp p id) s
  s.modQp o.qpn (fun c => { c with epsn := o.psn, cur := o.beforeCur, msn := o.beforeMsn })

/-- A PSN gap on a twinned QP is fetched from the peer (R405). -/
def State.fetchGap (s : State) (p : Nat) (c : Qp) (upTo : BitVec 24) : State :=
  if c.fetchSince.isSome || !(s.twin p).mirrors then s.modQp c.qpn (fun c => { c with gapSince := match c.gapSince with | some x => some x | none => some s.now })
  else
    (s.mirror p 6 (natBE 4 c.qpn.toNat ++ natBE 4 c.epsn.toNat ++ natBE 4 (upTo - c.epsn).toNat)).modQp c.qpn (fun c =>
      { c with gapSince := match c.gapSince with | some x => some x | none => some s.now, fetchSince := some s.now })

end Sys2Proof.Machine
end

