-- ==== Sys2Proof/Machine/Placement.lean ====
section
/-! DEFINITION. Placement of accepted writes and atomics (R142, R154-R164, R195, R204, R223), service of reads (R74, R157, R277-R282, R307),
and the points that a FLUSH waits for (R165-R175). -/
namespace Sys2Proof.Machine
open Sys2Proof

/-- A byte range cut at page boundaries: brick, page, first byte in the page, byte count. -/
def spans (addr len : Nat) : List (Nat × Nat × Nat × Nat) :=
  if len == 0 then []
  else
    let p0 := addr / 4096
    (List.range ((addr + len - 1) / 4096 - p0 + 1)).map (fun i =>
      let a0 := max addr ((p0 + i) * 4096)
      let a1 := min (addr + len) ((p0 + i + 1) * 4096)
      ((p0 + i) / 512, (p0 + i) % 512, a0 % 4096, a1 - a0))

/-- Line numbers of a page that bytes `off` to `off + n - 1` fall in. -/
def lineRange (off n : Nat) : List Nat := if n == 0 then [] else (List.range ((off + n - 1) / 64 - off / 64 + 1)).map (· + off / 64)

/-- Whether the bytes cover a line whole. -/
def wholeLine (off n k : Nat) : Bool := decide (off ≤ 64 * k) && decide (64 * k + 64 ≤ off + n)

/-- The device address that a virtual address of a window stands for (R109). -/
def Win.addr (w : Win) (va : Nat) : Nat := w.firstBrick * 2097152 + (va - w.baseVa) + w.baseVa % 2097152

/-- Whether two operations touch a common line of this partition; those of far windows touch none here. -/
def Op.overlaps (a b : Op) : Bool :=
  a.farTo.isNone && b.farTo.isNone && a.len != 0 && b.len != 0 && decide (a.addr / 64 ≤ (b.addr + b.len - 1) / 64) && decide (b.addr / 64 ≤ (a.addr + a.len - 1) / 64)

/-- A keystone (R156): an ATOMIC WRITE or a write with immediate data in a KEYSTONE window. -/
def Op.keystone (o : Op) : Bool :=
  o.profile.keystone && (match o.kind with | .atomicWrite => true | .writeImm _ => true | _ => false)

/-- Same stream of requests: one QP, or one far stream. -/
def Op.sameQp (a b : Op) : Bool := a.qpn == b.qpn && a.farFrom == b.farFrom

/-- Whether an operation's QP is a twinned one. -/
def State.twinnedOp (s : State) (o : Op) : Bool :=
  o.farFrom.isNone && (match s.qp? o.qpn with | some c => c.twinned | none => false)

/-- Whether a follower holds a read back: under BOTH_ALL until its READ entries come, under the others until promotion (R403, R408, R425). -/
def State.readHeld (s : State) (p : Nat) (o : Op) : Bool :=
  s.twinnedOp o && (s.twin p).follows

/-- Whether an operation must come after every earlier accepted write of its QP: any write in a STRICT window, and a keystone (R154, R156). -/
def Op.last_ (o : Op) : Bool := o.writes && (!o.profile.keystone || o.keystone)

/-- R154, R156, R157: whether everything that must come before an operation has come. Read data of one QP leaves in PSN order, as the
reliable connected service has it (log 15); a read that a follower holds back has its lines taken before they change (`captureHeld`). -/
def State.inOrder (s : State) (p : Nat) (o : Op) : Bool :=
  (s.remote p).ops.all (fun x =>
    !(x.sameQp o) || !decide (x.id < o.id) ||
    (if x.writes then !((x.accepted.isSome && o.last_) || x.overlaps o || (x.responder && o.kind == .read))
      else if x.kind == .read then !((o.writes && x.overlaps o && !s.readHeld p x) || o.kind == .read)
      else true))

/-- The pages that an operation touches, cut as `spans` cuts. -/
def Op.spans (o : Op) : List (Nat × Nat × Nat × Nat) := Sys2Proof.Machine.spans o.addr o.len

/-- Whether the old line of a merge is FLAGGED and needed: the write does not cover it whole, or another line of the page is FLAGGED too (R204). -/
def State.lineBlocked (s : State) (p b g k : Nat) (whole : Bool) : Bool :=
  let flagged (j : Nat) : Bool := (s.lineOutcome p b g j).1 == .flagged
  flagged k && !(whole && (List.range (64 + (s.store p).pOf b)).all (fun j => j == k || !flagged j))

/-- Whether a page of a resident brick holds a line out of the light code's reach that a merge needs (R204). -/
def State.mergeBlocked (s : State) (p b g off n : Nat) : Bool :=
  (lineRange off n).any (fun k => s.lineBlocked p b g k (wholeLine off n k))

/-- Whether a brick awaits evacuation (R210). -/
def StoreP.evacuating (S : StoreP) (b : Nat) : Bool :=
  match S.resOf b with
  | some x => S.evacuate.contains x
  | none => false

/-- Whether a merge into a page can be placed now (R75, R206, R210, R280). -/
def State.pageReady (s : State) (p b g off n : Nat) : Bool :=
  let S := s.store p
  match S.brick? b with
  | none => false
  | some B =>
    let P := S.page b g
    B.res.isSome && !(S.evacuating b) && !P.held &&
    (P.poison != 0 || !(B.valid.getLsbD g) || (P.filled && !s.mergeBlocked p b g off n))

/-- Asks for what a placement still lacks: a frame, a fill, a rebuild, an evacuation first in the order (R205, R210, R280, R289). -/
def State.prepare (s : State) (p opId b g off n : Nat) : State :=
  let S := s.store p
  match S.brick? b with
  | none => s
  | some B =>
    if S.evacuating b then
      s.modStore p (fun S => { S with evacuate := (S.evacuate.filter (fun e => some e == B.res)) ++ S.evacuate.filter (fun e => some e != B.res) })
    else
      let s := if B.res.isSome then s else (s.frameForWrite p b opId).2
      let S := s.store p
      let P := S.page b g
      if !S.resident b || !(B.valid.getLsbD g) || P.poison != 0 then s
      else if !P.filled then s.startRead p b (g / 4) true (some opId) false
      else if s.mergeBlocked p b g off n then
        s.rebuildDue p b [g]
      else s

/-- The key under which a line written whole is stored: the page's, or the one of its cipher stage where the slot has since been erased
(R573, R583). -/
def State.wholeKey (s : State) (p : Nat) (B : Brick) (g : Nat) (keys : Option (List Byte × List Byte)) : Option (List Byte) :=
  match s.pageKey p B g with
  | some k => some k
  | none => keys.map (fun k => if pageHalf B g == 0 then k.1 else k.2)

/-- A whole line replaces what stood there (R204, R223): a poisoned line is not decoded, and over a FLAGGED one the page's parity is computed anew. -/
def State.putWhole (s : State) (p b g k : Nat) (new : List Byte) : State :=
  if ((s.store p).page b g).poison.getLsbD k then s.putLine p b g k new
  else
    let s' := (s.touchLine p b g k).putLine p b g k new
    if (s.lineOutcome p b g k).1 == .flagged then s'.recomputeParity p b g else s'

/-- Merges bytes into one line of a page (R123, R195, R204, R223, R573, R583). -/
def State.mergeLine (s : State) (p b g off : Nat) (bytes : List Byte) (encipher : Bool) (keys : Option (List Byte × List Byte)) (k : Nat) : State :=
  let S := s.store p
  match S.brick? b with
  | none => s
  | some B =>
    let n := bytes.length
    let whole := wholeLine off n k
    let lo := max off (64 * k)
    let mine := slice bytes (lo - off) (min (off + n) (64 * k + 64) - lo)
    let poisoned := (S.page b g).poison.getLsbD k
    let key := if encipher then (if whole then s.wholeKey p B g keys else s.pageKey p B g) else none
    if (poisoned && !whole) || (encipher && key.isNone) then
      (s.count p "LOST_MERGE").modDram (match S.place b g k with | some pl => pl.die | none => s.homeDie p) (fun D => { D with lostMerge := D.lostMerge + 1 })
    else if whole then s.putWhole p b g k (s.toStored p b g k key mine)
    else
      let old := s.toPlain p b g k key (s.storedLine p b g k)
      (s.touchLine p b g k).putLine p b g k (s.toStored p b g k key (patchBytes old (lo - 64 * k) mine))

/-- A merge into one page that is ready (R75, R148, R291, R295): zero-fill first, then the lines, then the charge, the page's state and the change
map. -/
def State.mergePageBy (s : State) (p b g : Nat) (pr : Profile) (merge : State → State) : State :=
  let lost := ((s.store p).page b g).poison != 0
  let wasDirty := ((s.store p).page b g).dirty
  let s := merge (if (s.store p).valid b g then s else (s.zeroFill p b g pr.encipher).track p 2 (b / 64))
  let s := if lost then (s.release p 1).wholeAgain p b g else (s.settleCharge p b g).setDirty p b g
  let s := (s.modPage p b g (fun P => { P with prio := if wasDirty then min P.prio pr.prio else pr.prio })).touchAge p b
  let s := match (s.store p).brick? b with
    | some B => if B.evicting then s.stopEvict p b else s
    | none => s
  match (s.store p).brick? b with
  | some B => if B.mirror then s.markMap p b else s
  | none => s

/-- Merges bytes into one page that is ready. -/
def State.mergePage (s : State) (p b g off : Nat) (bytes : List Byte) (pr : Profile) (keys : Option (List Byte × List Byte)) : State :=
  s.mergePageBy p b g pr (fun s => (lineRange off bytes.length).foldl (fun s k => s.mergeLine p b g off bytes pr.encipher keys k) s)

/-- The bytes of a page range in stored form. -/
def State.storedBytes (s : State) (p b g off n : Nat) : List Byte := Memory.readN (s.store p).dram (pageAddr b g + off) n

/-- The plaintext of a line in DRAM under a window's encipherment setting. -/
def State.plainLine (s : State) (p b g k : Nat) (encipher : Bool) : List Byte :=
  match (s.store p).brick? b with
  | some B =>
    if !(B.valid.getLsbD g) then fill 64 0
    else s.toPlain p b g k (if encipher then s.pageKey p B g else none) (s.storedLine p b g k)
  | none => fill 64 0

/-- The plaintext of the bytes of a page range in DRAM. -/
def State.plainBytes (s : State) (p b g off n : Nat) (encipher : Bool) : List Byte :=
  slice ((lineRange off n).map (fun k => s.plainLine p b g k encipher)).flatten (off % 64) n

/-- Whether a brick's MIRROR bit is set (R59). -/
def State.mirrored (s : State) (p b : Nat) : Bool := match (s.store p).brick? b with | some B => B.mirror | none => false

/-- MSEQ of a write that no twin will confirm: the partition served alone (R172, R392). -/
def noMseq : Nat := 2 ^ 64

/-- A placed write that awaits the twin's confirmation under a message (R170). -/
def State.awaitTwin (s : State) (p : Nat) (o : Op) (b g off n mseq : Nat) : State :=
  s.modRemote p (fun x => { x with unconfirmed := x.unconfirmed ++
    [{ qpn := o.qpn, psn := o.psn, win := o.win, addr := b * 2097152 + g * 4096 + off, len := n, mseq := mseq, opId := o.id }] })

/-- The mask of a list of lines. -/
def maskOf (ks : List Nat) : BitVec 64 := ks.foldl (fun m k => m ||| BitVec.ofNat 64 (2 ^ k)) (0 : BitVec 64)

/-- What the lead sends of a merge into a mirrored page (R397, R398, R400), the digest's share of it (R414), and the write's wait for the
twin (R170). `placed` is false for an atomic that wrote nothing (log 14): its entry travels, for the answer (R408). -/
def State.mirrorMerge (s : State) (p : Nat) (o : Op) (i b g off n : Nat) (twinned placed : Bool) : State :=
  let T := s.twin p
  if !s.mirrored p b || o.kind == .status then s
  else if !(T.lead && T.mirrors) then (if T.follows || !placed then s else s.awaitTwin p o b g off n noMseq)
  else
    let page := b * 512 + g
    if twinned then
      let e : ApplyEntry := { kind := .inStep, second := i == 1, cause := 0, epoch := epochNow s, id := o.qpn.toNat, psn := o.psn, page := page }
      let bytes := if placed then s.storedBytes p b g off n else []
      ((if placed then s.awaitTwin p o b g off n 0 else s).entry p e).foldDigest p e bytes
    else if !placed then s
    else
      let r := s.replicaNumber p
      let ks := lineRange off n
      let lines := ks.map (fun k => Memory.readN (s.store p).dram (pageAddr b g + 64 * k) 64)
      let e : ApplyEntry := { kind := .replica, second := false, cause := 0, epoch := epochNow s, id := r.1, psn := 0, page := page }
      (((r.2.mirror p 2 (replBytes r.1 b g (maskOf ks) lines)).awaitTwin p o b g off n 0).entry p e).foldDigest p e lines.flatten

/-- Whether a follower must take a write's place in the order from the lead's stream (R399). -/
def State.heldByStream (s : State) (p : Nat) (o : Op) : Bool :=
  (s.twin p).follows && o.kind != .status && o.spans.any (fun x => s.mirrored p x.1)

/-! ### Rings (R160-R164) -/

/-- The window of a ring's area, where its key still opens it with the READ right (R160, R164). -/
def State.ringWin (s : State) (p : Nat) (r : Ring) : Option Win :=
  match aget (s.remote p).windows (bits r.key.toNat 23 6) with
  | some w => if w.valid && w.gen == bits r.key.toNat 31 24 && !w.far then some w else none
  | none => none

/-- Where entry `i` of a ring lies. -/
def ringAddr (r : Ring) (w : Win) (i : Nat) : Nat := w.addr (r.va + i % 2 ^ r.order * 16)

/-- A ring entry's bytes (R161). -/
def ringBytes (r : Ring) (i : Nat) (imm : BitVec 32) (qpn msn : BitVec 24) (len : Nat) : List Byte :=
  natLE 4 imm.toNat ++ natLE 3 qpn.toNat ++ natLE 1 (i / 2 ^ r.order % 255 + 1) ++ natLE 3 msn.toNat ++ natLE 1 0 ++ natLE 4 len

/-- The ring that an operation's immediate data goes to, with the window of its area. -/
def State.ringOf (s : State) (p : Nat) (o : Op) : Option (Ring × Win) :=
  match o.kind with
  | .writeImm _ =>
    match aget (s.remote p).windows o.win with
    | some w =>
      match w.ring with
      | some r => (match s.ringWin p r with | some v => some (r, v) | none => none)
      | none => none
    | none => none
  | _ => none

/-- The profile of a window (R546). -/
def State.winProfile (s : State) (p : Nat) (w : Win) : Profile := s.profile p w.profile

/-- Places a ring entry under an index (R162, R401). -/
def State.placeRing (s : State) (p : Nat) (o : Op) (r : Ring) (v : Win) (i : Nat) : State :=
  match o.kind with
  | .writeImm imm =>
    let a := ringAddr r v i
    let b := a / 2097152
    let g := a / 4096 % 512
    let s := s.mergePage p b g (a % 4096) (ringBytes r i imm o.qpn o.msn o.msgLen) (s.winProfile p v) none
    (s.modRemote p (fun x => { x with windows := aupd x.windows o.win (fun w => { w with ring := w.ring.map (fun r => { r with next := max r.next (i + 1) }) }) })).track
      p 5 (o.win / 128)
  | _ => s

/-- The ring index that an entry's LAP stands for, at the slot where the next one is due. -/
def ringLap (r : Ring) : Nat := r.next / 2 ^ r.order % 255 + 1

/-- Whether entry `next` of a ring stands in a page, written by the twin (R401). -/
def State.ringWritten (s : State) (p b g : Nat) (r : Ring) : Bool :=
  match s.ringWin p r with
  | some v =>
    let a := ringAddr r v r.next
    a / 4096 == b * 512 + g && leNat (s.plainBytes p b g (a % 4096 + 7) 1 (s.winProfile p v).encipher) == ringLap r
  | none => false

/-- The next indices of the rings after lines of a page have come from the twin, at most four entries a line (R163, R401). -/
def State.followRings (s : State) (p b g : Nat) : Nat → State
  | 0 => s
  | n + 1 =>
    let hit := (s.remote p).windows.filter (fun e => match e.2.ring with | some r => s.ringWritten p b g r | none => false)
    if hit.isEmpty then s
    else State.followRings (s.modRemote p (fun x => { x with windows := hit.foldl (fun l e =>
      aupd l e.1 (fun w => { w with ring := w.ring.map (fun r => { r with next := r.next + 1 }) })) x.windows })) p b g n

/-- What follows a keystone with immediate data: its ring entry, or the data discarded and the extra charge released (R163, R164). -/
def State.ringAfter (s : State) (p : Nat) (o : Op) (twinned : Bool) : State :=
  match o.kind with
  | .writeImm _ =>
    match s.ringOf p o with
    | some (r, v) =>
      let s' := s.placeRing p o r v r.next
      let T := s.twin p
      if s.mirrored p (ringAddr r v r.next / 2097152) && T.lead && T.mirrors then
        let e : ApplyEntry := { kind := .ring, second := false, cause := 0, epoch := epochNow s', id := o.qpn.toNat, psn := o.psn, page := r.next }
        let a := ringAddr r v r.next
        if twinned then (s'.entry p e).foldDigest p e (s'.storedBytes p (a / 2097152) (a / 4096 % 512) (a % 4096) 16)
        else s'.mirrorMerge p { o with win := o.win } 0 (a / 2097152) (a / 4096 % 512) (a % 4096) 16 false true
      else s'
    | none =>
      let s := if o.ringDue then s.release p 1 else s
      s.modRd o.die (fun r => { r with immDiscarded := r.immDiscarded + 1 })
  | _ => s

/-! ### Placing -/

/-- Whether the ring entry that a keystone brings has its page ready (R162). -/
def State.ringReady (s : State) (p : Nat) (o : Op) : Bool :=
  match s.ringOf p o with
  | some (r, v) => let a := ringAddr r v r.next; s.pageReady p (a / 2097152) (a / 4096 % 512) (a % 4096) 16
  | none => true

/-- Whether an accepted write can be placed now. -/
def State.placeable (s : State) (p : Nat) (o : Op) : Bool :=
  o.writes && o.accepted.isSome && o.farTo.isNone && s.inOrder p o && o.spans.all (fun x => s.pageReady p x.1 x.2.1 x.2.2.1 x.2.2.2) && s.ringReady p o

/-- Everything that an accepted write still lacks, asked for. -/
def State.prepareOp (s : State) (p : Nat) (o : Op) : State :=
  let s := o.spans.foldl (fun s x => if s.pageReady p x.1 x.2.1 x.2.2.1 x.2.2.2 then s else s.prepare p o.id x.1 x.2.1 x.2.2.1 x.2.2.2) s
  match s.ringOf p o with
  | some (r, v) => let a := ringAddr r v r.next
    if s.ringReady p o then s else s.prepare p o.id (a / 2097152) (a / 4096 % 512) (a % 4096) 16
  | none => s

/-- The value that an atomic leaves, from the original (R797); none where a compare fails, which writes nothing (log 14). -/
def atomicNew (k : OpKind) (orig : BitVec 64) : Option (BitVec 64) :=
  match k with
  | .cas cmp swp => if orig == cmp then some swp else none
  | .fadd add => some (orig + add)
  | _ => none

/-- Whether an operation is an atomic with an answer (R169). -/
def Op.atomic (o : Op) : Bool := match o.kind with | .cas _ _ => true | .fadd _ => true | _ => false

/-- The bytes that an operation places in its span `i`. -/
def Op.spanBytes (o : Op) (off : Nat) (x : Nat × Nat × Nat × Nat) : List Byte := slice o.data off x.2.2.2

/-- A write's pages merged, each ordered first where it is mirrored. -/
def State.mergeSpans (s : State) (p : Nat) (o : Op) (twinned : Bool) : State :=
  ((o.spans.zipIdx).foldl (fun (acc : State × Nat) x =>
    let sp := x.1
    let bytes := o.spanBytes acc.2 sp
    let s := if o.merged.contains (sp.1, sp.2.1) then acc.1
      else (acc.1.mergePage p sp.1 sp.2.1 sp.2.2.1 bytes o.profile o.keys).mirrorMerge p o x.2 sp.1 sp.2.1 sp.2.2.1 sp.2.2.2 twinned true
    (s, acc.2 + sp.2.2.2)) (s, 0)).1

/-- An operation of a far stream or a QP answers with the original value (R169, R473). Its responder resource, and with it the value saved for a duplicate, is held until
as many later atomics of the QP have been answered as it has resources: which later requests reuse a resource is the model's choice (R119, log 192). -/
def State.atomicReply (s : State) (p : Nat) (o : Op) (orig : BitVec 64) : State :=
  match o.farFrom with
  | some dev => s.farAnswer p dev o.kind.farOp 4 o.qpn (o.msgLen) orig 0 []
  | none =>
    let s := s.modQp o.qpn (fun c => { c with saved := (c.saved ++ [(o.psn, orig)]).drop ((c.saved.length + 1) - c.respRes) })
    let s := s.meter p o.die o.tenant 4 1
    if o.silent then s
    else
      let r := s.pace o.qpn 8
      r.2.reply p o.qpn r.1 o.psn (.atomicAck orig)

/-- A request that cannot be carried out: reported to the serving partition (R473), else fatal for its QP, unless the lead's decision governs
(R409). -/
def State.opError (s : State) (p : Nat) (o : Op) (cause : Nat) : State :=
  match o.farFrom with
  | some dev => s.farAnswer p dev o.kind.farOp (if cause == 0x30 then 7 else 6) o.qpn o.msgLen 0 0 []
  | none =>
  if s.twinnedOp o && (s.twin p).follows then s.causeCount (qpnDie o.qpn) cause else s.qpError p o.qpn o.psn cause

/-- Before a write of a QP changes a page, an earlier read of that QP that a follower still holds back takes the page's bytes (R157, R408, R425). -/
def State.captureHeld (s : State) (p : Nat) (o : Op) : State :=
  s.modOps p (fun l => l.map (fun x =>
    if x.kind == .read && x.sameQp o && decide (x.id < o.id) && s.readHeld p x then
      (x.spans.filter (fun y => o.spans.any (fun z => z.1 == y.1 && z.2.1 == y.2.1) && !ahas x.captured (y.1, y.2.1) && ((s.store p).page y.1 y.2.1).poison == 0)).foldl (fun x y =>
        { x with captured := x.captured ++ [((y.1, y.2.1), s.plainBytes p y.1 y.2.1 y.2.2.1 y.2.2.2 x.profile.encipher)] }) x
    else x))

/-- Executes an atomic on a line that is ready (R145, R169, R797). -/
def State.runAtomic (s : State) (p : Nat) (o : Op) : State :=
  match o.spans with
  | [] => s.endOp p o.id
  | sp :: _ =>
    let b := sp.1
    let g := sp.2.1
    let S := s.store p
    let enc := o.profile.encipher
    if s.lineLost p b g (sp.2.2.1 / 64) then
      ((s.endOp p o.id).release p 1).opError p o 0x30
    else if enc && s.keyErased p (S.tenantOf b) then
      ((s.endOp p o.id).release p 1).opError p o 0x25
    else
      let orig : BitVec 64 := BitVec.ofNat 64 (leNat (s.plainBytes p b g sp.2.2.1 8 enc))
      let s := match atomicNew o.kind orig with
        | some v => (s.mergePage p b g sp.2.2.1 (natLE 8 v.toNat) o.profile o.keys).mirrorMerge p o 0 b g sp.2.2.1 8 (s.twinnedOp o) true
        | none => ((s.release p 1).touchAge p b).mirrorMerge p o 0 b g sp.2.2.1 8 (s.twinnedOp o) false
      (s.endOp p o.id).atomicReply p o orig

/-- Places an accepted operation that is ready, whole (R123, R142). -/
def State.placeNow (s : State) (p : Nat) (o : Op) : State :=
  let s := s.captureHeld p o
  if o.atomic then s.runAtomic p o
  else
    let tw := s.twinnedOp o
    let s := ((s.mergeSpans p o tw).ringAfter p o tw).endOp p o.id
    match o.farFrom with
    | some dev => s.farAnswer p dev o.kind.farOp 1 o.qpn o.msgLen 0 0 []
    | none => s

/-! ### A follower's mirrored writes (R398, R399, R401) -/

/-- Lines of a page as a REPLICATE message carries them: the bytes patched into what the page holds, in stored form (R412). -/
def State.replicaLines (s : State) (p b g off : Nat) (bytes : List Byte) (encipher : Bool) : List (Nat × List Byte) :=
  let key := match (s.store p).brick? b with
    | some B => if encipher then s.pageKey p B g else none
    | none => none
  (lineRange off bytes.length).map (fun k =>
    let lo := max off (64 * k)
    let mine := slice bytes (lo - off) (min (off + bytes.length) (64 * k + 64) - lo)
    (k, s.toStored p b g k key (patchBytes (s.plainLine p b g k encipher) (lo - 64 * k) mine)))

/-- Sends a page's share of a write on an ordinary QP to the lead and keeps it until its entry comes (R398, R399). -/
def State.replicate (s : State) (p : Nat) (o : Op) (b g off : Nat) (bytes : List Byte) (encipher : Bool) (ring : Option Nat) (orig : BitVec 64) : State :=
  let ls := s.replicaLines p b g off bytes encipher
  let r := s.replicaNumber p
  let body : ReplBody := { replica := r.1, brick := b, page := g, mask := maskOf (ls.map (·.1)), lines := ls.map (·.2), rekey := none }
  let n := (r.2.twin p).nextMseq
  (((r.2.mirror p 2 (replBytes r.1 b g body.mask body.lines)).modTwin p (fun T =>
    { T with held := T.held ++ [{ opId := o.id, replica := r.1, brick := b, page := g, ring := ring, orig := orig }],
             replicas := T.replicas ++ [(r.1, (0, body))] }))).awaitTwin p o b g off bytes.length n

/-- Whether a follower has a REPLICATE of its own outstanding for a page: the next one waits for it, so that whole lines never overwrite
its bytes (log 37). -/
def TwinP.pageHeld (T : TwinP) (b g : Nat) : Bool := T.held.any (fun h => h.brick == b && h.page == g)

/-- The pages of a follower's ordinary write that are ready and still to be sent, sent (R398). -/
def State.replicateOp (s : State) (p : Nat) (o : Op) : State :=
  (o.spans.foldl (fun (acc : State × Nat) x =>
    let s := acc.1
    let T := s.twin p
    let b := x.1
    let g := x.2.1
    let bytes := o.spanBytes acc.2 x
    let s :=
      if !s.mirrored p b || o.merged.contains (b, g) || T.pageHeld b g || !s.inOrder p o then s
      else if !s.pageReady p b g x.2.2.1 x.2.2.2 then s.prepare p o.id b g x.2.2.1 x.2.2.2
      else if o.atomic then
        if s.lineLost p b g (x.2.2.1 / 64) then ((s.endOp p o.id).release p 1).opError p o 0x30
        else if o.profile.encipher && s.keyErased p ((s.store p).tenantOf b) then ((s.endOp p o.id).release p 1).opError p o 0x25
        else
          let orig : BitVec 64 := BitVec.ofNat 64 (leNat (s.plainBytes p b g x.2.2.1 8 o.profile.encipher))
          match atomicNew o.kind orig with
          | some v => s.replicate p o b g x.2.2.1 (natLE 8 v.toNat) o.profile.encipher none orig
          | none => (((s.release p 1).touchAge p b).endOp p o.id).atomicReply p o orig
      else s.replicate p o b g x.2.2.1 bytes o.profile.encipher none 0
    (s, acc.2 + x.2.2.2)) (s, 0)).1

/-- The page of the ring entry that an operation brings, where it is mirrored: ring, window and index. -/
def State.mirroredRing (s : State) (p : Nat) (o : Op) : Option (Ring × Win) :=
  match s.ringOf p o with
  | some (r, v) => if s.mirrored p (ringAddr r v r.next / 2097152) then some (r, v) else none
  | none => none

/-- A follower's write whose mirrored pages have all been placed by the stream: its ring entry, its other pages, and its end (R399, R401). -/
def State.finishHeld (s : State) (p id : Nat) : State :=
  match s.op? p id with
  | none => s
  | some o =>
    if o.atomic || !(o.spans.all (fun x => !s.mirrored p x.1 || o.merged.contains (x.1, x.2.1))) then s
    else
      let rest := o.spans.filter (fun x => !s.mirrored p x.1)
      let ready := rest.all (fun x => s.pageReady p x.1 x.2.1 x.2.2.1 x.2.2.2) && (rest.isEmpty || s.inOrder p o)
      let finish (s : State) : State :=
        let s := (s.captureHeld p o).mergeSpans p o (s.twinnedOp o)
        let s := if o.ring.isSome then s else s.ringAfter p o (s.twinnedOp o)
        let s := s.endOp p o.id
        match o.farFrom with
        | some dev => s.farAnswer p dev o.kind.farOp 1 o.qpn o.msgLen 0 0 []
        | none => s
      if !ready then s.prepareOp p o
      else
        match s.mirroredRing p o with
        | some (r, v) =>
          if o.ring.isSome then finish s
          else if s.twinnedOp o then s
          else
            let a := ringAddr r v r.next
            let b := a / 2097152
            let g := a / 4096 % 512
            match o.kind with
            | .writeImm imm =>
              if (s.twin p).pageHeld b g || (s.twin p).held.any (fun h => h.opId == o.id) then s
              else if s.ringReady p o then
                (s.replicate p o b g (a % 4096) (ringBytes r r.next imm o.qpn o.msn o.msgLen) (s.winProfile p v).encipher (some r.next) 0).modRemote p
                  (fun x => { x with windows := aupd x.windows o.win (fun w => { w with ring := w.ring.map (fun r => { r with next := r.next + 1 }) }) })
              else s.prepareOp p o
            | _ => finish s
        | none => if s.ringReady p o then finish s else s.prepareOp p o

/-- Whether an operation is a status record whose window has been revoked since its charge: it is discarded at the decision on its placement (R136). -/
def State.statusGone (s : State) (p : Nat) (o : Op) : Bool :=
  o.kind == .status && (match aget (s.remote p).windows o.win with | some w => !w.valid || w.gen != o.gen | none => true)

/-- An attempt to place an operation: placed, or what it lacks asked for. A follower's mirrored writes wait for their entries (R399). -/
def State.tryPlace (s : State) (p id : Nat) : State :=
  match s.op? p id with
  | none => s
  | some o =>
    if !o.writes || o.accepted.isNone || o.farTo.isSome then s
    else if s.statusGone p o then ((s.endOp p o.id).release p 1).badStatus p
    else if s.heldByStream p o then
      (if s.twinnedOp o then (s.prepareOp p o).finishHeld p id else (s.replicateOp p o).finishHeld p id)
    else if s.placeable p o then s.placeNow p o
    else s.prepareOp p o

/-! ### Reads (R145, R277-R288) -/

/-- How one page of a read stands. -/
inductive PageRead where
  | zero | ram | flash | lost | wait
  deriving DecidableEq, Repr

/-- How a page range of a read stands now. A page on the lost-page list is lost even where its VALID bit is clear: R74 would give zeros, R222 PAGE_LOST, and the list is
tested first by the model's choice (log 183). -/
def State.pageRead (s : State) (p : Nat) (o : Op) (b g off n : Nat) : PageRead :=
  let S := s.store p
  let P := S.page b g
  if ahas o.captured (b, g) then .ram
  else if s.listed p b g then .lost
  else if !S.valid b g then .zero
  else if S.resident b && P.filled then
    if P.held then .wait
    else if (lineRange off n).any (fun k => (s.lineOutcome p b g k).1 == .poison) then .lost
    else if (lineRange off n).any (fun k => (s.lineOutcome p b g k).1 == .flagged) then .wait
    else .ram
  else if o.direct.contains (b, g / 4) then .flash
  else .wait

/-- What a read still lacks, asked for: a rebuild, a demand fill, or a flash-direct read (R205, R277, R288, R307). -/
def State.askRead (s : State) (p : Nat) (o : Op) (b g : Nat) : State :=
  let S := s.store p
  match S.brick? b with
  | none => s
  | some B =>
    if B.res.isSome && (S.page b g).filled then
      s.modStore p (fun S => if S.rebuilds.contains (b, g) then S else { S with rebuilds := S.rebuilds ++ [(b, g)] })
    else
      match s.directAt p o.die b g with
      | some h =>
        if (S.flash.reads.any (fun r => r.brick == b && r.unit == g / 4)) then s.startRead p b (g / 4) false (some o.id) false
        else (s.startRead p b (g / 4) false (some o.id) false).modStore p (fun S =>
          { S with hampers := aupd S.hampers h (fun x => { x with direct := x.direct + 1 }) })
      | none =>
        if B.placement == 2 then s.startRead p b (g / 4) false (some o.id) false
        else if B.res.isSome then s.startRead p b (g / 4) true (some o.id) false
        else
          match s.frameForRead p b with
          | (true, s) => s.startRead p b (g / 4) true (some o.id) false
          | (false, s) => s.startRead p b (g / 4) false (some o.id) false

/-- The plaintext of a page range that has come. -/
def State.readBytes (s : State) (p : Nat) (o : Op) (b g off n : Nat) : List Byte :=
  match s.pageRead p o b g off n with
  | .ram => (match aget o.captured (b, g) with | some x => x | none => s.plainBytes p b g off n o.profile.encipher)
  | .flash =>
    match (s.store p).brick? b with
    | some B =>
      let m := (s.store p).flash.pageData b g
      let key := if o.profile.encipher then s.pageKey p B g else none
      slice ((lineRange off n).map (fun k => s.toPlain p b g k key (Memory.readN m (64 * k) 64))).flatten (off % 64) n
    | none => fill n 0
  | _ => fill n 0

/-- Sends read data in packets of the path MTU, paced (R140, R145); the first takes the request's PSN. -/
def State.sendRead (s : State) (p : Nat) (o : Op) (mtu : Nat) (bytes : List Byte) : State :=
  (List.range (max 1 (ceilDiv bytes.length mtu))).foldl (fun s i =>
    let part := slice bytes (mtu * i) mtu
    let r := s.pace o.qpn part.length
    (r.2.reply p o.qpn r.1 (o.psn + BitVec.ofNat 24 i) (.readData part)).meter p o.die o.tenant 1 part.length) s

/-- The spans of a read up to the first lost one, and whether one is lost. -/
def State.readUpTo (s : State) (p : Nat) (o : Op) : List (Nat × Nat × Nat × Nat) :=
  o.spans.takeWhile (fun x => s.pageRead p o x.1 x.2.1 x.2.2.1 x.2.2.2 != .lost)

/-- What every read does to what it reads: AGE to 0 (R291), corrections noted (R186), a READ entry of the lead under BOTH_ALL (R408). -/
def State.noteRead (s : State) (p : Nat) (o : Op) : State :=
  let tw := s.twinnedOp o && (match s.qp? o.qpn with | some c => c.policy == 0 | none => false) && (s.twin p).lead && (s.twin p).mirrors
  (o.spans.zipIdx).foldl (fun s x =>
    let b := x.1.1
    let g := x.1.2.1
    let s := if (s.store p).resident b then s.touchAge p b else s
    let s := if s.pageRead p o b g x.1.2.2.1 x.1.2.2.2 == .ram && !ahas o.captured (b, g) then (lineRange x.1.2.2.1 x.1.2.2.2).foldl (fun s k => s.touchLine p b g k) s else s
    let mirrored := match (s.store p).brick? b with | some B => B.mirror | none => false
    if tw && mirrored then
      s.entry p { kind := .read, second := x.2 == 1, cause := 0, epoch := epochNow s, id := o.qpn.toNat, psn := o.psn, page := b * 512 + g }
    else s) s

/-- Far read data goes back in messages of at most 65,504 bytes (R473). -/
def State.farData (s : State) (p dev : Nat) (o : Op) (bytes : List Byte) : State :=
  (List.range (max 1 (ceilDiv bytes.length 65504))).foldl (fun s i =>
    s.farAnswer p dev 3 3 o.qpn o.msgLen 0 (65504 * i) (slice bytes (65504 * i) 65504)) s

/-- The response of a far read, once all its data has come and no earlier request of the QP has still to answer (R473, R476). -/
def State.farReadEnds (s : State) (p : Nat) (o : Op) : State :=
  if (o.captured.map (fun x => x.2.length)).sum < o.len || !s.inOrder p o then s
  else
    let bytes := o.captured.foldl (fun b x => patchBytes b x.1.1 x.2) (fill o.len 0)
    let mtu := match s.qp? o.qpn with | some c => mtuBytes c.pmtu | none => 4096
    (s.endOp p o.id).sendRead p o mtu bytes

/-- Serves a read if everything it needs has come, else asks for it (R74, R87, R157, R222, R577). -/
def State.tryRead (s : State) (p : Nat) (o : Op) : State :=
  if o.farTo.isSome then s.farReadEnds p o
  else if s.readHeld p o then s
  else if !s.inOrder p o then s
  else if o.profile.encipher && o.len != 0 && s.keyErased p o.tenant then
    match o.farFrom with
    | some dev => (s.endOp p o.id).farAnswer p dev 3 6 o.qpn o.msgLen 0 0 []
    | none => (s.endOp p o.id).opError p o 0x25
  else
    let upTo := s.readUpTo p o
    let waits := upTo.filter (fun x => s.pageRead p o x.1 x.2.1 x.2.2.1 x.2.2.2 == .wait)
    if waits.isEmpty then
      let bytes := (upTo.map (fun x => s.readBytes p o x.1 x.2.1 x.2.2.1 x.2.2.2)).flatten
      let lost := upTo.length != o.spans.length
      let s := (s.noteRead p o).endOp p o.id
      match o.farFrom with
      | some dev => if lost then s.farAnswer p dev 3 7 o.qpn o.msgLen 0 0 [] else s.farData p dev o bytes
      | none =>
        let mtu := match s.qp? o.qpn with | some c => mtuBytes c.pmtu | none => 4096
        if lost then
          (if bytes.length < mtu then s else s.sendRead p o mtu (bytes.take (bytes.length / mtu * mtu))).qpError p o.qpn o.psn 0x30
        else s.sendRead p o mtu bytes
    else
      let s := s.modOp p o.id (fun o => { o with stalledAt := match o.stalledAt with | some c => some c | none => some s.now })
      waits.foldl (fun s x => s.askRead p o x.1 x.2.1) s

/-! ### FLUSH (R165-R175) -/

/-- Whether a write falls in a FLUSH's scope (R165): earlier on the QP, in the window or in the range. -/
def inScope (f : Op) (level win addr len : Nat) : Bool :=
  win == f.win && (level == 0 || (decide (addr < f.addr + f.len) && decide (f.addr < addr + len)))

/-- Whether a write came before a FLUSH: before its decision, or, for a repeated FLUSH, before its PSN (R119, R165). -/
def earlier (f : Op) (id : Nat) (psn : BitVec 24) : Bool := if f.duplicate then decide (psnDiff psn f.psn < 0) else decide (id < f.id)

/-- The scope of a FLUSH, fixed when it is decided (R165, R167): the writes accepted before it on its QP that fall in its window or range, and have a point still before
them. -/
def State.scopeOf (s : State) (p : Nat) (f : Op) (level : Nat) : List Nat :=
  ((((s.remote p).ops.filter (fun x => x.sameQp f && x.writes && x.accepted.isSome && earlier f x.id x.psn && inScope f level x.win x.addr x.len)).map (·.id)) ++
    (((s.remote p).unconfirmed.filter (fun u => u.qpn == f.qpn && earlier f u.opId u.psn && inScope f level u.win u.addr u.len)).map (·.opId))).eraseDups

/-- A FLUSH with its scope; other operations have none. -/
def State.withScope (s : State) (p : Nat) (f : Op) : Op :=
  match f.kind with
  | .flush level _ _ => { f with scope := s.scopeOf p f level }
  | _ => f

/-- Whether a write in a FLUSH's scope is not yet placed. -/
def State.unplaced (s : State) (p : Nat) (f : Op) : Bool := (s.remote p).ops.any (fun x => f.scope.contains x.id)

/-- Whether the twin has yet to confirm a write in scope (R170). -/
def State.unconfirmedIn (s : State) (p : Nat) (f : Op) : Bool := (s.remote p).unconfirmed.any (fun u => f.scope.contains u.opId)

/-- Whether the partition treats TWIN levels as in SOLO (R170, R392). -/
def State.alone (s : State) (p : Nat) : Bool := s.mode p == .solo || !(s.twin p).paired

/-- The state of a FLUSH's point: not yet, reached, or refused (R165, R170-R175). -/
inductive FlushPoint where
  | notYet | reached | atLocal | refused
  deriving DecidableEq, Repr

def State.flushPoint (s : State) (p : Nat) (f : Op) : FlushPoint :=
  match f.kind with
  | .flush _ _ persist =>
    if s.unplaced p f then .notYet
    else if !persist || f.profile.durability == 0 then .reached
    else if !s.unconfirmedIn p f then .reached
    else if s.alone p then (if f.profile.durability == 1 then .atLocal else .refused)
    else .notYet
  | _ => .notYet

/-- DEGRADED_FLUSH: counted for the tenant, logged at most once a second per partition (R172). -/
def State.degraded (s : State) (p die tenant : Nat) : State :=
  let s := (s.modRemote p (fun r => { r with tenants := aupd r.tenants tenant (fun T => { T with degradedFlush := T.degradedFlush + 1 }),
                                             degradedSince := r.degradedSince + 1 })).meter p die tenant 14 1
  let r := s.remote p
  let okNow := match r.degradedLogAt with | some x => decide (x + 1000000000 ≤ fab s) | none => true
  if okNow then
    (s.modRemote p (fun r => { r with degradedLogAt := some (fab s), degradedSince := 0 })).log .degradedFlush (srcPart p) (subject none 8 0 0 tenant [r.degradedSince])
  else s

/-- Ends a FLUSH whose point is decided: the response, the degraded response, or TWIN_ABSENT (R165, R172-R174). -/
def State.endFlush (s : State) (p : Nat) (f : Op) (pt : FlushPoint) : State :=
  let answer (s : State) : State :=
    match f.farFrom with
    | some dev => s.farAnswer p dev 7 (match f.kind with | .flush _ _ true => 2 | _ => 1) f.qpn f.msgLen 0 0 []
    | none =>
      match s.qp? f.qpn with
      | some _ => (s.reply p f.qpn s.now f.psn (.ack f.msn)).meter p f.die f.tenant 5 1
      | none => s
  match pt with
  | .notYet => s
  | .reached => answer (s.endOp p f.id)
  | .atLocal => answer ((s.endOp p f.id).degraded p f.die f.tenant)
  | .refused =>
    match f.farFrom with
    | some dev => (s.endOp p f.id).farAnswer p dev 7 9 f.qpn f.msgLen 0 0 []
    | none => (s.endOp p f.id).qpError p f.qpn f.psn 0x33

/-- Every read of a partition that can now be served is served, oldest first: after a fill, a rebuild or a placement. -/
def State.serveReads (s : State) (p : Nat) : State :=
  ((s.remote p).ops.filter (fun o => o.kind == .read)).foldl (fun s o =>
    match s.op? p o.id with
    | some o => s.tryRead p o
    | none => s) s

end Sys2Proof.Machine
end

