-- ==== Sys2Proof/Machine/Pipeline.lean ====
section
/-! DEFINITION. The check pipeline (R114-R117), duplicates (R119), rate ceilings (R137, R138), admission, and acceptance under the dirty
budget (R143-R153). -/
namespace Sys2Proof.Machine
open Sys2Proof

/-! ### Requests -/

/-- A request packet with its extended headers. For FLUSH, `cmp` holds the selectivity level and `swp` the placement type bits. -/
abbrev Req := Kept

def isSend (op : BitVec 8) : Bool := op == 0 || op == 1 || op == 2 || op == 4
def isWrite (op : BitVec 8) : Bool := op == 6 || op == 7 || op == 8 || op == 0x0A || op == 9 || op == 0x0B
def isFirst (op : BitVec 8) : Bool := op == 0 || op == 6
def isMiddle (op : BitVec 8) : Bool := op == 1 || op == 7
def isLast (op : BitVec 8) : Bool := op == 2 || op == 8 || op == 9
def isOnly (op : BitVec 8) : Bool := op == 4 || op == 0x0A || op == 0x0B
/-- The opcodes of R84. -/
def opcodeOk (op : BitVec 8) : Bool :=
  isSend op || isWrite op || op == 0x0C || op == 0x13 || op == 0x14 || op == 0x1C || op == 0x1D
/-- Requests that take a responder resource. -/
def isResponder (op : BitVec 8) : Bool := op == 0x0C || op == 0x13 || op == 0x14 || op == 0x1C
/-- Write packets of R142: RDMA WRITE, the atomics, ATOMIC WRITE. -/
def isWritePkt (op : BitVec 8) : Bool := isWrite op || op == 0x13 || op == 0x14 || op == 0x1D
/-- 8-byte operations (R84, R116). -/
def is8 (op : BitVec 8) : Bool := op == 0x13 || op == 0x14 || op == 0x1D
/-- Packets that carry a RETH or an atomic header, and so a key (R115). -/
def needsKey (op : BitVec 8) : Bool := op == 6 || op == 0x0A || op == 0x0B || op == 0x0C || is8 op || op == 0x1C
/-- Packets that continue a write message (R115). -/
def continues (op : BitVec 8) : Bool := op == 7 || op == 8 || op == 9
/-- The right that a request needs (R84), as a bit of RIGHTS (R107). -/
def rightBit (op : BitVec 8) : Nat :=
  if isWrite op then 1 else if op == 0x0C then 0 else if op == 0x13 || op == 0x14 then 2 else if op == 0x1D then 3 else 4

/-- The length that the bounds check takes (R115): the RETH's, or 8. -/
def reqLen (r : Req) : Nat := if is8 r.pkt.op then 8 else r.pkt.len

/-- The check field of a key (R110). -/
def check6 (ka kb gen idx : Nat) : Nat := (((gen * 2 ^ 18 + idx) ^^^ ka) * kb) % 2 ^ 64 / 2 ^ 58

/-- The key of a window: [31:24] generation, [23:6] index, [5:0] check. -/
def mkKey (ck : Nat × Nat) (gen idx : Nat) : BitVec 32 := BitVec.ofNat 32 (gen * 2 ^ 24 + idx * 64 + check6 ck.1 ck.2 gen idx)

/-- The key checks of R116 up to the tenant, as service messages and rings share them (R136): a cause, or the window. A REVOKE_WINDOW of the
key on the same cycle is seen first (R130). -/
def State.keyCheck (s : State) (p tenant : Nat) (key : BitVec 32) : Nat ⊕ (Nat × Win) :=
  let gen := bits key.toNat 31 24
  let idx := bits key.toNat 23 6
  let ck := (s.remote p).checkKey.getD (0, 1)
  if check6 ck.1 ck.2 gen idx != bits key.toNat 5 0 then .inl 0x20
  else
    match aget (s.remote p).windows idx with
    | none => .inl 0x21
    | some w =>
      if !w.valid || w.gen != gen || s.sooner (.revoke p key.toNat) then .inl 0x21
      else if w.tenant != tenant then .inl 0x22
      else .inr (idx, w)

/-- The checks of cycles 2 to 4 for a packet with a key (R116, R404): a cause, or the window. -/
def State.windowCheck (s : State) (p : Nat) (c : Qp) (r : Req) : Nat ⊕ (Nat × Win) :=
  match s.keyCheck p c.tenant r.pkt.rkey with
  | .inl e => .inl e
  | .inr (idx, w) =>
    if !w.rights.getLsbD (rightBit r.pkt.op) then .inl 0x23
    else if c.twinned && (s.winProfile p w).durability == 0 then .inl 0x26
    else
      let va := r.pkt.va.toNat
      if va < w.baseVa || w.length < va - w.baseVa + (reqLen r) then .inl 0x24
      else if is8 r.pkt.op && va % 8 != 0 then .inl 0x12
      else .inr (idx, w)

/-- Sequence of messages and payload lengths (R120 SEQUENCE): First and Only start a message, Middle and Last continue one of their kind,
and each carries what the path MTU and the RETH leave. -/
def sequenceOk (c : Qp) (r : Req) : Bool :=
  let op := r.pkt.op
  let n := r.pkt.payload.length
  let mtu := mtuBytes c.pmtu
  if !opcodeOk op then true
  else
    match c.cur with
    | some m =>
      (isMiddle op || isLast op) && isSend op == m.send &&
      (if isMiddle op then n == mtu && (m.send || decide (mtu < m.left)) else decide (0 < n) && decide (n ≤ mtu) && (m.send || n == m.left))
    | none =>
      if isMiddle op || isLast op then false
      else if isFirst op then n == mtu && (isSend op || decide (mtu < r.pkt.len))
      else if isSend op then decide (n ≤ mtu)
      else if isOnly op then n == r.pkt.len && decide (n ≤ mtu)
      else if op == 0x1D then n == 8
      else n == 0

/-- Requests of a QP that hold a responder resource (R86, R165). A follower counts none on a twinned QP: the lead's decision governs (R409). -/
def State.outstanding (s : State) (p : Nat) (q : BitVec 24) : Nat :=
  if (match s.qp? q with | some c => c.twinned | none => false) && (s.twin p).follows then 0
  else ((s.remote p).ops.filter (fun o => o.qpn == q && o.farFrom.isNone && o.responder)).length

/-- The envelope of a service message as far as its first packet shows it (R132): MAGIC, VERSION and LENGTH (log 16). -/
def envelopeOk (bytes : List Byte) : Bool :=
  beAt bytes 0 2 == 0x4853 && beAt bytes 2 1 == 1 && decide (32 ≤ beAt bytes 4 2) && decide (beAt bytes 4 2 ≤ 8192)

/-- OPCODE errors of R120: an opcode outside R84, a SEND outside the host service format, a FLUSH that R165 or R166 forbid; and a WRITE or READ message longer than R84
supports, to which the spec gives no cause (log 194). -/
def opcodeFine (c : Qp) (r : Req) : Bool :=
  let op := r.pkt.op
  if !opcodeOk op then false
  else if op == 0x1C then decide (r.cmp.toNat ≤ 1) && r.swp.toNat % 4 != 0
  else if needsKey op && (isWrite op || op == 0x0C) then decide (r.pkt.len ≤ 2 ^ 31)
  else if isSend op then
    let all := (match c.cur with | some m => m.gathered | none => []) ++ r.pkt.payload
    decide (all.length ≤ 8192) && (if c.cur.isNone then envelopeOk all else true) &&
    (if isLast op || isOnly op then all.length == beAt all 4 2 else true)
  else true

/-! ### Rate ceilings (R137, R138) -/

/-- Ports of a partition, and those of one die. -/
def State.portsOf (s : State) (p : Nat) : List Nat := (List.range 16).filter (fun i => s.partHasPort p i)
def State.diePorts (s : State) (p d : Nat) : Nat := ((s.portsOf p).filter (fun i => i / 2 == d)).length

/-- Tokens are counted in units of 10^-9 token over the partition's port count, so that refill is exact. -/
def State.tokenUnit (s : State) (p : Nat) : Int := Int.ofNat (1000000000 * max 1 (s.portsOf p).length)

/-- The bucket pair of a tenant on a die after its refill; a new one is full (log 17). -/
def State.bucket (s : State) (p d tenant : Nat) (c : TClass) : Bucket :=
  let u := s.tokenUnit p
  let capB := Int.ofNat c.burstBytes * u
  let capR := Int.ofNat c.burstReqs * u
  match aget (s.rd d).buckets tenant with
  | none => { bytes := capB, requests := capR, at_ := fab s }
  | some b =>
    let dt := fab s - b.at_
    { bytes := min capB (b.bytes + Int.ofNat (c.byteRate * s.diePorts p d * dt)),
      requests := min capR (b.requests + Int.ofNat (c.reqRate * s.diePorts p d * dt)), at_ := fab s }

def State.tenantClass (s : State) (p tenant : Nat) : Option TClass :=
  match aget (s.remote p).tenants tenant with
  | some T => s.tclass? p T.cls
  | none => none

/-- Whether a tenant's debt on a die has reached its class burst (R138). -/
def State.overCeiling (s : State) (p d tenant : Nat) : Bool :=
  match s.tenantClass p tenant with
  | none => false
  | some c =>
    let b := s.bucket p d tenant c
    let u := s.tokenUnit p
    (c.byteRate != 0 && decide (b.bytes ≤ -(Int.ofNat c.burstBytes * u))) || (c.reqRate != 0 && decide (b.requests ≤ -(Int.ofNat c.burstReqs * u)))

/-- Whether a bucket of a tenant on a die stands below zero (R138). -/
def State.inDebt (s : State) (p d tenant : Nat) : Bool :=
  match s.tenantClass p tenant with
  | none => false
  | some c =>
    let b := s.bucket p d tenant c
    (c.byteRate != 0 && decide (b.bytes < 0)) || (c.reqRate != 0 && decide (b.requests < 0))

/-- An admitted request takes its tokens; below zero the tenant's QP gets a CNP (R137, R138). -/
def State.takeTokens (s : State) (p d tenant : Nat) (q : BitVec 24) (n : Nat) : State :=
  match s.tenantClass p tenant with
  | none => s
  | some c =>
    let b := s.bucket p d tenant c
    let u := s.tokenUnit p
    let b := { b with bytes := if c.byteRate == 0 then b.bytes else b.bytes - Int.ofNat n * u,
                      requests := if c.reqRate == 0 then b.requests else b.requests - u }
    let s := s.modRd d (fun r => { r with buckets := aset r.buckets tenant b })
    if (c.byteRate != 0 && decide (b.bytes < 0)) || (c.reqRate != 0 && decide (b.requests < 0)) then s.sendCnp q else s

/-! ### Acceptance (R143-R153) -/

/-- Pages that a write packet is charged (R147). -/
def State.chargeOf (s : State) (p : Nat) (o : Op) : Nat :=
  if !o.writes then 0 else o.spans.length + (if (s.ringOf p o).isSome then 1 else 0)

/-- Write packets of a die that wait for the budget, oldest first (R149, R150). -/
def State.waiting (s : State) (p d : Nat) : List Op :=
  (s.remote p).ops.filter (fun o => o.writes && o.accepted.isNone && o.farTo.isNone && o.die == d)

/-- Pages of the budget home that are spoken for ahead of the dies' packets: by status records and by CLEAR_LOST commands that wait (R147, R225). -/
def State.homeDue (s : State) (p : Nat) : Nat :=
  (s.remote p).statusRecs.length + (s.running.filter (fun r => match r.op with | .clearLost q _ _ _ => q == p | _ => false)).length

/-- A die draws from the budget home: a block of 1,024, or whatever the home holds for the dies (R146). -/
def State.draw1024 (s : State) (p d : Nat) : State :=
  let free := (s.remote p).budget.homeFree
  let n := min (free - s.homeDue p) 1024
  (s.modRemote p (fun r => { r with budget := { r.budget with homeFree := free - n } })).modRd d (fun r => { r with credit := r.credit + n })

/-- Credit above 4,096 pages goes back (R146). -/
def State.trimCredit (s : State) (p d : Nat) : State :=
  let c := (s.rd d).credit
  if c ≤ 4096 then s
  else (s.modRd d (fun r => { r with credit := 4096 })).modRemote p (fun r => { r with budget := { r.budget with homeFree := r.budget.homeFree + (c - 4096) } })

/-- Whether a die can cover `n` pages, drawing if it must; false while writes are frozen (R358). -/
def State.cover (s : State) (p d n : Nat) : Bool × State :=
  if (s.remote p).budget.data == 0 then (false, s)
  else
    let s' := if (s.rd d).credit < n then s.draw1024 p d else s
    (decide (n ≤ (s'.rd d).credit), s')

/-- Marks a packet accepted: charged, counted, acknowledged, its pages asked for (R118, R142, R496). -/
def State.accept (s : State) (p : Nat) (o : Op) (n : Nat) : State :=
  let s := (s.modRd o.die (fun r => { r with credit := r.credit - n })).modRemote p (fun r => { r with budget := { r.budget with charged := r.budget.charged + n } })
  let o' := { o with accepted := some s.now, charged := o.spans.map (fun x => (x.1, x.2.1)), ringDue := (s.ringOf p o).isSome }
  let s := s.modOp p o.id (fun _ => o')
  let s := if o.atomic || o.mirrored then s else (s.meter p o.die o.tenant 0 o.data.length).meter p o.die o.tenant 2 1
  let s := match o.farFrom with
    | some dev => s.farAnswer p dev o.kind.farOp 0 o.qpn o.msgLen 0 0 []
    | none => if o.atomic || o.mirrored then s else s.scheduleAck p o.qpn o.psn o.last
  let T := s.twin p
  let s := if T.freeRunning && o'.spans.any (fun x => s.mirrored p x.1) then s.modTwin p (fun T => { T with splitWrites := T.splitWrites + 1 }) else s
  let s := s.prepareOp p o'
  if s.heldByStream p o' && !s.twinnedOp o' then s.tryPlace p o.id else s

/-- Tracked pages that a packet's placement would be the first to change: the brick-map page of a brick that it zero-fills first, and the page of
its ring's control block (R373). -/
def State.trackedNeeds (s : State) (p : Nat) (o : Op) : List (Nat × Nat) :=
  let S := s.store p
  let bricks := (o.spans.filter (fun x => match S.brick? x.1 with | some B => B.valid == 0 | none => false)).map (fun x => (3, x.1 / 512))
  let rings := if (s.ringOf p o).isSome then [(5, o.win / 128)] else []
  (bricks ++ rings).eraseDups.filter (fun e => !S.ckpt.dirty.contains e)

/-- Whether the tracked allowance has room for them (R373). -/
def State.trackedRoom (s : State) (p : Nat) (o : Op) : Bool :=
  let n := (s.trackedNeeds p o).length
  n == 0 || decide ((s.store p).trackedDirty.length + n ≤ s.trackedAllowance p)

/-- Whether another die's oldest waiting packet, itself short of credit, comes before this die's (R150, R51). -/
def State.olderElsewhere (s : State) (p d : Nat) (o : Op) : Bool :=
  (s.partDies p).any (fun e => e != d && (match s.waiting p e with
    | x :: _ => decide ((s.rd e).credit < s.chargeOf p x) && (decide (x.decided < o.decided) || (x.decided == o.decided && decide (e < d)))
    | [] => false))

/-- Whether an earlier write of an operation's QP has been forwarded or is to be, and is neither accepted nor discarded (R143, R176). -/
def State.farAhead (s : State) (p : Nat) (o : Op) : Bool :=
  (s.remote p).ops.any (fun x => x.sameQp o && decide (x.id < o.id) && x.writes && x.farTo.isSome && x.accepted.isNone)

/-- A write of a TWIN_OR_FAIL window refused at its acceptance in SOLO (R173). -/
def State.refuseSolo (s : State) (p : Nat) (o : Op) : State :=
  match o.farFrom with
  | some dev => (s.endOp p o.id).farAnswer p dev o.kind.farOp 9 o.qpn o.msgLen 0 0 []
  | none => (s.endOp p o.id).qpError p o.qpn o.psn 0x33

/-- Accepts a waiting packet of a die if it may be: none before it on its die or its QP, credit, and room for the tracked pages (R143, R150, R373). Pages of the home are
its to draw only where no other die's packet has waited longer. -/
def State.acceptHead (s : State) (p d : Nat) : State :=
  match s.waiting p d with
  | [] => s
  | o :: _ =>
    if s.farAhead p o || !s.trackedRoom p o then s
    else if o.profile.durability == 2 && s.alone p && !o.mirrored then s.refuseSolo p o
    else
    let n := s.chargeOf p o
    if (s.rd d).credit < n && s.olderElsewhere p d o then s
    else
    match s.cover p d n with
    | (true, s) => s.accept p o n
    | (false, s) => s

/-- Accepts a new packet at once, or leaves it waiting (the pseudocode of R152). -/
def State.acceptNew (s : State) (p : Nat) (o : Op) : State :=
  match s.waiting p o.die with
  | x :: _ => if x.id == o.id then s.acceptHead p o.die else s
  | [] => s

/-! ### Admission -/

/-- Operations of a die in the operation table. -/
def State.opsOn (s : State) (d : Nat) : Nat :=
  (s.partIds.map (fun p => ((s.remote p).ops.filter (fun o => o.die == d)).length)).sum

/-- R116 cycle 5, R149, R474: whether a slot is to be had. -/
def State.slotFree (s : State) (p : Nat) (c : Qp) (r : Req) (far : Bool) : Bool :=
  let d := qpnDie c.qpn
  decide (s.opsOn d < 256 * s.field 3 0xFF d 2 2 0) &&
  (far || !isWritePkt r.pkt.op || decide ((s.waiting p d).length < 2048)) &&
  (!far || decide ((s.fabric p).unanswered c.qpn + ((s.remote p).ops.filter (fun o => o.qpn == c.qpn && o.farTo.isSome && o.sseq.isNone)).length < 256))

/-- What an operation does, from its packet. -/
def opKind (r : Req) : OpKind :=
  let op := r.pkt.op
  if op == 9 || op == 0x0B then .writeImm (r.imm.getD 0)
  else if isWrite op then .write
  else if op == 0x13 then .cas r.cmp r.swp
  else if op == 0x14 then .fadd r.cmp
  else if op == 0x1D then .atomicWrite
  else if op == 0x1C then .flush r.cmp.toNat (r.swp.getLsbD 0) (r.swp.getLsbD 1)
  else .read

/-- The QP after a packet of a message has been admitted: EPSN, MSN and message position (R115, R116). A READ takes as many PSNs as its
response has packets. -/
def advance (c : Qp) (r : Req) (win gen : Nat) : Qp :=
  let op := r.pkt.op
  let n := r.pkt.payload.length
  let step := if op == 0x0C then max 1 (ceilDiv r.pkt.len (mtuBytes c.pmtu)) else 1
  let ends := isLast op || isOnly op || !(isSend op || isWrite op)
  let cur : Option CurMsg :=
    if ends then none
    else
      match c.cur with
      | some m => some { m with va := m.va + n, left := m.left - n, gathered := if m.send then m.gathered ++ r.pkt.payload else [] }
      | none => some { send := isSend op, win := win, gen := gen, va := r.pkt.va.toNat + n, left := r.pkt.len - n, total := r.pkt.len,
                       gathered := if isSend op then r.pkt.payload else [] }
  { c with epsn := c.epsn + BitVec.ofNat 24 step, msn := if ends then c.msn + 1 else c.msn, cur := cur }

/-- The far request of an operation (R472). A FLUSH of a whole window whose length does not fit the request's field says 0, for the whole stream: the model's choice
(R178, log 195). -/
def farOf (o : Op) : FarReq :=
  let len := match o.kind with | .flush _ _ _ => if o.len < 2 ^ 32 then o.len else 0 | _ => o.len
  let base : FarReq := { op := 3, keystone := o.profile.keystone, durability := o.profile.durability, encipher := o.profile.encipher, prio := o.profile.prio,
                         tenant := o.tenant, qpn := o.qpn, sseq := 0, addr := o.addr, len := len, imm := 0, a := 0, b := 0, data := o.data }
  match o.kind with
  | .write => { base with op := 1 }
  | .writeImm imm => { base with op := 2, imm := imm }
  | .read => base
  | .cas c w => { base with op := 4, a := c, b := w }
  | .fadd a => { base with op := 5, a := a }
  | .atomicWrite => { base with op := 6 }
  | .flush _ v p => { base with op := 7, imm := BitVec.ofNat 32 (b2n v + 2 * b2n p) }
  | .status => base

/-- The operation that an admitted packet becomes. -/
def mkOp (id : Nat) (s : State) (p : Nat) (c : Qp) (r : Req) (idx : Nat) (w : Win) (dup : Bool) : Op :=
  let c' := advance c r idx w.gen
  let va := match c.cur with | some m => m.va | none => r.pkt.va.toNat
  let level0 := r.pkt.op == 0x1C && r.cmp == 0
  let keys := match s.slotOfTenant p c.tenant with
    | some i => some ((s.slot i).half0, (s.slot i).half1)
    | none => none
  { id := id, die := qpnDie c.qpn, qpn := c.qpn, psn := r.pkt.psn, kind := opKind r, tenant := c.tenant, win := idx, gen := w.gen,
    profile := s.winProfile p w, addr := if level0 then w.addr w.baseVa else w.addr va,
    len := if level0 then w.length else if isWrite r.pkt.op then r.pkt.payload.length else (reqLen r),
    data := r.pkt.payload, msn := c'.msn, msgLen := match c.cur with | some m => m.total | none => r.pkt.len,
    last := isLast r.pkt.op || isOnly r.pkt.op || r.pkt.op == 0x1D, decided := s.now, accepted := none, charged := [], ring := none, beforeMsn := c.msn,
    beforeCur := c.cur, direct := [], stalledAt := none, farTo := if w.far then some w.farDevice else none, sseq := none, mirrored := false,
    farFrom := none, silent := false, duplicate := dup, keys := keys, ringDue := false, scope := [], merged := [], captured := [] }

/-- Whether a write packet meets its cipher stage on the ingress die, where an EMPTY slot refuses it: it carries a line whole (R573, R577). -/
def State.ingressErased (s : State) (p : Nat) (o : Op) : Bool :=
  o.profile.encipher && o.writes && !o.atomic && o.kind != .atomicWrite &&
  o.spans.any (fun x => (lineRange x.2.2.1 x.2.2.2).any (fun k => wholeLine x.2.2.1 x.2.2.2 k)) && s.keyErased p o.tenant

/-- A follower keeps as many held READs of a QP as the QP has responder resources; an older one gives way (R86, R425). -/
def State.forgetHeld (s : State) (p : Nat) (o : Op) : State :=
  if !s.readHeld p o then s
  else
    let held := (s.remote p).ops.filter (fun x => x.qpn == o.qpn && x.farFrom.isNone && x.kind == .read && x.id != o.id)
    match s.qp? o.qpn, held with
    | some c, x :: _ => if c.respRes ≤ held.length then s.endOp p x.id else s
    | _, _ => s

/-! ### Requests of far windows (R143, R147, R154, R156, R177) -/

/-- Whether a request may go to its backing partition: none of its QP before it still has to go, a write follows every acceptance before it, and a write that must come
after every earlier one follows their placement; what the same backing partition holds of the QP, that one orders. -/
def State.mayForward (s : State) (p : Nat) (o : Op) : Bool :=
  (s.remote p).ops.all (fun x => !(x.sameQp o) || !decide (x.id < o.id) || x.mirrored ||
    !((x.farTo.isSome && x.sseq.isNone) || (x.writes && x.farTo != o.farTo && ((o.writes && x.accepted.isNone) || o.last_))))

/-- The page that a far keystone's ring entry will be merged into, charged before the keystone goes, to the partition where the ring lies (R147): which partition pays for
it is the model's choice (R176, log 54). -/
def State.chargeFar (s : State) (p : Nat) (o : Op) : Bool × State :=
  if o.ringDue || (s.ringOf p o).isNone then (true, s)
  else
    match s.cover p o.die 1 with
    | (true, s) => (true, ((s.modRd o.die (fun r => { r with credit := r.credit - 1 })).modRemote p (fun r =>
        { r with budget := { r.budget with charged := r.budget.charged + 1 } })).modOp p o.id (fun o => { o with ringDue := true }))
    | (false, s) => (false, s)

/-- A request of a far window forwarded, if it may go (R474). -/
def State.tryForward (s : State) (p id : Nat) : State :=
  match s.op? p id with
  | none => s
  | some o =>
    match o.farTo with
    | none => s
    | some dev =>
      if o.sseq.isSome || !s.mayForward p o then s
      else
        match s.chargeFar p o with
        | (true, s) => let f := s.farForward p dev o.id (farOf o); f.2.modOp p o.id (fun o => { o with sseq := some f.1 })
        | (false, s) => s

/-- Every request of a far window that waits goes as far as it may, in PSN order. -/
def State.forwardHeld (s : State) (p : Nat) : State :=
  ((s.remote p).ops.filter (fun o => o.farTo.isSome && o.sseq.isNone)).foldl (fun s o => s.tryForward p o.id) s

/-- An operation put into the table and started: forwarded, accepted or left waiting, served, or held for its point. -/
def State.startOp (s : State) (p : Nat) (o : Op) : State :=
  let o := s.withScope p o
  let s := s.modRemote p (fun r => { r with ops := r.ops ++ [o], nextOp := o.id + 1 })
  if o.farTo.isSome then s.tryForward p o.id
  else if s.ingressErased p o then (s.endOp p o.id).qpError p o.qpn o.psn 0x25
  else
    match o.kind with
    | .read => (s.forgetHeld p o).tryRead p o
    | .flush _ _ _ => s
    | _ =>
      let s := s.acceptNew p o
      if o.atomic then s.tryPlace p o.id else s

/-- The window index under which a zero-length READ stands: no window has it. -/
def noWin : Nat := 300000

/-- The window of a zero-length READ: none of its own, nothing to check or to read. -/
def zeroWin : Win :=
  { baseVa := 0, length := 0, gen := 0, firstBrick := 0, tenant := 0, profile := 0, rights := 0, farDevice := 0, valid := false, far := false, ring := none, revoking := none,
    forced := none, retired := false }

/-- A zero-length RDMA WRITE or READ touches no memory (R87): the WRITE is acknowledged, the READ answered in its place among the QP's reads. -/
def State.zeroLength (s : State) (p : Nat) (c : Qp) (r : Req) (dup : Bool) : State :=
  if r.pkt.op != 0x0C then s.scheduleAck p c.qpn r.pkt.psn true
  else
    let o := { mkOp (s.remote p).nextOp s p c r noWin zeroWin dup with profile := { keystone := true, durability := 0, encipher := false, prio := 0 }, addr := 0, len := 0 }
    if s.readHeld p o then s.reply p c.qpn s.now r.pkt.psn (.readData []) else s.startOp p o

/-- A SEND admitted and accepted: its bytes gathered, the whole message queued for steward 0 (R133, R134). -/
def State.sendIn (s : State) (p : Nat) (c : Qp) (r : Req) : State :=
  let all := (match c.cur with | some m => m.gathered | none => []) ++ r.pkt.payload
  let ends := isLast r.pkt.op || isOnly r.pkt.op
  let s := if ends then s.modRemote p (fun x => { x with svcQueue := amod x.svcQueue c.tenant [] (· ++ [{ qpn := c.qpn, bytes := all }]) }) else s
  (s.meter p (qpnDie c.qpn) c.tenant 0 r.pkt.payload.length).scheduleAck p c.qpn r.pkt.psn ends

/-- Twinned QPs keep each admitted request for the peer (R405). -/
def State.keep (s : State) (p : Nat) (c : Qp) (r : Req) : State :=
  if c.twinned && (s.twin p).mirrors then s.modTwin p (fun T => { T with kept := T.kept ++ [(c.qpn, r)] }) else s

/-- A drop (R117): counted; the next packet finds a new gap, and on a twinned QP the gap is fetched (R405). -/
def State.drop (s : State) (p : Nat) (c : Qp) (r : Req) (cause : Nat) : State :=
  let s := (s.causeCount (qpnDie c.qpn) cause).modQp c.qpn (fun c => { c with gapNaked := false })
  if c.twinned then s.fetchGap p c (r.pkt.psn + 1) else s

/-- The refusals of R173 in SOLO. -/
def State.twinAbsent (s : State) (p : Nat) (w : Win) (r : Req) : Bool :=
  (s.winProfile p w).durability == 2 && s.alone p && (isWritePkt r.pkt.op || (r.pkt.op == 0x1C && r.swp.getLsbD 1))

/-- Cycle 5 and admission (R114, R116), once the key checks have passed: with the window, or without one for SENDs and zero lengths. The spec gives SERVICE_FULL no place
among the checks of cycle 5: it is tested before OPTABLE_FULL and RATE_DROP by the model's choice (R133, log 196). -/
def State.takeReq (s : State) (p : Nat) (c : Qp) (r : Req) (w : Option (Nat × Win)) : State :=
  let d := qpnDie c.qpn
  let psn := r.pkt.psn
  let m := s.mode p
  let far := match w with | some x => x.2.far | none => false
  if m == .service then s.fatal p c psn 0x31
  else if !(c.twinned && (s.twin p).resync && m != .drain) && (!(m == .serve || m == .solo) || (s.modeSt p).halted || (c.twinned && (s.twin p).role == .fenced)) then
    (s.drop p c r 0x04)
  else if isSend r.pkt.op && 16 ≤ (agetD (s.remote p).svcQueue c.tenant []).length then
    (s.causeCount d 0x06).reply p c.qpn s.now psn (.nak 0x2E)
  else if !s.slotFree p c r far then s.drop p c r 0x02
  else if !c.twinned && s.overCeiling p d c.tenant then s.drop p c r 0x03
  else
    let s := s.takeTokens p d c.tenant c.qpn (if r.pkt.op == 0x0C then r.pkt.len else r.pkt.payload.length)
    let s := s.keep p c r
    let idx := match w with | some x => x.1 | none => 0
    let gen := match w with | some x => x.2.gen | none => 0
    let s := s.modQp c.qpn (fun c => { advance c r idx gen with gapNaked := false, gapSince := none, fetchSince := none, fatalAt := none })
    if isSend r.pkt.op then s.sendIn p c r
    else
      match w with
      | none => s.zeroLength p c r false
      | some (idx, w) =>
        if s.twinAbsent p w r then s.qpError p c.qpn psn 0x33
        else
          let s := if r.pkt.op == 0x0C then s.meter p d c.tenant 3 1 else s
          s.startOp p (mkOp (s.remote p).nextOp s p c r idx w false)

/-- A packet whose PSN is the expected one (R116). -/
def State.expected (s : State) (p : Nat) (c : Qp) (r : Req) : State :=
  let psn := r.pkt.psn
  if !sequenceOk c r || (isResponder r.pkt.op && c.respRes ≤ s.outstanding p c.qpn) then s.fatal p c psn 0x11
  else if !opcodeFine c r then s.fatal p c psn 0x10
  else if needsKey r.pkt.op && ((reqLen r) != 0 || r.pkt.op == 0x1C) then
    match s.windowCheck p c r with
    | .inl e => s.fatal p c psn e
    | .inr w => s.takeReq p c r (some w)
  else if continues r.pkt.op then
    match c.cur with
    | some m =>
      match aget (s.remote p).windows m.win with
      | some w => if w.gen != m.gen then s.fatal p c psn 0x21 else s.takeReq p c r (some (m.win, w))
      | none => s.fatal p c psn 0x21
    | none => s.fatal p c psn 0x11
  else s.takeReq p c r none

/-- A PSN ahead of the expected one (R117, R120, R405). -/
def State.gap (s : State) (p : Nat) (c : Qp) (r : Req) : State :=
  let s := s.causeCount (qpnDie c.qpn) 0x01
  if c.twinned && (s.twin p).mirrors then s.fetchGap p c r.pkt.psn
  else if c.gapNaked then s
  else (s.reply p c.qpn s.now c.epsn (.nak 0x60)).modQp c.qpn (fun c => { c with gapNaked := true })

/-- A PSN behind the expected one (R119). -/
def State.duplicate (s : State) (p : Nat) (c : Qp) (r : Req) : State :=
  let op := r.pkt.op
  let psn := r.pkt.psn
  if op == 0x13 || op == 0x14 then
    match aget c.saved psn with
    | some v =>
      let t := s.pace c.qpn 8
      t.2.reply p c.qpn t.1 psn (.atomicAck v)
    | none =>
      if (s.remote p).ops.any (fun o => o.qpn == c.qpn && o.psn == psn && o.atomic) then s else s.fatal p c psn 0x11
  else if op == 0x0C || op == 0x1C then
    let again (s : State) : State := s.modOps p (fun l => l.filter (fun o => !(o.qpn == c.qpn && o.psn == psn && o.responder && !o.atomic && o.farFrom.isNone)))
    if op == 0x0C && (reqLen r) == 0 then (again s).zeroLength p c r true
    else
      match s.windowCheck p c r with
      | .inl e => s.fatal p c psn e
      | .inr (idx, w) =>
        let s := again s
        let o := mkOp (s.remote p).nextOp s p c r idx w true
        let o := { o with msn := c.msn }
        s.startOp p o
  else if isSend op || isWrite op || op == 0x1D then
    let waits := (s.remote p).ops.any (fun o => o.qpn == c.qpn && o.psn == psn && o.writes && o.accepted.isNone)
    if waits then s else s.ackNow p c.qpn
  else s

/-- A request packet at a live context in READY or CONNECTING (R104, R116); a CNP for congestion on the way, or for its tenant's debt (R138, R139). -/
def State.decideReq (s : State) (p : Nat) (c : Qp) (r : Req) : State :=
  let s := if r.pkt.ce || s.inDebt p (qpnDie c.qpn) c.tenant then s.sendCnp c.qpn else s
  let d := psnDiff r.pkt.psn c.epsn
  if 0 < d then s.gap p c r
  else if d < 0 then s.duplicate p c r
  else
    let s := if c.state == .connecting then s.modQp c.qpn (fun c => { c with state := .ready }) else s
    s.expected p { c with state := .ready } r

/-- A request packet from a port (R84, R89, R116): none at another UDP port, dropped at the wrong port or without a context, else decided. -/
def State.receive (s : State) (r : Req) : State :=
  let d := r.pkt.dport / 2
  if r.pkt.udp != 4791 then s
  else
  match s.qp? r.pkt.dqpn, s.partOfDie (qpnDie r.pkt.dqpn) with
  | some c, some p =>
    if !(d == qpnDie c.qpn && (r.pkt.dport % 2 == c.port || (r.pkt.svc && c.twinned))) then s.modRd d (fun x => { x with wrongPort := x.wrongPort + 1 })
    else if c.state != .ready && c.state != .connecting then s.causeCount d 0x05
    else if c.twinned && (s.twin p).role == .fenced && !(s.twin p).resync then s.drop p c r 0x04
    else s.decideReq p c r
  | _, _ => s.causeCount d 0x05

end Sys2Proof.Machine
end

