-- ==== Sys2Proof/Machine/CmdOps.lean ====
section
/-! DEFINITION. How commands are checked and how they end (R720, R725-R733, R795). -/
namespace Sys2Proof.Machine
open Sys2Proof

/-- The codes of R732. -/
def Status.code : Status → Nat
  | .ok => 0x00 | .forced => 0x01 | .mode => 0x02 | .busy => 0x03 | .aborted => 0x04 | .nvFail => 0x05 | .badOpcode => 0x06
  | .badField => 0x07 | .badPartition => 0x08 | .notOwner => 0x09 | .dmaFail => 0x0A | .refused => 0x0B | .superseded => 0x0C
  | .entropy => 0x0D | .limit => 0x0E | .bodyError => 0x0F | .badRange => 0x10 | .inUse => 0x11 | .badTenant => 0x12
  | .badCourse => 0x13 | .tableFull => 0x14 | .notRegistered => 0x15 | .windowOpen => 0x16 | .hamperLive => 0x17
  | .skipped => 0x18 | .badTarget => 0x19 | .badScope => 0x1A | .badChannel => 0x1B | .notListed => 0x1C | .brickOwner => 0x1D
  | .badProfile => 0x20 | .encipherConflict => 0x21 | .noTwin => 0x22 | .windowLimit => 0x23 | .badRing => 0x24
  | .farDenied => 0x25 | .farUnreachable => 0x26 | .notOpen => 0x27 | .noQp => 0x28 | .qpLimit => 0x29 | .badPort => 0x2A
  | .badClass => 0x2B | .tenantLimit => 0x2C | .reserve => 0x2D | .notAuthorised => 0x2E | .slotBound => 0x30
  | .slotPartition => 0x31 | .badSlot => 0x32 | .slotInUse => 0x33 | .noImport => 0x34 | .unwrap => 0x35 | .weakKey => 0x36
  | .notActive => 0x37 | .notLoaded => 0x38 | .scFull => 0x39 | .notInstalled => 0x3A | .noRecord => 0x40 | .mismatch => 0x41
  | .peerTimeout => 0x42 | .farPeer => 0x43 | .arbiter => 0x44 | .paired => 0x45 | .badStart => 0x46 | .badSource => 0x47
  | .badFirmware => 0x50 | .badChallenge => 0x51 | .badSignature => 0x52 | .notNeeded => 0x53 | .permanent => 0x54
  | .badTable => 0x55 | .running => 0xFF

/-- A command ends: its outcome awaits its completion (R721), or, from the mailbox, its result (R703). A JTAG command has none. -/
def State.finishWith (s : State) (c : CmdRef) (op : Nat) (st : Status) (detail : Nat) (result : List Byte) (cfg : Bool) : State :=
  let e : Ended := { tag := c.tag, opcode := op, irq := c.irq, status := st, detail := detail, result := result, cfg := cfg }
  if c.port < 2 then s.modPort c.port (fun p => { p with ended := p.ended ++ [e] })
  else if c.port == 2 then s.modSb (fun b => { b with ended := b.ended ++ [e] })
  else s

/-- A command fails, or ends with nothing that CONFIG_GEN counts. -/
def State.finish (s : State) (c : CmdRef) (op : Nat) (st : Status) (result : List Byte := []) : State := s.finishWith c op st 0 result false

/-- A command completes with a change that CONFIG_GEN counts (R748). -/
def State.finishCfg (s : State) (c : CmdRef) (op : Nat) (st : Status) (result : List Byte := []) : State := s.finishWith c op st 0 result true

/-- A command that waits for a condition (R725). -/
def State.startRunning (s : State) (c : CmdRef) (op : Nat) (l : LongOp) : State :=
  { s with running := s.running ++ [{ cmd := c, opcode := op, op := l, since := s.now, mseq := 0 }] }

/-- Ends the running commands that a predicate picks, with a status and result. -/
def State.endRunning (s : State) (pick : LongOp → Bool) (st : Status) (result : List Byte) (cfg : Bool) : State :=
  let es := s.running.filter (fun r => pick r.op)
  es.foldl (fun s r => s.finishWith r.cmd r.opcode st 0 result cfg) { s with running := s.running.filter (fun r => !pick r.op) }

/-! ### Commands that run over a time: SCRUB and PPR_APPLY (R213-R215, R218) -/

/-- The summary record (R215); STATUS is 0 complete, 1 aborted. -/
def Scrub.bytes (x : Scrub) (stop : Nat) (st : Nat) : List Byte :=
  natLE 8 x.start ++ natLE 8 stop ++ natLE 1 x.kind ++ natLE 1 st ++ fill 6 0 ++
    ([x.linesRead, x.corrected, x.flagged, x.checked, x.pagesCorrected, x.rebuilt, x.reloaded, x.fetched, x.lost, x.recomputed, x.hard].map (natLE 8)).flatten ++
    natLE 4 x.rows ++ natLE 4 x.marks ++ ((List.range 10).map (fun i => natLE 8 (agetD x.byPos i 0))).flatten ++ fill 56 0

/-- A SCRUB ends: its summary goes to SUMMARY_ADDR (R213, R215). -/
def State.endScrub (s : State) (p : Nat) (st : Status) : State :=
  match (s.store p).scrub with
  | none => s
  | some x =>
    ((s.modStore p (fun S => { S with scrub := none })).send (.dma x.port x.addr (x.bytes (fab s) (if st == .ok then 0 else 1)))).endRunning (· == .scrub p) st [] false

def LongOp.pprOf (p : Nat) : LongOp → Bool
  | .ppr q _ _ _ => q == p
  | _ => false

/-- A PPR_APPLY is cut short as its partition leaves SERVICE (R218): a repair that had begun is not known to have passed, and its row is PENDING again
(log 82). -/
def State.abortPpr (s : State) (p : Nat) : State :=
  if s.running.any (fun r => LongOp.pprOf p r.op) then
    ({ s with storeNv := { s.storeNv with spare := s.storeNv.spare.map (fun r =>
        if r.status == .inProgress && (s.partDies p).contains r.die then { r with status := .pending } else r) } } : State).endRunning (LongOp.pprOf p) .aborted [] false
  else s

/-- A SCRUB or a PPR_APPLY ends with ABORTED where its partition goes to a mode outside those it is permitted in (R213, R218, R727). -/
def State.stopWork (s : State) (p : Nat) (dst : Mode) : State :=
  let s := match (s.store p).scrub with
    | some x => if dst == .service || (x.kind != 2 && (dst == .serve || dst == .solo)) then s else s.endScrub p .aborted
    | none => s
  if dst == .service then s else s.abortPpr p

/-! ### Checks -/

/-- The first failure of a list that applies (R795). -/
def firstFail : List (Bool × Status) → Option Status
  | [] => none
  | (b, st) :: rest => if b then some st else firstFail rest

/-- Whether a partition's owner includes a command's port (R729); the sideband and JTAG stand outside ownership. -/
def State.owns (s : State) (c : CmdRef) (p : Nat) : Bool :=
  if 2 ≤ c.port then true
  else
    match s.part? p with
    | some P => (match P.owner with | .both => true | .port0 => c.port == 0 | .port1 => c.port == 1)
    | none => true

/-- Whether every partition's owner includes a command's port (R729). -/
def State.ownsAll (s : State) (c : CmdRef) : Bool := s.partIds.all (fun p => s.owns c p)

/-- Whether a partition of the effective image has a number (R733). -/
def State.hasPart (s : State) (p : Nat) : Bool := (s.part? p).isSome

/-- A command whose change charges tracked pages beyond the allowance waits before it completes (R373). -/
def State.holdEnd (s u : State) (c : CmdRef) (p : Nat) : State :=
  let n := (u.store p).trackedDirty.length
  if (s.store p).trackedDirty.length < n && decide (u.trackedAllowance p < n) then { u with heldEnds := u.heldEnds ++ [(c, p)] } else u

/-- Opcodes of the commands that cause an NV-store program (R273, R571, R594, R605, R606, R670, R695, R734). -/
def programsNv (op : Nat) : Bool :=
  [0x104, 0x105, 0x201, 0x202, 0x301, 0x302, 0x303, 0x304, 0x305, 0x30F, 0x310, 0x311, 0x401, 0x402, 0x601, 0x603, 0x604].contains op

/-- Whether a command that started from `s` has failed in `u`: the last end that its port has to report since then is neither OK nor FORCED. -/
def State.failedIn (s u : State) (c : CmdRef) : Bool :=
  let ends (x : State) : List Ended := if c.port == 2 then x.svc.sideband.ended else match x.port? c.port with | some p => p.ended | none => []
  match (ends u).drop (ends s).length |>.getLast? with
  | some e => !(e.status == .ok || e.status == .forced)
  | none => false

/-- R670: a program that fails to verify is repeated once at the next free location; where that fails too, the command that caused it fails with NV_FAIL and has no
effect (log 117). A command that fails for another reason causes no program. -/
def State.nvOutcome (s u : State) (c : CmdRef) (op : Nat) : State :=
  if c.nvFails < 2 || !programsNv op || s.failedIn u c then u else s.finish c op .nvFail

/-- A command that names a partition: BAD_FIELD, BAD_PARTITION, NOT_OWNER and its own failures in order (R795), else its effect. -/
def State.partCmd (s : State) (c : CmdRef) (op p : Nat) (badField : Bool) (fails : List (Bool × Status)) (effect : State → State) : State :=
  match firstFail ([(badField, .badField), (!s.hasPart p, .badPartition), (!s.owns c p, .notOwner)] ++ fails) with
  | some st => s.finish c op st
  | none => s.nvOutcome (s.holdEnd (effect s) c p) c op

/-- A class P command that is not read-only. -/
def State.pkgCmd (s : State) (c : CmdRef) (op : Nat) (badField : Bool) (fails : List (Bool × Status)) (effect : State → State) : State :=
  match firstFail ([(badField, .badField), (!s.ownsAll c, .notOwner)] ++ fails) with
  | some st => s.finish c op st
  | none => s.nvOutcome (effect s) c op

/-- Whether a partition stands in one of the modes that a command permits (R727). -/
def State.inMode (s : State) (p : Nat) (ms : List Mode) : Bool := s.pkg == .on && s.hasPart p && ms.contains (s.mode p)

/-- SERVE or SOLO; and with SERVICE. -/
def modesServing : List Mode := [.serve, .solo]
def modesOpen : List Mode := [.serve, .solo, .service]

end Sys2Proof.Machine
end

