-- ==== Sys2Proof/Machine/LostOps.lean ====
section
/-! DEFINITION. CLEAR_LOST behind its command (R225, R575): it waits for a frame as a write's placement waits, and for credit as a status record does. -/
namespace Sys2Proof.Machine
open Sys2Proof

/-- Under which number a CLEAR_LOST of a brick stands among those that wait for a frame (log 60). -/
def clearWait (b : Nat) : Nat := 2 ^ 40 + b

/-- The brick that a number in the list of waits stands for: the first non-resident one of an operation, or that of a CLEAR_LOST. -/
def State.waitBrick (s : State) (p id : Nat) : Option Nat :=
  match s.op? p id with
  | some o => (o.spans.map (·.1)).find? (fun b => !(s.store p).resident b)
  | none => if 2 ^ 40 ≤ id && !(s.store p).resident (id - 2 ^ 40) then some (id - 2 ^ 40) else none

/-- The page that CLEAR_LOST clears, in its frame and charged: zero lines and parity, VALID, FILLED and DIRTY, off the list (R225 steps 2 to 4). -/
def State.clearPage (s : State) (p b g : Nat) (encipher : Bool) : State :=
  let s := s.modRemote p (fun r => { r with budget := { r.budget with homeFree := r.budget.homeFree - 1, charged := r.budget.charged + 1 } })
  let s := ((s.zeroFill p b g encipher).setDirty p b g).modPage p b g (fun P => { P with charges := P.charges + 1, stale := false, grout := none })
  s.unlist p b g

/-- A CLEAR_LOST goes on: it fails if the slot has been erased, waits for credit or a frame, or clears its page and completes (R225, R575). -/
def State.tryClear (s : State) (p b g : Nat) (encipher : Bool) : State :=
  let done (s : State) (st : Status) : State :=
    (s.modStore p (fun S => { S with frameWaits := adel S.frameWaits (clearWait b) })).endRunning (· == .clearLost p b g encipher) st [] false
  if encipher && s.keyErased p ((s.store p).tenantOf b) then done s .notLoaded
  else if !s.listed p b g then done s .notListed
  else if !s.live p then s
  else
    let r := if (s.store p).resident b then (true, s) else s.frameForWrite p b (clearWait b)
    if r.1 && 0 < (r.2.remote p).budget.homeFree then done (r.2.clearPage p b g encipher) .ok else r.2

/-- Every CLEAR_LOST of a partition that waits goes on as far as it can. -/
def State.clearLosts (s : State) (p : Nat) : State :=
  (s.running.filterMap (fun r => match r.op with | .clearLost q b g e => if q == p then some (b, g, e) else none | _ => none)).foldl
    (fun s x => s.tryClear p x.1 x.2.1 x.2.2) s

end Sys2Proof.Machine
end

