-- ==== Sys2Proof/Machine/ModeOps.lean ====
section
/-! DEFINITION. What the mode events share (09, 13): the dirty budget (R352-R358), mode changes and their records (R532), recorded causes,
the drain stamp (R180, R365), halts (R511), leaving DRAIN (R518), fencing (R423), a lost die (R45, R528), and what COLD leaves. -/
namespace Sys2Proof.Machine
open Sys2Proof

/-! ### The dirty budget (R352-R358) -/

/-- The highest thermal band of any controller die (R352). -/
def State.topBand (s : State) : Nat := s.svc.thermal.dies.foldl (fun m e => if e.1 < 64 then max m e.2.band else m) 0

/-- k_temp in hundredths (R354). -/
def kTemp (band : Nat) : Nat := if band ≤ 1 then 100 else if band == 2 then 95 else if band == 3 then 85 else 70

/-- W_c of a channel in bytes per second, scaled by the fraction of its LUNs in service (R352, R357). -/
def State.wcOf (s : State) (p : Nat) (c : Nat × Nat) : Nat :=
  let F := (s.store p).flash
  let n := F.ces * F.luns
  let i := F.channels.findIdx (· == c)
  if F.chOut.contains c then 0
  else agetD (s.remote p).budget.wC c 0 * (n - (F.lunsOut.filter (fun l => l.1 == i)).length) / n

/-- W_drain_p: the sum of W_c over a partition's channels (R355). -/
def State.wDrain (s : State) (p : Nat) : Nat := ((s.onfiChannels p).map (s.wcOf p)).sum

/-- The write-back share in percent: 25 while relocation takes 75 %, else 75 (R338, R356). -/
def State.wbShare (s : State) (p : Nat) : Nat := if (s.store p).flash.groups.any (fun g => g.2.heavy) then 25 else 75

/-- ONFI channels assigned to all partitions. -/
def State.allChannels (s : State) : Nat := (s.partIds.map (fun p => (s.onfiChannels p).length)).sum

/-- P_meas: the largest of the partitions' measurements (log 18), in 0.1 W. -/
def State.pMeas (s : State) : Nat := (s.partIds.map (fun p => (s.remote p).budget.pMeas)).foldl max 0

/-- B as an exact fraction of bytes (R352): times in ns, T_detect + T_quiesce = 2.01 ms. -/
def allowance (tHoldUs pDrain pMeas wDrain k : Nat) : Nat × Nat :=
  let pm := max 1 pMeas
  let th := tHoldUs * 1000 * min pDrain pm
  let th := if pMeas == 0 then tHoldUs * 1000 else th
  ((th - 2010000 * pm) * wDrain * k * 9, pm * 1000000000000)

/-- B of the package (R352). -/
def State.drainB (s : State) : Nat × Nat :=
  allowance (s.field 0xB 0xFF 0 0 4 0) (s.field 0xB 0xFF 0 4 4 0) s.pMeas ((s.partIds.map s.wDrain).sum) (kTemp s.topBand)

/-- P_p: the partition's share of B in pages, rounded down (R355). -/
def State.budgetPages (s : State) (p : Nat) : Nat :=
  let b := s.drainB
  b.1 * (s.onfiChannels p).length / (b.2 * s.allChannels * 4096)

/-- The data part before R529: floor(15 P_p / 16), capped at W_p × 250 ms (R355, R356). -/
def dataPart (pages wP : Nat) : Nat := min (15 * pages / 16) (wP * 250 / 1000 / 4096)

/-- Gives a partition its parts: a lower data part takes every die's credit back at once, BUDGET_ZERO when it becomes zero (R44, R146,
R357, R358). -/
def State.setBudget (s : State) (p b pages wP data meta_ : Nat) : State :=
  let old := (s.remote p).budget.data
  let s := if data < old then (s.partDies p).foldl (fun s d => s.modRd d (fun r => { r with credit := 0 })) s else s
  let credits := s.creditOut p
  let s := s.modRemote p (fun r =>
    { r with budget := { r.budget with b := b, pages := pages, wP := wP, data := data, meta_ := meta_, homeFree := data - r.budget.charged - credits } })
  if data == 0 && old != 0 then (s.log .budgetZero (srcPart p) (values [])).int .budgetZero else s

/-- Recomputes one partition's parts (R352-R356, R529). -/
def State.recomputeOne (s : State) (p : Nat) : State :=
  let b := s.drainB
  let pages := s.budgetPages p
  let wP := s.wDrain p * s.wbShare p / 100
  s.setBudget p (b.1 / b.2) pages wP (if (s.store p).flash.exhausted then 0 else dataPart pages wP) (pages - 15 * pages / 16)

/-- Recomputes B and every partition's parts (R357). -/
def State.recompute (s : State) : State := s.partIds.foldl (fun s p => s.recomputeOne p) s

/-! ### Mode changes (R509, R532) -/

/-- The causes as a mask (R532). -/
def causeMask (l : List Cause) : Nat := l.foldl (fun m c => m ||| 2 ^ c.code) 0

def addTo (l : List Cause) (c : Cause) : List Cause := if l.contains c then l else l ++ [c]

/-- MODE_CHANGE: the record, the event, the interrupt and the IBI (R532, R705, R741, R759). -/
def State.modeRecord (s : State) (src : LogSrc) (byte0 frm dst : Nat) (c : Cause) (causes : List Cause) : State :=
  let body := natLE 1 byte0 ++ natLE 1 frm ++ natLE 1 dst ++ natLE 1 c.code ++ natLE 4 (causeMask causes) ++
    natLE 8 (if s.time.everLocked then fab s else 0)
  (((s.log .modeChange src body).event 2 body).int .modeChange).ibi 1

/-- A change of the package's mode (R509): codes 0 COLD, 1 SEQUENCE. -/
def PkgMode.code : PkgMode → Nat
  | .cold => 0 | .seqUp => 1 | .seqDown => 1 | .on => 1

def State.setPkg (s : State) (dst : PkgMode) (c : Cause) : State :=
  let frm := s.pkg
  let s : State := { s with pkg := dst }
  let s := if frm.code == dst.code then s else s.modeRecord srcSvc 0x80 frm.code dst.code c s.pkgCauses
  if dst == .cold then { s with pkgCauses := [] } else s

/-- Records a cause on a partition (R531). -/
def State.addCause (s : State) (p : Nat) (c : Cause) : State := s.modMode p (fun m => { m with causes := addTo m.causes c })

/-- Whether a partition's recorded causes hold one. -/
def State.hasCause (s : State) (p : Nat) (c : Cause) : Bool := (s.modeSt p).causes.contains c

/-- Ends the pending MODE_REQUEST of a partition (R520). -/
def State.endRequest (s : State) (p : Nat) (st : Status) : State :=
  match (s.modeSt p).pending with
  | some r => (s.modMode p (fun m => { m with pending := m.later, later := none })).finish r.cmd 0x103 st
  | none => s

/-- Whether a mode is the target of a MODE_REQUEST (R520). -/
def Mode.meets (m : Mode) (target : Nat) : Bool :=
  match m with
  | .serve | .solo => target == 4
  | .service => target == 7
  | _ => false

/-- A partition changes mode: the record, its causes cleared on entry to SERVE or SOLO, a MODE_REQUEST that it meets completed (R509,
R519, R520, R531). -/
def State.setMode (s : State) (p : Nat) (dst : Mode) (c : Cause) : State :=
  s.onPart p (fun P s =>
    let s := s.modeRecord (srcPart p) p P.mode.mode.code dst.code c P.mode.causes
    let serves := dst == .serve || dst == .solo
    let s := s.stopWork p dst
    let s := s.modMode p (fun m => { m with mode := dst, causes := if serves then [] else m.causes, halted := false, haltCauses := [], haltComplete := false,
                                            hold := if serves || dst == .service then false else m.hold,
                                            restartRefused := false, since := s.now })
    let s := s.modStore p (fun S => { S with drain := { S.drain with
      step := 0, lastMode := if dst == .drain then S.drain.lastMode else dst.code, fact := if serves then .serving else S.drain.fact } })
    let s := (s.partDies p).foldl (fun s d => s.modRd d (fun r => { r with drainStamp := none })) s
    let s := s.announce p
    match P.mode.pending with
    | some r => if dst.meets r.target then s.endRequest p .ok else s
    | none => s)

/-! ### What a mode change ends -/

/-- The die of a physical interface. -/
def PhyId.die : PhyId → Nat
  | .dram d _ _ => d | .onfi d _ => d | .port n => n / 2 | .mesh d _ => d

/-- Running calibrations of a partition's dies stop with their settings unchanged; one that only waits goes on waiting (R256). -/
def State.stopCalibration (s : State) (p : Nat) : State :=
  { s with phys := s.phys.map (fun e => if (s.partDies p).contains (PhyId.die e.1) then (e.1, if e.2.running then { e.2 with running := false, pending := none, windows := 0 } else e.2) else e) }

/-- Whether a running command belongs to a partition and has changed nothing yet, so that it fails (R298, R581, R727). -/
def LongOp.abortsOn (p : Nat) : LongOp → Bool
  | .promote q _ _ => q == p
  | .openFar q _ _ => q == p
  | .rekey q _ _ => q == p
  | .clearLost q _ _ _ => q == p
  | .twinPair q => q == p
  | .carried q _ _ => q == p
  | _ => false

/-- Whether a running command belongs to a partition and has committed its change, so that it completes (R727). -/
def LongOp.completesOn (p : Nat) : LongOp → Bool
  | .revoke q _ => q == p
  | .unregister q _ => q == p
  | .demote q _ => q == p
  | _ => false

/-- The running commands of a partition that leaves their modes (R727); a REKEY's sweep stops (R581). -/
def State.abortRunning (s : State) (p : Nat) : State :=
  let s := s.endRunning (LongOp.abortsOn p) .aborted [] false
  let s := s.endRunning (LongOp.completesOn p) .ok [] true
  let s := s.endRunning (fun l => match l with | .destroyQp q _ => q == p | _ => false) .ok [] false
  let s := (s.running.filter (fun r => match r.op with | .twinned q _ _ => q == p | _ => false)).foldl (fun s r => match r.op with
    | .twinned q res cfg => s.endRunning (· == .twinned q res cfg) .ok res cfg
    | _ => s) s
  (s.modTwin p (fun T => { T with pairing := none, paired := T.paired && T.pairing.isNone })).modSec (fun x =>
    { x with slots := x.slots.map (fun e => if e.2.part == some p then (e.1, { e.2 with sweep := e.2.sweep.map (fun w => { w with silent := true }) }) else e) })

/-- Every hamper of a partition ends: entries ABANDONED without a direct window, pins released (R302, R304, R315). -/
def State.dropHampers (s : State) (p : Nat) : State :=
  s.modStore p (fun S => { S with hampers := [], direct := [], bricks := S.bricks.map (fun e => (e.1, { e.2 with pin := false })) })

/-- Whether a flash read is for the placement of an accepted write (R366). -/
def State.readForWrite (s : State) (p : Nat) (r : FRead) : Bool :=
  r.waiting.any (fun i => match s.op? p i with | some o => o.writes && o.accepted.isSome | none => false)

/-- Evictions and fills stop, but for fills that accepted writes need; relocation stops (R315, R339, R365 step 6, R366). -/
def State.stopBackground (s : State) (p : Nat) : State :=
  s.modStore p (fun S =>
    { S with bricks := S.bricks.map (fun e => (e.1, { e.2 with evicting := false, evictFor := none })),
             evictFor := [],
             flash := { S.flash with reads := S.flash.reads.filter (s.readForWrite p), wbs := S.flash.wbs.filter (fun w => w.why != .relocate) } })

/-! ### Starting a drain (R180, R360-R367, R426) -/

/-- A lead that leaves service tells its peer and the arbiter (R426). -/
def State.leadLeaves (s : State) (p : Nat) : State :=
  let T := s.twin p
  if !T.lead then s
  else
    let s := s.sendApply p
    let s := if T.mirrors then s.fenceNotice p 0 else s
    (s.toArbiter p 5 0 0).modTwin p (fun T => { T with releasing := some (fab s), releasedAck := false, tExp := none, solo := false })

/-- ACKs of a QP decided on this very cycle, which are not sent. -/
def State.unack (s : State) (q : BitVec 24) : State :=
  { s with out := s.out.filter (fun o => match o with
    | .rdma t n _ (.ack _) _ => !(n == q && t == s.now)
    | _ => true) }

/-- Requests not accepted before the stamp are discarded without response, one accepted on its cycle and not yet placed among them, with its charge and its ACK; as is every
service message not yet charged (R147, R180). -/
def State.stopIntake (s : State) (p : Nat) : State :=
  let gone := (s.remote p).ops.filter (fun o => o.writes && o.kind != .status && (o.accepted.isNone || (o.accepted == some s.now && !o.mirrored)))
  let s := gone.foldl (fun s o =>
    let s := if o.accepted.isSome && o.farTo.isNone then s.release p (o.charged.length + b2n o.ringDue - o.merged.length) else s
    (if o.accepted.isSome then s.unack o.qpn else s).endOp p o.id) s
  s.modRemote p (fun r => { r with svcQueue := [], svcWork := [], statusRecs := [] })

/-- DRAIN begins with a cause: the stamp on every die (R180, R361), DRAIN_SEQ (R367), and all that stops there. -/
def State.startDrain (s : State) (p : Nat) (c : Cause) : State :=
  let s := (s.addCause p c).leadLeaves p
  let s := (s.abortRunning p).setMode p .drain c
  let s := (s.partDies p).foldl (fun s d => s.modRd d (fun r => { r with drainStamp := some s.now })) s
  let s := s.log .drainStart (srcPart p) (values [])
  let s := (((s.stopIntake p).dropHampers p).stopBackground p).stopCalibration p
  s.modStore p (fun S => { S with ckpt := { S.ckpt with running := false }, drain := { S.drain with
    step := 2, stamp := s.now, drainSeq := S.flash.seq, set := [], setAt := none, manifest := none, units := [], done := false } })

/-- A partition in BUILD or RESTORE halts (R511). -/
def State.halt (s : State) (p : Nat) (c : Cause) : State :=
  let s := (s.addCause p c).modMode p (fun m => { m with halted := true, haltCauses := addTo m.haltCauses c })
  (s.stopCalibration p).modFlash p (fun F => { F with reads := [] })

/-! ### Leaving DRAIN (R518) -/

/-- Entry to SERVICE. -/
def State.enterService (s : State) (p : Nat) (c : Cause) : State := (s.abortRunning p).setMode p .service c

/-- Entry to RESTORE at step 1. -/
def State.enterRestore (s : State) (p : Nat) (c : Cause) : State :=
  (s.setMode p .restore c).modStore p (fun S => { S with drain := { S.drain with rstep := 1 } })

/-- HOLDUP_OK asserted for 100 ms without a break (R359). -/
def State.holdupHeld (s : State) : Bool := s.svc.pins.holdupOk && dueSvc s s.svc.pins.holdupSince (100 * cMs)

/-- What a partition does once DRAIN_DONE is committed, and whenever a cause or a request reaches it afterwards (R518). -/
def State.leaveDrain (s : State) (p : Nat) : State :=
  if !((s.store p).drain.done && s.mode p == .drain) then s
  else
    let has := s.hasCause p
    let target := match (s.modeSt p).pending with | some r => r.target | none => 0
    if has .power || has .off then (if target == 4 || target == 7 then s.endRequest p .aborted else s)
    else if has .dieLost then s.enterService p .dieLost
    else if has .metadataLost then s.enterService p .metadataLost
    else if target == 7 then s.enterService p .command
    else if target == 4 then s.enterRestore p .command
    else if has .bmc || has .command || has .thermal then s
    else if s.holdupHeld then s.enterRestore p .holdup
    else s

/-! ### The event × mode matrix (R528) -/

/-- A drain trigger or a halt cause reaches a partition (R360, R528): POWER, OFF, BMC, THERMAL, HOLDUP or COMMAND. -/
def State.trigger (s : State) (c : Cause) (p : Nat) : State :=
  match s.mode p with
  | .build | .restore => if c == .holdup then s else s.halt p c
  | .serve | .solo => s.startDrain p c
  | .drain => (s.addCause p c).leaveDrain p
  | .service => if c == .holdup then s else s.startDrain p c

/-- A package-wide trigger reaches every partition in the mode that its cycle finds it in (R530). -/
def State.triggerAll (s : State) (c : Cause) : State :=
  if s.pkg == .on then s.partIds.foldl (fun s p => s.trigger c p) s else s

/-- The BMC's emergency drain request (R360, R528). -/
def State.bmcDrain (s : State) : State := (s.log .bmcDrainRequest srcSvc (values [])).triggerAll .bmc

/-- METADATA_LOST (R211, R528, R793). -/
def State.metadataLost (s : State) (p : Nat) : State :=
  let s := s.log .metadataLost (srcPart p) (values [])
  match s.mode p with
  | .build | .restore => (s.addCause p .metadataLost).enterService p .metadataLost
  | .serve | .solo => s.startDrain p .metadataLost
  | .drain => (s.addCause p .metadataLost).leaveDrain p
  | .service => s

/-- FLASH_EXHAUSTED begins or lifts (R340, R529). -/
def State.setExhausted (s : State) (p : Nat) (on : Bool) : State :=
  if (s.store p).flash.exhausted == on then s
  else
    let s := (s.modFlash p (fun F => { F with exhausted := on })).log .flashExhausted (srcPart p) (values [])
    if s.serving p || !on then s.recomputeOne p else s

/-! ### Fencing (R423, R523, R528) -/

/-- A fence reaches a twin: role FENCED, its lease over; in SERVE or SOLO it stops accepting, its ordinary QPs enter ERROR, and it goes
to step 6 of RESTORE; writes that it alone accepted while free-running are counted as TWIN_SPLIT (R423, R424). -/
def State.fenced (s : State) (p : Nat) (c : Cause) : State :=
  let T := s.twin p
  let serving := s.serving p
  let s := if T.splitWrites != 0 then s.log .twinSplit (srcPart p) (values [T.splitWrites]) else s
  let s := s.modTwin p (fun T =>
    { T with role := .fenced, tExp := none, solo := false, freeRunning := false, splitWrites := 0, reported := [], resync := false, resyncDone := false,
             stream := [], held := [], replicas := [], pageWaits := [], unsent := [], unsentSince := none })
  if !serving then s
  else
    let s := s.addCause p c
    let qs := ((s.partDies p).map (fun d => (s.rd d).qps)).flatten.filter (fun e => !e.2.twinned)
    let s := qs.foldl (fun s e => s.qpError p e.2.qpn e.2.epsn 0x36) s
    let s := ((s.abortRunning p).setMode p .restore c).modStore p (fun S => { S with drain := { S.drain with rstep := 6 } })
    ((s.remote p).ops.filter (fun o => o.writes && o.accepted.isSome)).foldl (fun s o => s.tryPlace p o.id) s

/-- A twin fences itself at its lease guard, or as its time is LOST (R419, R491): FENCE_NOTICE and REPORT with reason SELF_FENCED. -/
def State.selfFence (s : State) (p : Nat) (c : Cause) : State := (((s.fenceNotice p 5).report p 5).fenced p c)

/-! ### A lost die (R45, R528) -/

/-- Whether a page's lines on a die out of service can be rebuilt by its strong code: parity current and no more than P lines gone (R45). -/
def StoreP.survives (S : StoreP) (b g die : Nat) : Bool :=
  let t := 64 + S.pOf b
  let lost := (List.range t).filter (fun k => match S.place b g k with | some pl => pl.die == die | none => false)
  decide (lost.length ≤ S.pOf b) && (S.page b g).current &&
  (match S.courseOf b with | some (C, f) => parityHome C f g != die | none => false)

/-- Whether a page of a resident brick has a line on a die. -/
def StoreP.onDie (S : StoreP) (b g die : Nat) : Bool :=
  (List.range (64 + S.pOf b)).any (fun k => match S.place b g k with | some pl => pl.die == die | none => false)

/-- DIRTY pages on a lost die's channels: fetched from the twin, kept where the strong code recovers them, else lost with cause DIE_LOST
(R45, R221, R531). -/
def State.settleLostDie (s : State) (p die : Nat) : State :=
  let S := s.store p
  let hit := (S.pages.filter (fun e => e.2.filled && S.onDie e.1.1 e.1.2 die)).map (·.1)
  hit.foldl (fun s x =>
    let P := (s.store p).page x.1 x.2
    if !P.dirty || (s.store p).survives x.1 x.2 die then s
    else
      let mirrored := match (s.store p).brick? x.1 with | some B => B.mirror | none => false
      if mirrored && (s.twin p).mirrors then
        (s.modTwin p (fun T => { T with pageReqs := T.pageReqs ++ [x] })).mirror p 9 (natBE 8 (pageAddr x.1 x.2))
      else s.markLost p x.1 x.2 3) s

/-- A controller die is lost (R45, R528): interrupt, operations in flight on it fail, its dirty pages are settled, and its partition
drains, enters SERVICE or only logs. `code` names the record of R793. -/
def State.dieLost (s : State) (d cause : Nat) (code : LogCode) : State :=
  match s.die? d with
  | none => s
  | some D =>
    if D.lost then s
    else
      let s := s.modDie d (fun D => { D with lost := true, lostCause := cause })
      let s := (s.log code (srcDie d) (subject (some d) 4 0 0 0 [])).int .dieLost
      match s.partOfDie d with
      | none => s
      | some p =>
        if s.pkg != .on then s
        else
          let ids := ((s.remote p).ops.filter (fun o => o.die == d)).map (·.id)
          let s := ids.foldl (fun s i => match s.op? p i with
            | some o => s.endOp p i |>.release p (if o.accepted.isSome then o.charged.length else 0)
            | none => s) s
          let s := s.modRd d (fun r => { r with qps := [] })
          let s := s.modStore p (fun S => { S with out := S.out ++ [.die d] })
          let s := s.settleLostDie p d
          let s := s.modFlash p (fun F => { F with chOut := F.chOut ++ F.channels.filter (fun c => c.1 == d && !F.chOut.contains c) })
          match s.mode p with
          | .build | .restore => (s.addCause p .dieLost).enterService p .dieLost
          | .serve | .solo => s.startDrain p .dieLost
          | .drain => (s.addCause p .dieLost).leaveDrain p
          | .service => s

end Sys2Proof.Machine
end

