-- ==== Sys2Proof/Machine/TwinStream.lean ====
section
/-! DEFINITION. How a twin works off its stream (R397-R401, R408, R409): entries applied page by page in order, digests compared (R415-R417), CONFIRM
and PAGE_REQ answered once what came before is placed (R412, R413). -/
namespace Sys2Proof.Machine
open Sys2Proof

/-! ### Replicas -/

/-- The profile of the lowest-numbered window open over a brick: it says how a replica's page is zero-filled and which drain priority it has, as no
message carries them (log 38). -/
def State.coverProfile (s : State) (p b : Nat) : Profile :=
  match (s.remote p).windows.filter (fun e => e.2.valid && !e.2.far && decide (e.2.firstBrick ≤ b) &&
      decide (b * 2097152 < e.2.firstBrick * 2097152 + e.2.baseVa % 2097152 + e.2.length)) with
  | [] => { keystone := false, durability := 1, encipher := false, prio := 0 }
  | e :: l => s.winProfile p (l.foldl (fun m x => if x.1 < m.1 then x else m) e).2

/-- The line numbers of a mask, in increasing order. -/
def maskLines (m : BitVec 64) : List Nat := (List.range 64).filter (fun k => m.getLsbD k)

/-- A page that the twin's stream changes holds a charge like any other dirty page (log 39). -/
def State.chargeReplica (s : State) (p : Nat) : State :=
  s.modRemote p (fun r => { r with budget := { r.budget with charged := r.budget.charged + 1, homeFree := r.budget.homeFree - 1 } })

/-- The key half and cursor of a rekeyed page, and its bit in the flash map (R580). -/
def State.adoptRekey (s : State) (p : Nat) (r : ReplBody) : State :=
  match r.rekey with
  | none => s
  | some (h, cur) =>
    (s.modBrick p r.brick (fun B => { B with keyHalf := h, cursor := cur })).modFlash p (fun F =>
      { F with fmap := aupd F.fmap (r.brick, r.page / 4) (fun m => { m with keyHalf := modNth m.keyHalf (r.page % 4) (fun _ => h) }) })

/-- Places a REPLICATE's lines, in stored form (R399, R580). No message tells the twin which ring entries they hold: the next indices of the rings follow from the laps
found there, which is the model's choice (R401, log 193). -/
def State.placeReplica (s : State) (p : Nat) (r : ReplBody) : State :=
  ((s.mergePageBy p r.brick r.page (s.coverProfile p r.brick) (fun s =>
    ((maskLines r.mask).zip r.lines).foldl (fun s x => s.putWhole p r.brick r.page x.1 x.2) s)).adoptRekey p r).followRings p r.brick r.page
    (4 * r.lines.length)

/-- Whether an old line that a REPLICATE replaces must be rebuilt first (R204). -/
def State.replicaBlocked (s : State) (p : Nat) (r : ReplBody) : Bool :=
  let P := (s.store p).page r.brick r.page
  P.filled && P.poison == 0 && (maskLines r.mask).any (fun k => s.lineBlocked p r.brick r.page k true)

/-- Takes a REPLICATE body out of the twin's store. -/
def State.dropReplica (s : State) (p n : Nat) : State :=
  s.modTwin p (fun T => { T with replicas := adel T.replicas n, held := T.held.filter (fun h => h.replica != n) })

/-- What follows the placement of a follower's own replica: its operation has that page behind it, or ends (R398). -/
def State.ownPlaced (s : State) (p : Nat) (h : HeldWrite) : State :=
  match s.op? p h.opId with
  | none => s
  | some o =>
    if o.atomic then (s.endOp p o.id).atomicReply p o h.orig
    else (s.modOp p o.id (fun o => match h.ring with
      | some i => { o with ring := some i, ringDue := false }
      | none => { o with merged := o.merged ++ [(h.brick, h.page)] })).finishHeld p o.id

/-! ### Entries -/

/-- The live operation of a twinned QP under a PSN. -/
def State.streamOp (s : State) (p : Nat) (e : ApplyEntry) (ok : Op → Bool) : Option Op :=
  (s.remote p).ops.find? (fun o => o.qpn.toNat == e.id && o.psn == e.psn && o.farFrom.isNone && ok o)

/-- Whether the packet of an entry is still to come: its QP stands before that PSN. -/
def State.yetToCome (s : State) (e : ApplyEntry) : Bool :=
  match s.qp? (BitVec.ofNat 24 e.id) with
  | some c => (c.state == .ready || c.state == .connecting) && decide (0 ≤ psnDiff e.psn c.epsn)
  | none => false

/-- Whether the follower has found the packet of an entry fatal, which the lead has applied (R409). -/
def State.contradicted (s : State) (e : ApplyEntry) : Bool :=
  match s.qp? (BitVec.ofNat 24 e.id) with
  | some c => c.fatalAt == some e.psn
  | none => false

/-- R417 on a follower: it reports, stops, and enters RESTORE to be resynchronised. -/
def State.diverge (s : State) (p : Nat) : State :=
  let s := s.report p 2
  if (s.twin p).role == .follower then s.fenced p .twinFenced else s

/-- Whether an entry's page belongs to the copy set and its unit has not come yet (R431). -/
def TwinP.uncopied (T : TwinP) (b g : Nat) : Bool := T.resync && T.copySet.contains b && !T.unitsIn.contains (b, g / 4)

/-- An entry that is not to be applied, since the unit to come holds its merge (R431): the write's page counts as placed. -/
def State.skipEntry (s : State) (p : Nat) (e : ApplyEntry) : State :=
  match e.kind with
  | .inStep =>
    match s.streamOp p e (fun o => o.writes && o.accepted.isSome) with
    | some o => if o.atomic then (s.release p 1).endOp p o.id else
        ((s.release p 1).modOp p o.id (fun o => { o with merged := o.merged ++ [(e.page / 512, e.page % 512)] })).finishHeld p o.id
    | none => s
  | .replica => s.dropReplica p e.id
  | _ => s

/-- IN_STEP (R397, R399, R408). -/
def State.applyInStep (s : State) (p : Nat) (e : ApplyEntry) : State × Bool :=
  if s.contradicted e then (s.diverge p, true)
  else
    let b := e.page / 512
    let g := e.page % 512
    match s.streamOp p e (·.writes) with
    | none => (s, !s.yetToCome e)
    | some o =>
      if o.accepted.isNone then (s, false)
      else
        match (o.spans.zipIdx).find? (fun x => x.1.1 == b && x.1.2.1 == g) with
        | none => (s, true)
        | some (x, _) =>
          let off := x.2.2.1
          let n := x.2.2.2
          if o.merged.contains (b, g) then (s, true)
          else if !s.inOrder p o then (s, false)
          else if !s.pageReady p b g off n then (s.prepare p o.id b g off n, false)
          else
          let s := s.captureHeld p o
          if o.atomic then
            let orig : BitVec 64 := BitVec.ofNat 64 (leNat (s.plainBytes p b g off 8 o.profile.encipher))
            let writes := (atomicNew o.kind orig).isSome
            let s := s.runAtomic p o
            (s.foldDigest p e (if writes then s.storedBytes p b g off 8 else []), true)
          else
            let before := ((o.spans.takeWhile (fun y => y != x)).map (fun y => y.2.2.2)).sum
            let s := s.mergePage p b g off (slice o.data before n) o.profile o.keys
            let s := s.modOp p o.id (fun o => { o with merged := o.merged ++ [(b, g)] })
            ((s.foldDigest p e (s.storedBytes p b g off n)).finishHeld p o.id, true)

/-- REPLICA (R398, R399): on the lead, the follower's lines are ordered here, and the entry goes out under the same number. -/
def State.applyReplica (s : State) (p : Nat) (e : ApplyEntry) : State × Bool :=
  match aget (s.twin p).replicas e.id with
  | none => (s, true)
  | some (_, r) =>
    if !s.pageReady p r.brick r.page 0 0 then (s.prepare p 0 r.brick r.page 0 0, false)
    else if s.replicaBlocked p r then (s.rebuildDue p r.brick [r.page], false)
    else
      let own := (s.twin p).held.find? (fun h => h.replica == e.id)
      let s := (if own.isSome then s else s.chargeReplica p).placeReplica p r
      let s := s.dropReplica p e.id
      if (s.twin p).lead then
        let e := { e with epoch := epochNow s }
        (((if (s.twin p).mirrors then s.entry p e else s).foldDigest p e r.lines.flatten), true)
      else
        let s := s.foldDigest p e r.lines.flatten
        (match own with | some h => s.ownPlaced p h | none => s, true)

/-- READ (R408): the page as it stands after the entries before it; the response leaves once every page has been read. -/
def State.applyRead (s : State) (p : Nat) (e : ApplyEntry) : State × Bool :=
  let b := e.page / 512
  let g := e.page % 512
  match s.streamOp p e (fun o => o.kind == .read) with
  | none => (s, !s.yetToCome e)
  | some o =>
    match o.spans.find? (fun x => x.1 == b && x.2.1 == g) with
    | none => (s, true)
    | some x =>
      match s.pageRead p o b g x.2.2.1 x.2.2.2 with
      | .wait => (s.askRead p o b g, false)
      | .lost => (s.opError p o 0x30, true)
      | _ =>
        let bytes := s.readBytes p o b g x.2.2.1 x.2.2.2
        let o' := { o with captured := o.captured ++ [((b, g), bytes)] }
        let s := (s.touchAge p b).modOp p o.id (fun _ => o')
        if o'.spans.all (fun y => ahas o'.captured (y.1, y.2.1)) then
          let mtu := match s.qp? o.qpn with | some c => mtuBytes c.pmtu | none => 4096
          ((s.endOp p o.id).sendRead p o mtu (o'.spans.map (fun y => agetD o'.captured (y.1, y.2.1) [])).flatten, true)
        else (s, true)

/-- ERROR (R409): the QP enters ERROR at that PSN, once every packet before it has been decided here. -/
def State.applyError (s : State) (p : Nat) (e : ApplyEntry) : State × Bool :=
  match s.qp? (BitVec.ofNat 24 e.id) with
  | none => (s, true)
  | some c => if 0 < psnDiff e.psn c.epsn then (s, false) else (s.qpError p c.qpn e.psn e.cause, true)

/-- RING (R401): the ring entry of a keystone whose value is placed, under the lead's index. -/
def State.applyRing (s : State) (p : Nat) (e : ApplyEntry) : State × Bool :=
  match s.streamOp p e (fun o => match o.kind with | .writeImm _ => true | _ => false) with
  | none => (s, !s.yetToCome e)
  | some o =>
    match s.ringOf p o with
    | none => (s, true)
    | some (r, v) =>
      let a := ringAddr r v e.page
      let b := a / 2097152
      let g := a / 4096 % 512
      if o.accepted.isNone || !(o.spans.all (fun x => !s.mirrored p x.1 || o.merged.contains (x.1, x.2.1))) then (s, false)
      else if !s.pageReady p b g (a % 4096) 16 then (s.prepare p o.id b g (a % 4096) 16, false)
      else
        let s := (s.placeRing p o r v e.page).modOp p o.id (fun o => { o with ring := some e.page, ringDue := false })
        ((s.foldDigest p e (s.storedBytes p b g (a % 4096) 16)).finishHeld p o.id, true)

/-- The page whose order an entry takes part in; none where it has none of its own yet. -/
def State.entryPage (s : State) (p : Nat) (e : ApplyEntry) : Option (Nat × Nat) :=
  match e.kind with
  | .error => none
  | .ring =>
    match s.streamOp p e (fun o => match o.kind with | .writeImm _ => true | _ => false) with
    | some o => (s.ringOf p o).map (fun rv => let a := ringAddr rv.1 rv.2 e.page; (a / 2097152, a / 4096 % 512))
    | none => none
  | _ => some (e.page / 512, e.page % 512)

/-- One entry applied, if it can be: the second result says whether it is done with. -/
def State.applyEntry (s : State) (p : Nat) (e : ApplyEntry) : State × Bool :=
  let copied := match s.entryPage p e with | some x => !(s.twin p).uncopied x.1 x.2 | none => true
  if !copied then (s.skipEntry p e, true)
  else
    match e.kind with
    | .inStep => s.applyInStep p e
    | .replica => s.applyReplica p e
    | .read => s.applyRead p e
    | .error => s.applyError p e
    | .ring => s.applyRing p e

/-- The stream worked off (R399): entries in order, each page in its own; an entry that cannot be applied yet holds back those behind it on its page. -/
def State.applyStream (s : State) (p : Nat) : State :=
  let r := (s.twin p).stream.foldl (fun (acc : State × List (Nat × ApplyEntry) × List (Nat × Nat)) x =>
    let s := acc.1
    let pg := s.entryPage p x.2
    let blocked := match pg with | some y => acc.2.2.contains y | none => false
    let put (s : State) : State × List (Nat × ApplyEntry) × List (Nat × Nat) :=
      (s, acc.2.1 ++ [x], match pg with | some y => acc.2.2 ++ [y] | none => acc.2.2)
    if blocked then put s
    else
      match s.applyEntry p x.2 with
      | (s, true) => (s, acc.2)
      | (s, false) => put s) (s, [], [])
  if (r.1.twin p).paired && ((r.1.twin p).role != .fenced || (r.1.twin p).resync) then r.1.modTwin p (fun T => { T with stream := r.2.1 }) else r.1

/-! ### Digests (R415-R417) -/

/-- The body of a DIGEST message (R415). -/
def digestBytes (e : Nat) (x : Nat × BitVec 128) : List Byte := natBE 4 e ++ natBE 8 x.1 ++ natBE 16 x.2.toNat

/-- A follower compares the oldest DIGEST of the lead once it has applied as many entries of its epoch (R416). -/
def State.compareDigest (s : State) (p : Nat) : State :=
  let T := s.twin p
  match T.digest.theirs with
  | [] => s
  | (e, x) :: rest =>
    let mine := T.digest.at_ e
    if !T.follows || mine.1 < x.1 then s
    else
      let s := s.mirror p 5 (digestBytes e mine)
      if mine == x then
        s.modTwin p (fun T => { T with digest := { T.digest.close e with theirs := rest, lastMatched := e, matched := true } })
      else (s.modTwin p (fun T => { T with digest := { T.digest with theirs := rest, matched := false } })).diverge p

/-! ### What is placed, and what waits for it -/

/-- The highest MSEQ received whose writes are all placed (R412 CONFIRM). -/
def TwinP.placed (T : TwinP) : Nat :=
  let waits := (T.stream.filter (fun x => x.2.kind != .read && x.2.kind != .error)).map (·.1) ++ (T.replicas.filter (fun r => r.2.1 != 0)).map (·.2.1)
  waits.foldl (fun m n => min m (n - 1)) T.delivered

/-- A CONFIRM, where there is something new to confirm (log 40: one CONFIRM draws no other). -/
def State.sendConfirm (s : State) (p : Nat) : State :=
  let T := s.twin p
  let n := T.placed
  if T.paired && T.confirmDue && T.confirmSent < n then
    (s.mirror p 3 (natBE 8 n)).modTwin p (fun T => { T with confirmSent := n, confirmDue := n < T.delivered })
  else s

/-- A page in stored form: from its frame, else from flash. -/
def State.pageBytes (s : State) (p b g : Nat) : List Byte :=
  let S := s.store p
  if S.resident b && (S.page b g).filled then s.storedBytes p b g 0 4096
  else Memory.readN (S.flash.pageData b g) 0 4096

/-- PAGE_REQs whose earlier entries are all applied are answered (R413). -/
def State.answerPages (s : State) (p : Nat) : State :=
  let T := s.twin p
  let n := T.placed
  let s := s.modTwin p (fun T => { T with pageWaits := T.pageWaits.filter (fun w => decide (n < w.1)) })
  (T.pageWaits.filter (fun w => decide (w.1 ≤ n))).foldl (fun s w =>
    s.mirror p 0x0A (natBE 8 (pageAddr w.2.1 w.2.2) ++ s.pageBytes p w.2.1 w.2.2)) s

/-- A follower's writes that waited for a page of theirs to be free for the next REPLICATE. -/
def State.retryHeld (s : State) (p : Nat) : State :=
  if (s.twin p).follows then
    ((s.remote p).ops.filter (fun o => o.writes && o.accepted.isSome && s.heldByStream p o && !s.twinnedOp o)).foldl (fun s o => s.tryPlace p o.id) s
  else s

/-- Everything that the twin can do after something has changed: its stream, its digests, and what waited for them. Without a pairing nothing. -/
def State.twinSettle (s : State) (p : Nat) : State :=
  if (s.twin p).paired then ((((s.applyStream p).compareDigest p).retryHeld p).answerPages p).sendConfirm p else s

end Sys2Proof.Machine
end

