-- ==== Sys2Proof/Machine/FlashOps.lean ====
section
/-! DEFINITION. Flash operations that several families share (08): where a unit lies, valid units, programs, write-backs, bad blocks and
retired LUNs, the share of relocation, over-provisioning, the erase condition. -/
namespace Sys2Proof.Machine
open Sys2Proof

/-- The flash tier of a partition. -/
def State.flash (s : State) (p : Nat) : Flash := (s.store p).flash

/-- The stripe group and member of a location's LUN (R323). -/
def Flash.memberOf (F : Flash) (l : Loc) : Nat × Nat :=
  let i := (l.ce * F.luns + l.lun) * F.channels.length + l.ch
  (i / 16, i % 16)

/-- The superblock that a location lies in: its group, its number in the group, and the member. -/
def Flash.whereIs (F : Flash) (l : Loc) : Option (Nat × Nat × Nat) :=
  let mj := F.memberOf l
  match aget F.groups mj.1 with
  | none => none
  | some g => (g.sbs.find? (fun e => e.2.blocks[mj.2]? == some l.block)).map (fun e => (mj.1, e.1, mj.2))

/-- Whether two locations lie in one block. -/
def Loc.sameBlock (a b : Loc) : Bool := a.ch == b.ch && a.ce == b.ce && a.lun == b.lun && a.block == b.block

/-- Whether a location lies on a block of a superblock of a group. -/
def Flash.inSb (F : Flash) (m : Nat) (sb : Superblock) (l : Loc) : Bool :=
  let mj := F.memberOf l
  mj.1 == m && sb.blocks[mj.2]? == some l.block

/-- Units whose flash-map entry points into a superblock: its valid units (R334). -/
def Flash.validIn (F : Flash) (m : Nat) (sb : Superblock) : List ((Nat × Nat) × FMap) := F.fmap.filter (fun e => F.inSb m sb e.2.loc)

/-- Whether a location's LUN or channel is out of service. -/
def Flash.locOut (F : Flash) (l : Loc) : Bool :=
  F.lunsOut.contains (l.ch, l.ce, l.lun) || (match F.channels[l.ch]? with | some c => F.chOut.contains c | none => true)

/-- Whether a unit on a LUN out of service can be rebuilt from its row: no second member of the row is unreadable (R344). -/
def Flash.rowWhole (F : Flash) (l : Loc) : Bool :=
  match F.whereIs l with
  | none => false
  | some (m, i, j) =>
    match (aget F.groups m).bind (fun g => aget g.sbs i) with
    | none => false
    | some sb => (List.range 16).all (fun k => k == j ||
        (let q := F.member m k
         !F.locOut { ch := q.1, ce := q.2.1, lun := q.2.2, block := sb.blocks.getD k 0, page := l.page }))

/-- Footers that must be written before a superblock that has just lost its last valid unit may be erased: one whose checkpoint starts
afterwards (R376). -/
def Ckpt.mark (c : Ckpt) : Nat := c.gen + b2n c.running

/-- Notes the superblocks that have no valid unit left (R376). -/
def State.noteInvalid (s : State) (p : Nat) : State :=
  s.modStore p (fun S =>
    let F := S.flash
    { S with flash := { F with groups := F.groups.map (fun g => (g.1, { g.2 with sbs := g.2.sbs.map (fun e =>
        (e.1, if (e.2.state == .closed || e.2.state == .drain) && e.2.invalidAt.isNone && (F.validIn g.1 e.2).isEmpty
              then { e.2 with invalidAt := some S.ckpt.mark } else e.2)) })) } })

/-- Erased superblocks of a group above its drain reserve. -/
def Group.spare (g : Group) : Nat := g.erased.length - g.reserve

/-- The relocation share of every group (R338): 75 % below two erased superblocks above the reserve, 25 % again at four; the budget follows. -/
def State.shareCheck (s : State) (p : Nat) : State :=
  let F := s.flash p
  let groups := F.groups.map (fun e => (e.1, { e.2 with heavy :=
    if e.2.gone || e.2.readOnly then false else if e.2.spare < 2 then true else if 4 ≤ e.2.spare then false else e.2.heavy }))
  if groups == F.groups then s
  else
    let was := s.wbShare p
    let s := s.modFlash p (fun F => { F with groups := groups })
    if s.wbShare p == was then s else s.recompute

/-- Blocks in service: those of groups that take programs, without the bad ones (log 22). -/
def Flash.goodBlocks (F : Flash) : Nat :=
  (F.groups.map (fun e =>
    if e.2.readOnly || e.2.gone then 0
    else 16 * F.blocks - (F.badBlocks.filter (fun b => (F.memberOf { ch := b.1, ce := b.2.1, lun := b.2.2.1, block := 0, page := 0 }).1 == e.1)).length)).sum

/-- Bytes that the good blocks hold before over-provisioning (R333). -/
def Flash.rawBytes (F : Flash) : Nat := F.goodBlocks * F.ppb * 16384 * 15 / 16

/-- Bricks that a tier exports under an over-provisioning in tenths of a percent (R333). -/
def Flash.capacity (F : Flash) (op : Nat) : Nat := F.goodBlocks * F.ppb * 16384 * 15 * (1000 - op) / (16 * 1000 * 2097152)

/-- Whether the effective over-provisioning is below `n` percent (R340). -/
def Flash.opBelow (F : Flash) (bricks n : Nat) : Bool := decide (F.rawBytes * (100 - n) < bricks * 2097152 * 100)

/-- FLASH_SHORT below 4 %, FLASH_EXHAUSTED below 2 % and lifted at 4 % (R340, R529). -/
def State.opCheck (s : State) (p : Nat) : State :=
  let F := s.flash p
  let n := (s.store p).brickCount
  let short := F.opBelow n 4
  let s : State :=
    if short && !F.short then ((s.log .flashShort (srcPart p) (values [])).int .flashShort).modFlash p (fun F => { F with short := true })
    else if !short && F.short then s.modFlash p (fun F => { F with short := false }) else s
  if F.opBelow n 2 then s.setExhausted p true else if !short then s.setExhausted p false else s

/-! ### Programs -/

/-- The LUN that a location lies on: channel, CE and LUN position. -/
def Loc.onLun (l : Loc) : Nat × Nat × Nat := (l.ch, l.ce, l.lun)

/-- The work that stands at the LUNs, with its class (R332): reads for fills, flash-direct reads and rebuilds 2, hamper fills 3, write-backs 4, relocation 5,
erases 6. Drain programs, class 1, are made within one step (log 106). -/
def Flash.work (F : Flash) : List ((Nat × Nat × Nat) × Nat) :=
  F.reads.filterMap (fun r => (F.entry r.brick r.unit).map (fun e => (e.loc.onLun, if r.hamper.isSome && r.waiting.isEmpty then 3 else 2))) ++
  F.wbs.map (fun w => (w.loc.onLun, if w.why == .relocate then 5 else 4)) ++
  ((F.groups.map (fun g => (g.2.sbs.filter (fun e => e.2.state == .erasing)).map (fun _ => (List.range 16).map (fun j => (F.member g.1 j, 6))))).flatten).flatten

/-- Whether a LUN has work of a class before `cls` (R332): what stands behind it does not end yet. While a packet of the partition waits for budget, reads do not
hold a write-back up (`share`; log 188). -/
def Flash.ahead (F : Flash) (lun : Nat × Nat × Nat) (cls : Nat) (share : Bool) : Bool :=
  F.work.any (fun w => w.1 == lun && decide (w.2 < cls) && !(share && cls == 4 && decide (w.2 ≤ 3)))

/-- Whether any packet of a partition waits for budget (R144, R151, R332). -/
def State.packetWaits (s : State) (p : Nat) : Bool := (s.remote p).ops.any (fun o => o.writes && o.accepted.isNone && o.sseq.isNone)

/-- The next data unit of an open superblock of a kind, in the groups' rotation from the one whose turn it is, groups whose LUN for that unit is busy skipped
(R330); where every one is busy the first takes it. -/
def Flash.nextUnit (F : Flash) (st : SbState) (reserve : Bool) (skip : Option Nat) : Option (Nat × (Nat × Loc × Flash)) :=
  let n := F.groups.length
  let takes (idle : Bool) : Option (Nat × (Nat × Loc × Flash)) :=
    (((List.range n).map (fun i => (F.turn + i) % n)).filter (fun m => some m != skip)).findSome? (fun m =>
      match F.takeUnit m st reserve with
      | some r => if idle && F.work.any (fun w => w.1 == r.2.1.onLun) then none else some (m, r)
      | none => none)
  match takes true with
  | some r => some r
  | none => takes false

/-- A program into the next data unit: its group, superblock, location and SEQ. -/
def State.takeProgram (s : State) (p : Nat) (st : SbState) (reserve : Bool) (skip : Option Nat) : Option ((Nat × Nat × Loc × Nat) × State) :=
  match (s.flash p).nextUnit st reserve skip with
  | none => none
  | some (m, i, l, F) =>
    some ((m, i, l, F.seq), s.modFlash p (fun _ => { F with seq := F.seq + 1, turn := (m + 1) % max 1 F.groups.length }))

/-- The same in a named group. -/
def State.takeIn (s : State) (p m : Nat) (st : SbState) : Option ((Nat × Nat × Loc × Nat) × State) :=
  match (s.flash p).takeUnit m st false with
  | none => none
  | some (i, l, F) => some ((m, i, l, F.seq), s.modFlash p (fun _ => { F with seq := F.seq + 1, turn := (m + 1) % max 1 F.groups.length }))

/-- A unit's new location in the flash map, with its contents (R326, R330). The copy that it supersedes stays in flash until its block is
erased: a replay finds both (R376). -/
def State.mapUnit (s : State) (p b u : Nat) (l : Loc) (cws : List Codeword) : State :=
  ((s.modFlash p (fun F =>
    { F with fmap := aset F.fmap (b, u) { loc := l, keyHalf := cws.map (·.keyHalf) },
             units := aset F.units l cws })).track p 1 (b / 4)).noteInvalid p

/-! ### Write-backs (R328-R331) -/

/-- DIRTY pages of a unit. -/
def StoreP.dirtyIn (S : StoreP) (b u : Nat) : List Nat := ((List.range 4).map (fun i => 4 * u + i)).filter (fun g => (S.page b g).dirty)

/-- Whether a write-back of a unit is in flight (R329). -/
def Flash.inFlight (F : Flash) (b u : Nat) : Bool := F.wbs.any (fun w => w.brick == b && w.unit == u && w.why != .relocate)

/-- A write-back of a unit begins: snapshot and program at a place that has been taken (R328-R330). -/
def State.beginWriteBack (s : State) (p b u : Nat) (why : WbWhy) (pl : Nat × Nat × Loc × Nat) : State :=
  let cws := s.snapshot p b u pl.2.2.2
  let dirty := (s.store p).dirtyIn b u
  let s := ((List.range 4).map (fun i => 4 * u + i)).foldl (fun s g => s.touchLines p b g ((s.store p).errLines b g)) s
  let s := dirty.foldl (fun s g => s.modPage p b g (fun P => { P with wbBusy := true, mergedSince := false })) s
  s.modFlash p (fun F => { F with wbs := F.wbs ++
    [{ brick := b, unit := u, group := pl.1, sb := pl.2.1, loc := pl.2.2.1, cws := cws, dirty := dirty, why := why, fails := 0, at_ := s.now, source := none }] })

/-- Whether a page has a line on a hot channel (R244). -/
def State.pageHot (s : State) (p b g : Nat) : Bool :=
  match (s.store p).courseOf b with
  | some (C, f) => s.courseHot C && (List.range (64 + C.p)).any (fun k =>
      let pl := placeOf C f g k
      match aget (s.dram pl.die).channels pl.ch with | some x => x.hot | none => false)
  | none => false

/-- The order of write-backs (R151, R244): pages with a line on a hot channel before every other, and, while a packet waits, the one DIRTY longest first. Pages
whose unit is being written back, and pages that a rebuild holds, stand aside. -/
def State.wbFirst (s : State) (p b u : Nat) : Bool :=
  let S := s.store p
  let all := S.pages.filter (fun e => e.2.dirty && !e.2.held && !S.flash.inFlight e.1.1 (e.1.2 / 4))
  let hot := all.filter (fun e => s.pageHot p e.1.1 e.1.2)
  let l := if hot.isEmpty then all else hot
  l.any (fun e => e.1.1 == b && e.1.2 / 4 == u && (!s.packetWaits p || l.all (fun x => decide (e.2.dirtySince ≤ x.2.dirtySince))))

/-- Whether a partition may start a program of its own: not halted, not in DRAIN (R339, R366, R511). -/
def State.mayProgram (s : State) (p : Nat) : Bool := s.live p && s.pkg == .on && s.mode p != .drain && s.mode p != .build

/-- Pages of a unit that a read under R186 finds a FLAGGED data line in: they are to be rebuilt before the unit is written back (R205). -/
def State.flaggedIn (s : State) (p b u : Nat) : List Nat :=
  ((List.range 4).map (fun i => 4 * u + i)).filter (fun g => ((s.store p).page b g).filled && ((s.store p).page b g).poison == 0 &&
    (List.range 64).any (fun k => (s.lineOutcome p b g k).1 == .flagged))

/-- A write-back of a unit into the next group that takes it; nothing while one is in flight or no group has room. -/
def State.writeBackUnit (s : State) (p b u : Nat) (why : WbWhy) : State :=
  if (s.flash p).inFlight b u || !s.mayProgram p then s
  else if !(s.flaggedIn p b u).isEmpty then s.rebuildDue p b (s.flaggedIn p b u)
  else
    match s.takeProgram p .openWrite false none with
    | some (pl, s) => s.beginWriteBack p b u why pl
    | none => s

/-- The next unit of an eviction: the lowest with a DIRTY page, once none of the brick's is in flight (R293, R295). -/
def State.evictStep (s : State) (p b : Nat) : State :=
  let S := s.store p
  if S.flash.wbs.any (fun w => w.brick == b && w.why != .relocate) then s
  else
    match (List.range 128).find? (fun u => !(S.dirtyIn b u).isEmpty) with
    | some u => s.writeBackUnit p b u .evict
    | none => s

/-- What a completed write-back does to a page of its snapshot (R71, R148): clean and refunded, unless merged into since. -/
def State.pageWritten (s : State) (p b g : Nat) : State :=
  let P := (s.store p).page b g
  if !P.dirty then s.modPage p b g (fun P => { P with wbBusy := false, mergedSince := false })
  else
    let s := s.modPage p b g (fun P => { P with wbBusy := false, mergedSince := false, dirty := P.mergedSince, charges := P.charges - 1 })
    s.release p (min 1 P.charges)

/-- A write-back that ends without a copy: its pages stay DIRTY (R366). -/
def State.pageUnwritten (s : State) (p b g : Nat) : State :=
  let P := (s.store p).page b g
  let s := s.modPage p b g (fun P => { P with wbBusy := false, mergedSince := false, charges := min 1 P.charges })
  s.release p (P.charges - 1)

/-! ### Relocation -/

/-- Whether a unit is being relocated. -/
def Flash.relocating (F : Flash) (b u : Nat) : Bool := F.wbs.any (fun w => w.brick == b && w.unit == u && w.why == .relocate)

/-- Begins the relocation of one unit: into its group's relocation superblock, or, from a group that takes no programs, another's (R334,
R346, R376: SEQ and headers are copied). -/
def State.relocateUnit (s : State) (p b u : Nat) : State :=
  let F := s.flash p
  match F.entry b u with
  | none => s
  | some e =>
    if F.relocating b u then s
    else
      let m := (F.memberOf e.loc).1
      let take := match s.takeIn p m .openReloc with
        | some r => some r
        | none => if (match aget F.groups m with | some g => g.readOnly || g.gone | none => true) then s.takeProgram p .openReloc false (some m) else none
      match take with
      | none => s
      | some (pl, s) =>
        s.modFlash p (fun F => { F with wbs := F.wbs ++
          [{ brick := b, unit := u, group := pl.1, sb := pl.2.1, loc := pl.2.2.1, cws := agetD F.units e.loc [], dirty := [], why := .relocate, fails := 0,
             at_ := s.now, source := some e.loc }] })

/-- A relocated copy is in flash: the map follows only if it still names the old place (R335). -/
def State.relocated (s : State) (p : Nat) (w : WriteBack) : State :=
  let F := s.flash p
  let s := s.modFlash p (fun F => { F with urgent := F.urgent.filter (· != (w.brick, w.unit)) })
  match F.entry w.brick w.unit with
  | some e => if some e.loc == w.source then s.mapUnit p w.brick w.unit w.loc w.cws else s.noteInvalid p
  | none => s.noteInvalid p

/-- The tenant of a brick, metered once for a flash unit (R349, R496). -/
def State.meterUnit (s : State) (p b idx : Nat) : State := s.meter p (s.homeDie p) ((s.store p).tenantOf b) idx 1

/-! ### Bad blocks, LUNs (R345, R346) -/

/-- The lowest-numbered good block of a LUN that is in no superblock (log 23). -/
def Flash.freeBlock (F : Flash) (m j : Nat) : Option Nat :=
  let q := F.member m j
  let used := match aget F.groups m with | some g => g.sbs.map (fun e => e.2.blocks.getD j F.blocks) | none => []
  let bad := (F.badBlocks.filter (fun b => b.1 == q.1 && b.2.1 == q.2.1 && b.2.2.1 == q.2.2)).map (·.2.2.2)
  let taken := used ++ bad
  let f := firstFree taken taken.length 0
  if f < F.blocks then some f else none

/-- A LUN is retired: its group becomes read-only, the budget and the over-provisioning are computed anew (R346, R357). -/
def State.retireLun (s : State) (p ch ce lun : Nat) : State :=
  let F := s.flash p
  if F.lunsOut.contains (ch, ce, lun) then s
  else
    let m := (F.memberOf { ch := ch, ce := ce, lun := lun, block := 0, page := 0 }).1
    let s := s.modFlash p (fun F => { F with lunsOut := F.lunsOut ++ [(ch, ce, lun)],
                                             groups := aupd F.groups m (fun g => { g with readOnly := true, heavy := false }) })
    let die := match F.channels[ch]? with | some c => some c.1 | none => none
    ((s.log .lunRetired (srcPart p) (subject die 3 (match F.channels[ch]? with | some c => c.2 | none => ch) ce lun [])).recompute).opCheck p

/-- A superblock that loses a block: the LUN's next good block takes its place, or it closes early (R325, R345). -/
def Superblock.swap (sb : Superblock) (j : Nat) (new : Option Nat) (ppb : Nat) : Superblock :=
  match new with
  | some k => { sb with blocks := sb.blocks.set j k, erases := sb.erases.set j 0 }
  | none => { sb with state := if sb.state == .erased || sb.state == .erasing then sb.state else .closed, next := min (15 * ppb) (15 * ceilDiv sb.next 15),
                      xorRows := ceilDiv sb.next 15 }

/-- A block grows bad: listed, its valid units relocated, its place in its superblock given to another block (R345); a LUN with more than
2.5 % of its blocks bad retires (R346). -/
def State.growBad (s : State) (p : Nat) (l : Loc) : State :=
  let F := s.flash p
  let key := (l.ch, l.ce, l.lun, l.block)
  if F.badBlocks.contains key then s
  else
    let mj := F.memberOf l
    let new := F.freeBlock mj.1 mj.2
    let at_ := F.whereIs l
    let s := s.modFlash p (fun F => { F with badBlocks := F.badBlocks ++ [key], grown := F.grown ++ [key] })
    let s := (F.fmap.filter (fun e => e.2.loc.sameBlock l)).foldl (fun s e => s.relocateUnit p e.1.1 e.1.2) s
    let s := match at_ with
      | some (m, i, j) => s.modFlash p (fun F => { F with groups := aupd F.groups m (fun g => { g with sbs := aupd g.sbs i (fun sb => sb.swap j new F.ppb) }) })
      | none => s
    let n := ((s.flash p).badBlocks.filter (fun b => b.1 == l.ch && b.2.1 == l.ce && b.2.2.1 == l.lun)).length
    let s := if F.blocks * 25 < n * 1000 then s.retireLun p l.ch l.ce l.lun else s
    s.opCheck p

/-! ### Operations that waited -/

/-- Accepted operations that touch a brick are tried again. -/
def State.retryBrick (s : State) (p b : Nat) : State :=
  (((s.remote p).ops.filter (fun o => o.writes && o.accepted.isSome && o.spans.any (fun x => x.1 == b))).foldl (fun s o => s.tryPlace p o.id) s).twinSettle p

/-- Operations that wait for a frame are tried again, oldest first; those that have one leave the list (R289). -/
def State.retryFrames (s : State) (p : Nat) : State :=
  let s := s.takeMeta p
  let s := (((s.store p).frameWaits.foldl (fun s e => s.tryPlace p e.1) s).twinSettle p).clearLosts p
  s.modStore p (fun S => { S with frameWaits := S.frameWaits.filter (fun e => (s.waitBrick p e.1).isSome) })

end Sys2Proof.Machine
end

