-- ==== Sys2Proof/Machine/NvOps.lean ====
section
/-! DEFINITION. Sector erases of the NV store with the erase journal (R670, R681, R682), boot anchors (R671, R672), option records (R673). -/
namespace Sys2Proof.Machine
open Sys2Proof

/-- A byte programmed: bits turn from 1 to 0 only, so that only an erased byte takes any value (R669). -/
def programByte (old new : Byte) : Byte := old &&& new

/-- Bytes programmed over what stands there; past its end they are erased, 0xFF. -/
def programBytes (old new : List Byte) : List Byte := (new.zipIdx).map (fun x => programByte (old.getD x.2 0xFF) x.1)

/-- A structure zeroised: every byte programmed to 0x00 (R669). -/
def zeroised (b : List Byte) : List Byte := b.map (fun x => programByte x 0)

/-- Where the records of a tenant's authorisation stand in the key-record region. -/
def authName (p tenant : Nat) : Nat := 131072 + 4096 * p + tenant

/-- A record appended to the key-record region: the key wrapped under STORAGE, then the commit marker (R571, R669). -/
def State.programKey (s : State) (name half : Nat) (key : List Byte) : State :=
  s.modSec (fun x => { x with keyRecs := x.keyRecs ++
    [{ name := name, half := half, wrapped := programBytes [] (kwWrap (agetD x.sys 0 []) key), commit := programByte 0xFF 0x5A }] })

/-- Every record of a name, of one half or of both, zeroised (R571, R669). -/
def State.zeroKey (s : State) (name : Nat) (half : Option Nat) : State :=
  s.modSec (fun x => { x with keyRecs := x.keyRecs.map (fun r =>
    if r.name == name && (half.isNone || half == some r.half) then { r with wrapped := zeroised r.wrapped, commit := programByte r.commit 0 } else r) })

/-- The erase count of an NV sector (R681). -/
def Nv.eraseCount (n : Nv) (sector : Nat) : Nat := agetD n.eraseCounts sector 0

/-- JSEQ of the next journal entry. -/
def Nv.nextJseq (n : Nv) : Nat := match n.journal.getLast? with | some e => e.jseq + 1 | none => 1

/-- One journal entry for an erase, done or under way. -/
def Nv.addEntry (n : Nv) (sector reason : Nat) (done : Bool) : Nv :=
  let c := n.eraseCount sector + 1
  { n with journal := n.journal ++ [{ sector := sector, reason := reason, count := c, jseq := n.nextJseq, done := done }],
           eraseCounts := aset n.eraseCounts sector c }

/-- An erase-intent entry. The journal uses sectors 8 and 9 alternately, 4,096 entries each; the last of each erases the other (R668, R681,
R682). -/
def Nv.intent (n : Nv) (sector reason : Nat) (done : Bool) : Nv :=
  let n := if n.nextJseq % 4096 == 0 then
      let k := n.nextJseq
      let m := n.addEntry (8 + k / 4096 % 2) 2 true
      { m with journal := m.journal.filter (fun e => decide (k < e.jseq + 4096)) }
    else n
  n.addEntry sector reason done

/-- NV_WEAR once a sector passes 100,000 erases (R670). -/
def State.wearCheck (s : State) (sector : Nat) : State :=
  if s.svc.nv.eraseCount sector == 100001 then s.log .nvWear srcSvc (subject none 9 0 0 (sector * 65536) [100001]) else s

/-- A sector erased within one step. -/
def State.nvErase (s : State) (sector reason : Nat) : State := (s.modNv (fun n => n.intent sector reason true)).wearCheck sector

/-- Sectors `lo` to `lo + n - 1` erased. -/
def State.nvEraseAll (s : State) (lo n reason : Nat) : State := (List.range n).foldl (fun s i => s.nvErase (lo + i) reason) s

/-- DONE programmed in a journal entry (R681). -/
def Nv.markDone (n : Nv) (jseq : Nat) : Nv := { n with journal := n.journal.map (fun e => if e.jseq == jseq then { e with done := true } else e) }

/-- An erase in the background whose time is over has ended, and its entry is DONE (R667, R681). -/
def State.settleErase (s : State) : State :=
  match s.svc.nv.erasing with
  | some e => if s.svc.nv.eraseStopped || s.now < s.svc.nv.eraseEnd then s else s.modNv (fun n => { n.markDone e.jseq with erasing := none })
  | none => s

/-- Whether a background erase may begin: none is under way, and the brown-out detector has not tripped (R670, R679). -/
def State.nvIdle (s : State) : Bool := !s.svc.brownOut && s.svc.nv.erasing.isNone

/-- A background erase begins under its intent; it takes a free time of at most 200 ms (R667, R681). -/
def State.beginErase (s : State) (sector reason : Nat) : State :=
  let d := s.free
  (d.2.modNv (fun n =>
    let m := n.intent sector reason false
    { m with erasing := m.journal.getLast?, eraseEnd := s.now + 1 + d.1 % (200 * cMs) })).wearCheck sector

/-- An entry that holds INTENT without DONE (R683): its margin blank-check passes, or the sector is erased again. -/
def State.recoverErase (s : State) (e : EraseEntry) : State :=
  let v := s.free
  let s := if v.1 % 2 == 0 then v.2 else (v.2.nvErase e.sector 5).log .sectorReerased srcSvc (subject none 9 0 0 (e.sector * 65536) [])
  s.modNv (fun n => n.markDone e.jseq)

/-- Every unfinished entry of the erase journal is settled (R680, R683). -/
def State.recoverErases (s : State) : State :=
  let s := (s.svc.nv.journal.filter (fun e => !e.done)).foldl (fun s e => s.recoverErase e) s
  s.modNv (fun n => { n with erasing := none, eraseStopped := false })

/-- The value in force of a boot anchor (R672). -/
def Nv.anchor (n : Nv) (typ : Nat) : Nat := anchorOf n.anchors typ
def State.anchor (s : State) (typ : Nat) : Nat := s.svc.nv.anchor typ

/-- ANCHOR_SEQ of the next record. -/
def Nv.nextAnchor (n : Nv) : Nat := match n.anchors.getLast? with | some a => a.seq + 1 | none => 1

/-- Whether an anchor write keeps R672: floors and the counter only rise, the revocation mask only gains bits. -/
def Nv.anchorOk (n : Nv) (typ value : Nat) : Bool :=
  if typ == 2 then n.anchor 2 &&& value == n.anchor 2
  else if 3 ≤ typ && typ ≤ 6 then decide (n.anchor typ ≤ value)
  else true

/-- The types of which a record stands. -/
def Nv.anchorTypes (n : Nv) : List Nat := (List.range 8).filter (fun t => n.anchors.any (fun a => a.typ == t))

/-- A boot anchor record appended; the record that finds its sector of 2,048 full goes to the other, behind one record per TYPE (R671, R672). -/
def State.addAnchor (s : State) (typ value : Nat) : State :=
  if !s.svc.nv.anchorOk typ value then s
  else
    let s := if s.svc.nv.anchorUsed < 2048 then s
      else
        let o := 1 - s.svc.nv.anchorSector
        (s.nvErase o 1).modNv (fun n =>
          let as := n.anchorTypes.zipIdx.map (fun x => ({ typ := x.1, seq := n.nextAnchor + x.2, value := n.anchor x.1 } : Anchor))
          { n with anchors := as, anchorSector := o, anchorUsed := as.length })
    s.modNv (fun n => { n with anchors := n.anchors ++ [{ typ := typ, seq := n.nextAnchor, value := value }], anchorUsed := n.anchorUsed + 1 })

/-- The option record in force; the values of R674 where none is. -/
def Nv.opt (n : Nv) : OptionRec :=
  match n.option with
  | some o => o
  | none => { gen := 0, vendorDebug := false, logCompat := false, logFrozen := false, i3cAddr := 0x3A, ownerHash := [], seqTable := [] }

/-- A new option record, with GEN one higher; the record that finds its sector of 64 full goes to the other (R673). -/
def State.writeOption (s : State) (f : OptionRec → OptionRec) : State :=
  let s := if s.svc.nv.optionUsed < 64 then s
    else
      let o := 1 - s.svc.nv.optionSector
      (s.nvErase (6 + o) 1).modNv (fun n => { n with optionSector := o, optionUsed := 0 })
  s.modNv (fun n => { n with option := some { f n.opt with gen := n.opt.gen + 1 }, optionUsed := n.optionUsed + 1 })

end Sys2Proof.Machine
end

