-- ==== Sys2Proof/Machine/MeterOps.lean ====
section
/-! DEFINITION. Tenant meters and their evidence (R496-R503), and the time state (R481-R491). -/
namespace Sys2Proof.Machine
open Sys2Proof

def State.modMeter (s : State) (p : Nat) (f : MeterP → MeterP) : State := s.modPart p (fun P => { P with meters := f P.meters })

/-- Sixteen counters, each the sum of two. -/
def addCounters (a b : List Nat) : List Nat := (List.range 16).map (fun i => a.getD i 0 + b.getD i 0)

/-- The counters of a meter index: what was restored, and every die's share since (R496, R499). -/
def State.meterTotal (s : State) (p idx : Nat) : List Nat :=
  (s.partDies p).foldl (fun acc d => match s.die? d with
    | some D => addCounters acc (agetD D.meters idx [])
    | none => acc) (addCounters (agetD (s.meterSt p).totals idx []) [])

/-- The lowest free meter index (R497): none holds it for a tenant, nor for 24 hours after one. -/
def State.freeMeter (s : State) (p : Nat) : Option Nat :=
  let m := s.meterSt p
  (List.range (s.nTenants p)).find? (fun i => !(m.index.any (fun e => e.2 == i && (match aget m.freeAt i with | some f => decide (fab s < f) | none => true))))

/-- Gives a tenant a meter index, its counters from zero (R496, R497). -/
def State.takeMeter (s : State) (p tenant i : Nat) : State :=
  let s := s.modPart p (fun P => { P with meters :=
    { P.meters with index := (tenant, i) :: P.meters.index.filter (fun e => e.2 != i), freeAt := adel P.meters.freeAt i, totals := adel P.meters.totals i } })
  (s.partDies p).foldl (fun s d => s.modDie d (fun D => { D with meters := adel D.meters i })) s

/-- The counters of every meter index in use. -/
def State.meterTotals (s : State) (p : Nat) : List (Nat × List Nat) := ((s.meterSt p).index.map (·.2)).map (fun i => (i, s.meterTotal p i))

/-- STATUS bits of a cut (R502). -/
def State.cutStatus (s : State) (p : Nat) (missed : Bool) : Nat :=
  (match s.time.mode with | .holdover => 1 | .lost => 2 | _ => 0) + 4 * b2n missed + 8 * b2n (s.meterSt p).restored + 16 * b2n s.time.arb

abbrev nsMinute : Nat := 60000000000
abbrev nsHour : Nat := 3600000000000

/-- The slot of a boundary in the ring (R499). -/
def cutSlot (b : Nat) : Nat := b / nsMinute % 1440

/-- The cut at a boundary (R498-R500). -/
def State.cutAt (s : State) (p b : Nat) : State :=
  let counts := s.meterTotals p
  let c : Cut := { b := b, status := s.cutStatus p false, counts := counts }
  (s.modMeter p (fun m => { m with ring := aset m.ring (cutSlot b) c, lastCut := some b, cutTotals := counts, restored := false })).track p 6 0

/-- Minutes that passed while the partition was down carry the last cut before them, marked MISSED (R500): those of the last 24 hours. -/
def State.fillMissed (s : State) (p : Nat) : State :=
  match (s.meterSt p).lastCut with
  | none => s
  | some last =>
    if !s.time.everLocked then s
    else
      let now := fab s / nsMinute
      let n := min 1440 (now - last / nsMinute)
      let st := s.cutStatus p true - 8 * b2n (s.meterSt p).restored
      let s := ((List.range n).map (fun i => (now - n + 1 + i) * nsMinute)).foldl (fun s b =>
        s.modMeter p (fun m => { m with ring := aset m.ring (cutSlot b) { b := b, status := st, counts := m.cutTotals }, lastCut := some b })) s
      if n == 0 then s else s.track p 6 0

/-- Tenants that an hour's record covers: authorised at some time in it (R501). `h` numbers the hour by its end. -/
def MeterP.covered (m : MeterP) (h : Nat) : List (Nat × Nat) :=
  let start := (h - 1) * nsHour
  let l := m.index.filter (fun e => match aget m.freeAt e.2 with | some f => decide (start < f - 24 * nsHour) | none => true)
  (List.range 4096).filterMap (fun t => (l.find? (fun e => e.1 == t)))

/-- The 128 bytes of a cut of one meter index. -/
def Cut.bytes (c : Cut) (idx : Nat) : List Byte := ((List.range 16).map (fun i => natLE 8 ((agetD c.counts idx []).getD i 0))).flatten

/-- The cut at a boundary, an empty one where the ring has lost it. -/
def MeterP.cut (m : MeterP) (b : Nat) : Cut :=
  match aget m.ring (cutSlot b) with
  | some c => if c.b == b then c else { b := b, status := 4, counts := [] }
  | none => { b := b, status := 4, counts := [] }

/-- Boundaries of the sixty cuts of the hour that ends at `h` hours. -/
def hourCuts (h : Nat) : List Nat := (List.range 60).map (fun i => (h - 1) * nsHour + (i + 1) * nsMinute)

/-- leaf_t (R501). -/
def State.leaf (s : State) (p h tenant idx : Nat) : List Byte :=
  let m := s.meterSt p
  sha3 (natLE 2 (s.device p) ++ natLE 1 p ++ natLE 2 tenant ++ natLE 8 (h * nsHour) ++ ((hourCuts h).map (fun b => (m.cut b).bytes idx)).flatten)

/-- EVID_SEQ of the package's next record (R502). -/
def State.nextEvid (s : State) : Nat := (s.partIds.map (fun q => (s.meterSt q).evSeq)).foldl max 0 + 1

/-- The evidence record of an hour, signed and committed; the ring of 2,880 records gives up its oldest sector of eight first (R501-R503). -/
def State.evidence (s : State) (p h gap : Nat) : State :=
  let m := s.meterSt p
  let cov := m.covered h
  let seq := s.nextEvid
  let prev := if m.prevRoot.isEmpty then fill 64 0 else m.prevRoot
  let head := natLE 4 0x45564944 ++ [1] ++ natLE 1 p ++ natLE 2 (s.device p) ++ natLE 8 (h * nsHour) ++ natLE 8 seq ++ natLE 2 cov.length ++ natLE 2 (min gap 65535) ++
    (hourCuts h).map (fun b => BitVec.ofNat 8 (m.cut b).status) ++ fill 8 0 ++ prev
  let root := sha3 (head ++ (cov.map (fun e => natLE 2 e.1 ++ s.leaf p h e.1 e.2)).flatten)
  let body := head ++ root ++ sha3 Config.identityKey
  let e : Evidence := { hour := h, seq := seq, bytes := body ++ Config.mldsaSign body }
  let s : State := if (seq - 1) % 8 == 0 && 2880 < seq then
      ({ s with parts := s.parts.map (fun x => (x.1, { x.2 with meters := { x.2.meters with evidence := x.2.meters.evidence.filter (fun r => decide (seq + 7 < r.seq + 2880)) } })) } : State).nvErase
        (1200 + (seq - 1) % 2880 / 8) 2
    else s
  (s.modMeter p (fun m => { m with evidence := m.evidence ++ [e], evSeq := seq, prevRoot := root })).log .evidenceCommit (srcPart p) (values [h * nsHour, seq])

/-- The last hour that a partition has a record of. -/
def MeterP.lastHour (m : MeterP) : Option Nat := m.evidence.getLast?.map (·.hour)

/-- Records of the hours missed: one for each whose cuts all lie in the ring, one for all older ones together (R503). -/
def State.catchUp (s : State) (p : Nat) : State :=
  match (s.meterSt p).lastHour with
  | none => s
  | some last =>
    let now := fab s / nsHour
    let missed := (List.range (now - last)).map (fun i => last + 1 + i)
    let old := missed.filter (fun h => !(hourCuts h).all (fun b => ((s.meterSt p).cut b).counts != [] || (s.meterSt p).index.isEmpty))
    let s := match old with | h :: _ => s.evidence p h old.length | [] => s
    (missed.filter (fun h => !old.contains h)).foldl (fun s h => s.evidence p h 0) s

/-! ### The time state (R481-R491) -/

/-- SOURCE of the TIME record: 0 PTP, 1 PPS, 2 PTP_PPS (R481). -/
def State.timeSource (s : State) : Nat := s.field 14 0xFF 0 0 1 0

/-- A port that runs PTP: those of PTP_PORTS, or port 0 of die 0 (R481). -/
def State.ptpPort (s : State) (port : Nat) : Bool :=
  let b := s.recD 14 0xFF 0
  if b.isEmpty then port == 0 else leAt b 4 2 == port || leAt b 6 2 == port

/-- The expected interval between measurements, in core cycles: 2^SYNC_LOG s, or 1 s of PPS. -/
def State.syncCycles (s : State) : Nat :=
  if s.timeSource == 0 then cS / 2 ^ ((256 - s.field 14 0xFF 0 3 1 0xFD) % 256) else cS

/-- PPS_OUT (R484): a pulse at each whole second of fabric time while LOCKED or HOLDOVER, low otherwise. The spec gives the pulse no length. -/
def State.ppsOut (s : State) : Bool := (s.time.mode == .locked || s.time.mode == .holdover) && decide (fab s % 1000000000 < Config.ppsWidth)

/-- A change of the time state (R485): the time of the change, and the interrupt. -/
def State.setTime (s : State) (m : TimeMode) : State :=
  if s.time.mode == m then s
  else ({ s with time := { s.time with mode := m, changedAt := fab s, inRange := 0, holdSince := if m == .holdover then some s.now else none } } : State).int .timeState

/-- The counters take a new rate from now on; they never step (R486). -/
def State.setRate (s : State) (rate : Int) : State := { s with time := { s.time with base := fab s, at_ := s.now, rate := rate } }

/-- R491: the time state becomes LOST, and every twinned partition fences itself. -/
def State.timeLost (s : State) : State :=
  let s := (s.setTime .lost).log .timeLost srcSvc (values [])
  if s.pkg != .on then s
  else (s.partIds.filter (fun p => (s.twin p).paired)).foldl (fun s p => if (s.twin p).role == .fenced then s else s.selfFence p .timeLost) s

/-- An offset measurement, with the source's time at that instant (R485, R486). The servo's rate is a free value within its bound of 100 ppm
(log 31). -/
def State.measured (s : State) (offset : Int) (source : Nat) : State :=
  let near := offset.natAbs ≤ 100
  let s : State := { s with time := { s.time with lastMeasure := some s.now, offset := offset } }
  let settle (s : State) : State :=
    let r := s.free
    r.2.setRate (Int.ofNat (r.1 % 200001) - 100000)
  if s.time.mode == .locked then (if 1000000 < offset.natAbs then s.timeLost else settle s)
  else
    let n := if near then s.time.inRange + 1 else 0
    let s : State := { s with time := { s.time with inRange := n } }
    if n < 16 then (if s.time.everLocked then settle s else s)
    else
      let s : State := if s.time.everLocked then s else { s with time := { s.time with base := source, at_ := s.now, rate := 0, everLocked := true } }
      settle (s.setTime .locked)

end Sys2Proof.Machine
end

