-- ==== Sys2Proof/Machine/CkptOps.lean ====
section
/-! DEFINITION. Tracked metadata pages, checkpoints and their footers (R371-R377), and what a RESTORE reads back from flash (R379-R386). -/
namespace Sys2Proof.Machine
open Sys2Proof

def State.modCkpt (s : State) (p : Nat) (f : Ckpt → Ckpt) : State := s.modStore p (fun S => { S with ckpt := f S.ckpt })
def State.modDrain (s : State) (p : Nat) (f : DrainSt → DrainSt) : State := s.modStore p (fun S => { S with drain := f S.drain })

/-! ### Tracked pages (R372, R373) -/

/-- The tracked fields of a brick-map entry (R372). -/
def Brick.saved (B : Brick) : BrickSaved :=
  { mirror := B.mirror, placement := B.placement, keyHalf := B.keyHalf, cursor := B.cursor, tenant := B.tenant, object := B.object }

/-- A brick as its tracked fields and VALID bits restore it: every other field zero (R372). -/
def BrickSaved.brick (B : BrickSaved) (valid : BitVec 512) : Brick :=
  { res := none, pin := false, mirror := B.mirror, placement := B.placement, keyHalf := B.keyHalf, cursor := B.cursor, tenant := B.tenant, age := 0, accessed := none,
    valid := valid, object := B.object, evicting := false, evictFor := none, evacuating := false, anyCourse := false }

/-- The entries of a list whose keys lie in page `i` of `n` entries, those of another list put in their place. -/
def replacePage {α : Type} (n i : Nat) (old new : List (Nat × α)) : List (Nat × α) :=
  old.filter (fun e => e.1 / n != i) ++ new.filter (fun e => e.1 / n == i)

/-- A tracked page written to the checkpoint log from its DRAM content: what the log holds follows, and its charge is released (R371-R373). -/
def State.writeTracked (s : State) (p table i : Nat) : State :=
  if !(s.store p).ckpt.dirty.contains (table, i) then s
  else
    let S := s.store p
    let s := s.modCkpt p (fun c => { c with dirty := c.dirty.filter (· != (table, i)), seq := c.seq + 1 })
    if table == 3 then
      s.modCkpt p (fun c => { c with bricks := replacePage 512 i c.bricks (S.bricks.map (fun e => (e.1, e.2.saved))) })
    else if table == 4 then
      s.modPart p (fun P => { P with savedWindows := replacePage 128 i P.savedWindows (P.remote.windows.map (fun e =>
        (e.1, { e.2 with ring := match aget P.savedWindows e.1 with | some w => (if w.gen == e.2.gen then w.ring else e.2.ring) | none => e.2.ring }))) })
    else if table == 5 then
      s.modPart p (fun P => { P with savedWindows := P.savedWindows.map (fun e => if e.1 / 128 == i then
        (e.1, { e.2 with ring := match aget P.remote.windows e.1 with | some w => (if w.gen == e.2.gen then w.ring else e.2.ring) | none => e.2.ring }) else e) })
    else
      let totals := s.meterTotals p
      s.modPart p (fun P => { P with savedMeters := { P.meters with totals := totals } })

/-- Every dirty tracked page written. -/
def State.writeAllTracked (s : State) (p : Nat) : State := (s.store p).trackedDirty.foldl (fun s e => s.writeTracked p e.1 e.2) s

/-! ### Checkpoints (R374-R377) -/

def State.ckptPeriod (s : State) (p : Nat) : Nat := s.field 0x10 p 0 2 2 30 * cS
def State.replayLimit (s : State) (p : Nat) : Nat := s.field 0x10 p 0 4 4 1048576

/-- Whether a partition may run a checkpoint: its tables stand in DRAM, and nothing has stopped its programs. -/
def State.mayCheckpoint (s : State) (p : Nat) : Bool := s.mayProgram p && (s.store p).ckpt.loaded && !(s.store p).ckpt.running

/-- The superblocks that are open, at most 256: group, block of member 0, and the row that the next unit goes to (R375). -/
def Flash.opens (F : Flash) : List (Nat × Nat × Nat) :=
  ((F.groups.map (fun g => (g.2.sbs.filter (fun e => e.2.state == .openWrite || e.2.state == .openReloc)).map (fun e =>
    (g.1, e.2.blocks.getD 0 0, e.2.next / 15)))).flatten).take 256

/-- A checkpoint starts (R374): SEQ_START recorded, every changed flash-map and VALID page and every dirty tracked page written from DRAM. The
model writes them at the start (log 32). -/
def State.startCheckpoint (s : State) (p : Nat) : State :=
  if !s.mayCheckpoint p then s
  else
    let first := (s.store p).ckpt.seq
    let s := s.writeAllTracked p
    s.modStore p (fun S => { S with ckpt := { S.ckpt with
      running := true, nextSeqStart := S.flash.seq, startAt := s.now, startFabric := fab s, firstSeq := first, opens := S.flash.opens,
      seq := S.ckpt.seq + S.ckpt.dirty.length, dirty := [], fmap := S.flash.fmap, valid := S.bricks.map (fun e => (e.1, e.2.valid)) } })

/-- Objects whose bricks a footer has now covered: STATE programmed to 0x00, UNREGISTER_OBJECT complete (R377). -/
def State.freeObjects (s : State) (p : Nat) : State :=
  let gen := (s.store p).ckpt.gen
  let freed := (s.storeNv.objects.filter (fun e => e.2.part == p && (match e.2.freeing with | some n => decide (n < gen) | none => false))).map (·.1)
  let s : State := { s with storeNv := { s.storeNv with objects := s.storeNv.objects.map (fun e =>
    if freed.contains e.1 then (e.1, { e.2 with removed := true, freeing := none }) else e) } }
  s.endRunning (fun l => match l with | .unregister q o => q == p && freed.contains o | _ => false) .ok [] true

/-- The 16-byte header of a metadata page (R371). -/
def metaHeader (part table index seq : Nat) (inDrain : Bool) : List Byte :=
  natLE 4 (index % 2 ^ 28 + part % 4 * 2 ^ 28 + 2 ^ 30) ++ natLE 1 table ++ natLE 1 (b2n inDrain) ++ natLE 2 0 ++ natLE 8 seq

/-- The 16-byte header of a data page's codeword (R322). -/
def Codeword.header (w : Codeword) (part : Nat) : List Byte :=
  natLE 4 (w.brick % 2 ^ 28 + part % 4 * 2 ^ 28) ++ natLE 1 (w.page / 4 % 128) ++ natLE 1 (w.page % 4 + 4 * (w.keyHalf % 2) + 8 * b2n w.valid) ++ natLE 2 0 ++ natLE 8 w.seq

/-- The data of the footer that ends the running checkpoint (R375). -/
def State.footerPage (s : State) (p : Nat) : List Byte :=
  let c := (s.store p).ckpt
  let head := natLE 8 (c.gen + 1) ++ natLE 8 c.nextSeqStart ++ natLE 8 c.firstSeq ++ natLE 8 c.startFabric ++ natLE 8 (fab s) ++ natLE 4 (s.store p).brickCount ++
    natLE 2 c.opens.length ++ natLE 2 0 ++ (c.opens.map (fun k => natLE 8 (k.1 % 2 ^ 16 + k.2.1 % 2 ^ 17 * 2 ^ 16 + k.2.2 % 2 ^ 12 * 2 ^ 33))).flatten
  let body := head ++ fill (4092 - head.length) 0
  body ++ natLE 4 (crc32c body)

/-- One entry of a manifest page: a brick and the mask of its pages (R378). -/
def manifestEntry (set : List (Nat × Nat)) (b : Nat) : List Byte :=
  natLE 4 (b % 2 ^ 28) ++ natLE 64 (((set.filter (fun x => x.1 == b)).map (fun x => 2 ^ x.2)).sum)

/-- The manifest pages of a drain, 60 bricks to a page, FINAL on the last; an empty drain has one page (R378). -/
def manifestPages (drainSeq : Nat) (set : List (Nat × Nat)) : List (List Byte) :=
  let bricks := (set.map (·.1)).eraseDups
  let n := max 1 (ceilDiv bricks.length 60)
  (List.range n).map (fun i =>
    let bs := (bricks.drop (60 * i)).take 60
    (bs.map (manifestEntry set)).flatten ++ fill (68 * (60 - bs.length)) 0 ++ natLE 2 bs.length ++ natLE 1 (b2n (i + 1 == n)) ++ natLE 1 0 ++ natLE 8 drainSeq ++ natLE 4 0)

/-- A footer is programmed: the checkpoint is complete (R375). -/
def State.writeFooter (s : State) (p : Nat) : State :=
  (s.modCkpt p (fun c => { c with gen := c.gen + 1, seqStart := c.nextSeqStart, running := false, seq := c.seq + 1 })).freeObjects p

/-! ### What RESTORE finds in flash (R379-R382) -/

/-- The case of R379. -/
def DrainSt.case (D : DrainSt) (seqStart : Nat) : RestoreCase :=
  match D.fact with
  | .serving => (match D.manifest with | some m => if seqStart ≤ m.1 then .short else .unknown | none => .unknown)
  | _ => .complete

/-- The codeword of a page in a unit. -/
def pageOf (l : List Codeword) (g : Nat) : Option Codeword := l.find? (fun w => w.page == g)

/-- The location that holds a unit's current copy among the normal units: the mapped one, unless a unit found by replay has a higher SEQ
(R381). -/
def currentLoc (units : List (Loc × List Codeword)) (seqStart : Nat) (mapped : Option Loc) (b u : Nat) : Option (Loc × List Codeword) :=
  let seqOf (l : List Codeword) : Nat := match l with | w :: _ => w.seq | [] => 0
  let start := match mapped with | some l => (aget units l).map (fun c => (l, c)) | none => none
  units.foldl (fun best x =>
    match x.2 with
    | [] => best
    | w :: _ =>
      if w.brick == b && w.page / 4 == u && seqStart ≤ w.seq then
        (match best with | some y => if seqOf y.2 < w.seq then some x else best | none => some x)
      else best) start

/-- The drained copy of a page, if replay finds one newer than the unit's (R370, R381). -/
def drainedCopy (units : List Codeword) (seqStart : Nat) (than : List Codeword) (b g : Nat) : Option Codeword :=
  (units.filter (fun w => w.brick == b && w.page == g && decide (seqStart ≤ w.seq))).foldl (fun best w =>
    match best with
    | some x => if x.seq < w.seq then some w else best
    | none => (match pageOf than g with | some o => if o.seq < w.seq then some w else none | none => some w)) none

/-- The units that a RESTORE considers, by brick and unit: mapped, found by replay, or with a drained page. -/
def replayKeys (c : Ckpt) (F : Flash) (drained : List Codeword) : List (Nat × Nat) :=
  let found := (F.units.filterMap (fun x => match x.2 with | w :: _ => if c.seqStart ≤ w.seq then some (w.brick, w.page / 4) else none | [] => none))
  let all := c.fmap.map (·.1) ++ found ++ (drained.filter (fun w => decide (c.seqStart ≤ w.seq))).map (fun w => (w.brick, w.page / 4))
  (all.eraseDups).filter (fun k => ahas c.bricks k.1)

/-- A unit after replay: its location with what it holds, and the drained pages that supersede it. -/
structure Replayed where
  brick : Nat
  unit : Nat
  at_ : Option (Loc × List Codeword)
  drained : List Codeword
  deriving DecidableEq, Repr

def replay (c : Ckpt) (F : Flash) (drained : List Codeword) : List Replayed :=
  (replayKeys c F drained).map (fun k =>
    let at_ := currentLoc F.units c.seqStart ((aget c.fmap k).map (·.loc)) k.1 k.2
    let old := match at_ with | some x => x.2 | none => []
    { brick := k.1, unit := k.2, at_ := at_,
      drained := (List.range 4).filterMap (fun i => drainedCopy drained c.seqStart old k.1 (4 * k.2 + i)) })

/-- The current copy of a page of a replayed unit. -/
def Replayed.page (r : Replayed) (g : Nat) : Option Codeword :=
  match pageOf r.drained g with
  | some w => some w
  | none => (match r.at_ with | some x => pageOf x.2 g | none => none)

/-- The VALID bits that replay sets for a brick: each page's header, or the loaded table where flash holds no copy (R381). -/
def validAfter (loaded : BitVec 512) (rs : List Replayed) (b : Nat) : BitVec 512 :=
  (rs.filter (fun r => r.brick == b)).foldl (fun v r =>
    (List.range 4).foldl (fun v i =>
      let g := 4 * r.unit + i
      match r.page g with
      | some w => if w.valid then v ||| BitVec.ofNat 512 (2 ^ g) else v &&& ~~~(BitVec.ofNat 512 (2 ^ g))
      | none => v) v) loaded

/-- A unit consolidated (R382): its four pages' current copies, written together under a new SEQ; `none` where no group takes a program. -/
def State.consolidate (s : State) (p : Nat) (r : Replayed) : Option State :=
  match (match s.takeProgram p .openWrite false none with | some x => some x | none => s.takeProgram p .openWrite true none) with
  | none => none
  | some (pl, s) =>
    let B := match (s.store p).brick? r.brick with | some B => B.keyHalf | none => 0
    let cws : List Codeword := (List.range 4).map (fun i =>
      let g := 4 * r.unit + i
      match r.page g with
      | some w => { w with seq := pl.2.2.2 }
      | none => { brick := r.brick, page := g, keyHalf := B, valid := false, seq := pl.2.2.2, data := [] })
    some (s.mapUnit p r.brick r.unit pl.2.2.1 cws)

/-! ### COLD -/

/-- Pages that a drain has programmed when it is cut: what W_drain_p × k_temp has carried since the set was taken, tracked pages and
manifest first, then data pages in order (R364, R365, R385; log 19). -/
def State.cutDrain (s : State) (p : Nat) : State :=
  let S := s.store p
  let D := S.drain
  let s := if D.done || s.mode p != .drain then s else s.modStore p (fun S => { S with drain := { S.drain with cut := true } })
  match D.setAt with
  | none => s
  | some a =>
    if D.done || s.mode p != .drain then s
    else
      let n := (s.now - a) * s.wDrain p * kTemp s.topBand / (100 * cS * 4096)
      let s := (S.trackedDirty.take n).foldl (fun s e => s.writeTracked p e.1 e.2) s
      let lead := (S.trackedDirty).length + (manifestPages D.drainSeq D.set).length
      s.modStore p (fun S => { S with drain := { S.drain with
        manifest := if n < lead then none else S.drain.manifest, units := S.drain.units.take (n - lead) } })

/-- What a power cycle, or a BUILD begun again, leaves of a partition's storage: its flash with the checkpoint log and the drain units in it. -/
def StoreP.cold (S : StoreP) : StoreP :=
  { StoreP.reset with
    brickCount := S.brickCount,
    flash := { S.flash with fmap := [], wbs := [], reads := [], readCounts := [], urgent := [], short := false, exhausted := false },
    ckpt := { S.ckpt with running := false, dirty := [], loaded := false },
    drain := { S.drain with step := 0, rstep := 0, awaited := [], awaitSince := none, short := [], setAt := none } }

/-- What COLD leaves of a partition: its flash, its checkpoint log, its NV store structures, its pairing. -/
def Part.cold (P : Part) : Part :=
  { Part.reset with
    mode := { ModeSt.reset with provisional := P.mode.provisional },
    remote := { RemoteP.reset with tenants := P.remote.tenants, checkKey := P.remote.checkKey },
    store := P.store.cold,
    twin := { TwinP.reset with paired := P.twin.paired && P.twin.pairing.isNone, epoch := P.twin.epoch, epochSeen := P.twin.epochSeen, wholeResync := true },
    meters := { MeterP.reset with
      evidence := P.meters.evidence, evSeq := P.meters.evSeq, prevRoot := P.meters.prevRoot, index := P.meters.index, freeAt := P.meters.freeAt },
    savedWindows := P.savedWindows, savedMeters := P.savedMeters, dieMask := P.dieMask }

/-- What COLD leaves of the keys and of debug access: the challenge has lapsed, the scopes are closed, the associations of the ports are gone; a REKEY
goes on for itself after RESTORE (R581, R611, R612, R615). -/
def Security.cold (x : Security) : Security :=
  { x with challenge := none, scopes := [], scopeDies := 0, scopeExpiry := none, enginesOff := false, keyRamLost := [], macsec := [],
           slots := x.slots.map (fun e => (e.1, { e.2 with sweep := e.2.sweep.map (fun w => { w with silent := true }) })) }

/-- The package enters COLD: every partition loses what lives on the dies, every MODE_REQUEST and running command fails with ABORTED, the
journals are lost with them (R508, R517, R520, R729, R749). -/
def State.toCold (s : State) (c : Cause) : State :=
  let s := if s.pkg == .on then s.partIds.foldl (fun s p => (s.cutDrain p).onPart p (fun P s =>
      s.modeRecord (srcPart p) p P.mode.mode.code 0 c P.mode.causes)) s else s
  let wasOn := s.pkg == .on
  let s : State := if wasOn then { s with pkg := .cold, pkgCauses := [] } else s.setPkg .cold c
  let s := s.modPins (fun p => { p with tmuxGroup := 0, tmuxDie := 0 })
  { s with
    parts := s.parts.map (fun e => (e.1, e.2.cold)), dies := s.dies.map (fun e => (e.1, { Die.reset with remote := { RemoteD.reset with startGen := e.2.remote.startGen } })),
    ports := s.ports.map (fun _ => CtlPort.reset), running := [], heldEnds := [], phys := [], links := [], pfc := [], eapol := [], time := TimeSt.reset,
    sec := s.sec.cold,
    image := { s.image with inUse := none, eff := [], busy := false, applying := none } }

end Sys2Proof.Machine
end

