-- ==== Sys2Proof/Machine/PowerOps.lean ====
section
/-! DEFINITION. What the power events share (16): the sequencer's steps, reversal and hardware power-off (R623-R636), the restart conditions
(R664-R666), links of the ports (R267), the die temperatures (R646-R656). -/
namespace Sys2Proof.Machine
open Sys2Proof

/-! ### The sequence table (R616, R617) -/

/-- An entry of the table from its 16 bytes. -/
def seqEntryOf (b : List Byte) : SeqEntry :=
  { en := leAt b 0 1, pg := leAt b 1 1, sns := if leAt b 2 1 == 0xFF then none else some (leAt b 2 1), avs := if leAt b 3 1 == 0xFF then none else some (leAt b 3 1),
    nominalMv := leAt b 4 2, offMv := leAt b 6 2, pgTimeout := leAt b 8 2, stepDelay := leAt b 10 2, discharge := leAt b 12 2, nominalW := leAt b 14 2 }

/-- Whether every field of an entry lies in its range. -/
def SeqEntry.ok (e : SeqEntry) : Bool :=
  decide (e.en ≤ 11) && decide (e.pg ≤ 11) && (match e.sns with | some n => decide (n ≤ 11) | none => true) &&
  (match e.avs with | some n => decide (n ≤ 15) | none => true) && decide (500 ≤ e.nominalMv) && decide (e.nominalMv ≤ 3300) && decide (50 ≤ e.offMv) &&
  decide (e.offMv ≤ 1000) && decide (e.offMv < e.nominalMv) && decide (1 ≤ e.pgTimeout) && decide (e.pgTimeout ≤ 100) && decide (1 ≤ e.discharge) &&
  decide (e.discharge ≤ 1000)

/-- Whether no two entries of a list share a number. -/
def distinct : List Nat → Bool
  | [] => true
  | a :: l => !l.contains a && distinct l

/-- The table that bytes hold, or none where R617 refuses them. -/
def parseSeqTable (b : List Byte) : Option SeqTable :=
  let n := leAt b 4 1
  let es := (List.range n).map (fun i => seqEntryOf (slice b (16 + 16 * i) 16))
  let core := leAt b 10 1
  let ok := decide (20 + 16 * n ≤ b.length) && leAt b 0 4 == 0x53514E31 && decide (1 ≤ n) && decide (n ≤ 12) && decide (leAt b 5 1 ≤ 1) &&
    decide (100 ≤ leAt b 6 2) && decide (leAt b 6 2 ≤ 10000) && decide (100 ≤ leAt b 8 2) && decide (leAt b 8 2 ≤ 10000) && decide (core < n) &&
    allZero (slice b 11 5) && leAt b (16 + 16 * n) 4 == crc32c (slice b 0 (16 + 16 * n)) && es.all SeqEntry.ok &&
    distinct (es.map (·.en)) && distinct (es.map (·.pg)) && distinct (es.filterMap (·.sns)) &&
    (match es[core]? with | some e => e.avs.isSome | none => false)
  if ok then some { follow := leAt b 5 1 == 1, upTimeout := leAt b 6 2, dnTimeout := leAt b 8 2, coreEntry := core, entries := es } else none

/-- The table of an option record: the factory's where it holds no other (R618, R674). -/
def State.tableOf (s : State) (o : OptionRec) : Option SeqTable := if o.seqTable.isEmpty then some (SeqTable.factory s.dieCount) else parseSeqTable o.seqTable

/-! ### Steps of the sequence (R623, R631) -/

/-- The entries of the sequence table in force. -/
def State.seqEntries (s : State) : List SeqEntry := match s.svc.seqTable with | some t => t.entries | none => []
def State.seqEntry (s : State) (i : Nat) : Option SeqEntry := s.seqEntries[i]?
def State.seqFollow (s : State) : Bool := match s.svc.seqTable with | some t => t.follow | none => false
def State.seqPhase (s : State) : SeqPhase := s.svc.seq.phase

/-- SEQ_STEP: one record per step, with the step's time in ns (R534). -/
def State.seqStep (s : State) (entry : Nat) : State :=
  s.log .seqStep srcSvc (subject none 5 entry 0 0 [(s.now - s.svc.seq.since) * 5 / 8])

def State.setPhase (s : State) (ph : SeqPhase) : State := s.modSeq (fun q => { q with phase := ph, since := s.now })

/-- Step 3 of an entry: SEQ_EN asserted (R623). -/
def State.enableEntry (s : State) (i : Nat) : State :=
  match s.seqEntry i with
  | some e => ((s.modPins (fun p => { p with seqEn := p.seqEn ++ [e.en] })).modSeq (fun q => { q with enabled := q.enabled ++ [i], raw := [] })).setPhase (.waitPg i)
  | none => s.setPhase .waitPll

/-- Step 1 and 2 of the up-sequence (R623), under the table that the option area now holds (R695). -/
def State.startUp (s : State) : State :=
  let s : State := { s with pkgCauses := [] }
  let s := s.modSvc (fun v => { v with seqTable := s.tableOf v.nv.opt })
  let s := s.setPkg .seqUp .powerUp
  let s := (s.modPins (fun p => { p with chainDnOut := false })).modSeq (fun q =>
    { q with reversal := false, hardware := false, reverseDue := false, enabled := [], good := [], retryAt := none, coldCritical := false })
  if s.seqFollow && !s.svc.pins.chainUpIn then s.setPhase .waitChainUp else s.enableEntry 0

/-- The package enters COLD with its rails down (R629, R631 step 6): a fault writes its record, and the fourth latches off. -/
def State.enterCold (s : State) (c : Cause) : State :=
  let s := s.toCold c
  let s := s.modSeq (fun q => { q with coldSince := s.now, pllLocked := false })
  let s : State := { s with image := { s.image with badPowerUps := 0 } }
  match s.svc.seq.fault with
  | none => s
  | some (e, k) =>
    let n := match k with | .chatter => agetD s.svc.seq.raw e 0 | _ => 0
    let kind := match k with | .timeout => 0 | .chatter => 1 | .lowRail => 2 | .clock => 3
    let s := s.log .seqFault srcSvc (subject none 5 e 0 0 [kind, n])
    let s := s.modSeq (fun q => { q with fault := none, retries := q.retries + 1, retryAt := some s.now })
    if 4 ≤ s.svc.seq.retries then (s.modSeq (fun q => { q with latched := true, retryAt := none })).log .seqLatched srcSvc (values []) else s

/-- The rails are all down: CHAIN_DN_OUT is driven (R631 step 6, R637). -/
def State.railsOff (s : State) : State :=
  let c : Cause := if s.pkgCauses.contains .off then .off else if s.pkgCauses.contains .power then .power
    else if s.pkgCauses.contains .thermal then .thermal else .off
  let s := (s.modPins (fun p => { p with chainDnOut := true, seqEn := [] })).setPhase .off
  if s.pkg == .cold then s else s.enterCold c

/-- Step 4 of the last entry still enabled, or the end of the down-sequence (R631). -/
def State.disableNext (s : State) : State :=
  match s.svc.seq.enabled.getLast? with
  | none => s.railsOff
  | some k =>
    match s.seqEntry k with
    | some e => ((s.modPins (fun p => { p with seqEn := p.seqEn.filter (· != e.en) })).modSeq (fun q =>
        { q with enabled := q.enabled.dropLast, good := q.good.filter (· != k) })).setPhase (.discharge k)
    | none => s.railsOff

/-- A reversal (R629, R634): the dies held in reset, CHAIN_UP_OUT low, rails down from the last entry enabled. -/
def State.reverse (s : State) : State :=
  let s : State := { (if s.pkg == .on then s.leaveAll else s) with pkg := .seqDown }
  ((s.modPins (fun p => { p with chainUpOut := false })).modSeq (fun q => { q with reversal := true, reverseDue := false })).disableNext

/-- A step fails (R629). -/
def State.stepFails (s : State) (e : Nat) (k : SeqKind) : State := (s.modSeq (fun q => { q with fault := some (e, k) })).reverse

/-- A withdrawal or a supply warning reaches the up-sequence (R528, R634): the step in progress ends first, steps 6 to 9 reverse at once. -/
def State.crossSequence (s : State) (c : Cause) : State :=
  if s.pkg != .seqUp then s
  else
    let s : State := { s with pkgCauses := addTo s.pkgCauses c }
    match s.seqPhase with
    | .waitPll | .loadFw | .checkImage => s.reverse
    | _ => s.modSeq (fun q => { q with reverseDue := true })

/-- A step of the up-sequence has ended well: the reversal that waited for it, or what follows (R634, R635). -/
def State.afterStep (s : State) (next : State → State) : State := if s.svc.seq.reverseDue then s.reverse else next s

/-! ### Hardware power-off (R517, R630, R633) -/

/-- The package is powered off in hardware: drains cut short, halts cut where they stand, the rails disabled at once. -/
def State.hardOff (s : State) (c : Cause) : State :=
  if s.pkg == .cold then s
  else
    let s : State := { s with pkgCauses := [c] }
    let s := s.enterCold c
    ((s.modSeq (fun q => { q with hardware := true, reversal := false, reverseDue := false, coldCritical := c == .critical })).modPins
      (fun p => { p with chainUpOut := false })).disableNext

/-! ### Restart after cooling (R664-R666) -/

/-- A record of the THERMAL node table (R548, R646). -/
structure NodeCfg where
  parent : Option Nat
  diode : Option Nat
  offset : Int
  cap : Nat
  g : Nat
  deriving DecidableEq, Repr

/-- NODE_COUNT. -/
def State.nodeCount (s : State) : Nat := s.field 7 0xFF 0 0 2 0

def State.nodeCfg (s : State) (n : Nat) : NodeCfg :=
  let b := s.recD 7 0xFF 0
  let o := 8 + 16 * n
  let par := leAt b o 2
  let d := leAt b (o + 2) 1
  let l := leAt b (o + 3) 1
  { parent := if par == 0xFFFF then none else some par, diode := if d == 0xFF then none else some d,
    offset := if l < 128 then Int.ofNat l else Int.ofNat l - 256, cap := leAt b (o + 4) 4, g := leAt b (o + 8) 4 }

/-- The sources: node, SOURCE_ID, SHARE in thousandths. -/
def State.sources (s : State) : List (Nat × Nat × Nat) :=
  let b := s.recD 7 0xFF 0
  (List.range (leAt b 2 2)).map (fun i =>
    let o := 8 + 16 * s.nodeCount + 8 * i
    (leAt b o 2, leAt b (o + 2) 2, leAt b (o + 4) 2))

/-- The service die among the dies of the thermal model. -/
abbrev svcDie : Nat := 64

/-- The die that a node belongs to: that of its diode, else of the first source that feeds it (R652). -/
def State.nodeDie (s : State) (n : Nat) : Option Nat :=
  match (s.nodeCfg n).diode with
  | some d => if d < 64 then some (d / 8) else some svcDie
  | none => (s.sources.find? (fun x => x.1 == n)).map (fun x => if x.2.1 < 128 then x.2.1 / 16 else svcDie)

/-- θ of a node (R652). -/
def State.theta (s : State) (n : Nat) (x : Node) : Rat :=
  (match x.diode with | some d => max x.temp d | none => x.temp) - ((s.nodeCfg n).offset : Rat)

/-- The ambient in °C (R650). -/
def State.ambientC (s : State) : Rat := if s.svc.thermal.stale then 50 else (s.svc.thermal.ambient : Rat) / 16

/-- The nodes of the THERMAL record, at ambient where the model has not yet held them (log 21). -/
def State.nodesNow (s : State) : List (Nat × Node) :=
  (List.range s.nodeCount).map (fun n =>
    (n, agetD s.svc.thermal.nodes n { temp := s.ambientC, diode := none, divergeSince := none, below80Since := none, power := 0 }))

/-- Blocks of the member's controller dies (R647). -/
def State.blocks (s : State) : List Nat := (List.range s.dieCount).flatMap (fun d => (List.range 9).map (· + 16 * d))

/-- The temperature of a block's node: the first that the record has it feed; the ambient where it feeds none (log 20). -/
def State.blockTemp (s : State) (nodes : List (Nat × Node)) (b : Nat) : Rat :=
  match s.sources.find? (fun x => x.2.1 == b) with
  | some x => (match aget nodes x.1 with | some y => y.temp | none => s.ambientC)
  | none => s.ambientC

/-- A block's leakage in mW at its node's temperature (R648). -/
def State.leakMw (s : State) (nodes : List (Nat × Node)) (b : Nat) : Rat := (Config.leakage b ((s.blockTemp nodes b) * 16).floor : Nat)

/-- A block's activity term in mW over an update of `dt` seconds: the energy of each kind of event times its counter (R648). -/
def activityMw (acts : List BlockPower) (dt : Rat) (b : Nat) : Rat :=
  ((acts.filter (fun a => a.source == b)).map (fun a => (((a.counts.zipIdx).map (fun c => Config.energy b c.2 * c.1)).sum : Nat) / (1000000000 : Rat) / dt)).sum

/-- The factor of the activity terms, formed anew every 1 ms: with it the estimates and the service die's power make up the measured power (R648). Where no activity was
counted it stays, and it is not negative (log 20). -/
def State.scaleNow (s : State) (acts : List BlockPower) (nodes : List (Nat × Node)) (dt : Rat) : Rat :=
  let act := (s.blocks.map (activityMw acts dt)).sum
  if s.now < s.svc.thermal.scaleAt + cMs || act == 0 then s.svc.thermal.scale
  else max 0 (((s.svc.powerMw : Rat) - (Config.servicePower : Nat) - (s.blocks.map (s.leakMw nodes)).sum) / act)

/-- A source's power in mW (R647, R648). -/
def State.sourceMw (s : State) (acts : List BlockPower) (nodes : List (Nat × Node)) (dt scale : Rat) (b : Nat) : Rat :=
  if b == 128 then (Config.servicePower : Nat) else s.leakMw nodes b + scale * activityMw acts dt b

/-- Power poured into a node, in mW: the shares of its sources (R646, R648). -/
def State.nodePower (s : State) (acts : List BlockPower) (nodes : List (Nat × Node)) (dt scale : Rat) (n : Nat) : Rat :=
  ((s.sources.filter (fun x => x.1 == n)).map (fun x => s.sourceMw acts nodes dt scale x.2.1 * x.2.2 / 1000)).sum

/-- A node's temperature after one update (R649). -/
def State.nodeNext (s : State) (acts : List BlockPower) (nodes : List (Nat × Node)) (dt scale : Rat) (n : Nat) (x : Node) : Rat :=
  let c := s.nodeCfg n
  let tempOf (m : Nat) : Rat := match aget nodes m with | some y => y.temp | none => s.ambientC
  let up : Rat := match c.parent with | some m => tempOf m | none => s.ambientC
  let kids := nodes.filter (fun e => (s.nodeCfg e.1).parent == some n)
  let q := s.nodePower acts nodes dt scale n - (c.g : Rat) * (x.temp - up) + (kids.map (fun e => ((s.nodeCfg e.1).g : Rat) * (e.2.temp - x.temp))).sum
  if c.cap == 0 then x.temp else x.temp + q * dt / (c.cap : Rat)

/-- The period of the engine (R654). -/
def State.thermPeriod (s : State) : Nat := if s.svc.thermal.fast then cMs / 8 else cMs

/-- The step of one update, in seconds (R649, R654). -/
def State.thermStep (s : State) : Rat := if s.svc.thermal.fast then 1 / 8000 else 1 / 1000

/-- The nodes after one update (R648, R649). -/
def State.nodesAfter (s : State) (acts : List BlockPower) : List (Nat × Node) :=
  let scale := s.scaleNow acts s.nodesNow s.thermStep
  s.nodesNow.map (fun e => (e.1, { e.2 with temp := s.nodeNext acts s.nodesNow s.thermStep scale e.1 e.2, power := s.nodePower acts s.nodesNow s.thermStep scale e.1 }))

/-- The nodes that an update of the same service-die cycle, still in the queue, shows at or above 80 °C (R664). -/
def State.soonHot (s : State) : List Nat :=
  ((s.pending.takeWhile (fun c => decide (c.cycle / 4 ≤ s.now / 4))).filterMap (fun c => match c with
    | .thermalUpdate _ acts => if dueSvc s s.svc.thermal.lastUpdate s.thermPeriod then
        some (((s.nodesAfter acts).filter (fun e => !decide (s.theta e.1 e.2 < 80))).map (·.1)) else none
    | _ => none)).flatten

/-- Whether every node of a scope has been below 80 °C for 60 s (R664): the package's nodes, or a partition's and those of no die. An update that shows a node hot on the
cycle on which its 60 s would end restarts its count. -/
def State.cooled (s : State) (part : Option Nat) : Bool :=
  let hot (n : Nat) : Bool := s.soonHot.contains n
  s.svc.thermal.nodes.all (fun e =>
    let inScope := match part with
      | none => true
      | some p => (match s.nodeDie e.1 with | some d => (s.partDies p).contains d | none => true)
    !inScope || (match e.2.below80Since with | some c => dueSvc s c (60 * cS) && !((c + 60 * cS) / 4 == s.now / 4 && hot e.1) | none => false))

/-- Automatic restarts in the last 24 operating hours (R665). -/
def State.recentRestarts (s : State) : Nat := (s.svc.thermal.restarts.filter (fun c => decide (s.now < c + 24 * 3600 * cS))).length

/-- An automatic restart is counted, or refused with THERMAL_LOCKOUT where three have been (R665, R666). -/
def State.countRestart (s : State) : Bool × State :=
  if 3 ≤ s.recentRestarts then (false, s.log .thermalLockout srcSvc (values []))
  else (true, s.modTherm (fun t => { t with restarts := t.restarts ++ [s.now] }))

/-! ### Power request (R620) -/

/-- A write of both bytes of SB_AMBIENT (R650, R703): signed 1/16 °C, -40 to 85 °C; a value outside is counted. -/
def State.setAmbient (s : State) (bytes : List Byte) : State :=
  let v : Int := (BitVec.ofNat 16 (leNat bytes)).toInt
  if v < -640 || 1360 < v then s.modSb (fun b => { b with badAmbient := b.badAmbient + 1 })
  else s.modTherm (fun x => { x with ambient := v, ambientAt := s.now, stale := false })

/-- R620, but for PWR_REQ itself and the cooling conditions. -/
def State.mayPower (s : State) : Bool :=
  let q := s.svc.seq
  let p := s.svc.pins
  s.svc.booted && s.svc.fwStatus == 0 && s.pkg == .cold && q.phase == .off && !p.pwrFail && dueSvc s p.pwrFailSince (100 * cMs) && dueSvc s q.coldSince (500 * cMs) &&
  s.svc.seqTable.isSome && !q.latched && !s.svc.thermal.lockout

/-- Power counts as requested where R620 holds: after a critical power-off the start counts as a restart, and a fourth locks out (R665). -/
def State.requestPower (s : State) : State :=
  if !s.svc.pins.pwrReq || !s.mayPower then s
  else if s.svc.seq.coldCritical then
    if !s.cooled none then s
    else
      match s.countRestart with
      | (true, s) => s.startUp
      | (false, s) => s.modTherm (fun t => { t with lockout := true })
  else s.startUp

/-! ### Links of the ports (R267, R270) -/

def LinkSt.reset : LinkSt := { up := false, downSince := none, lost := false }

/-- A port or breakout goes down (R267). -/
def State.linkDown (s : State) (port brk : Nat) : State :=
  let l := agetD s.links (port, brk) LinkSt.reset
  if !l.up then s
  else
    let s : State := { s with links := aset s.links (port, brk) { up := false, downSince := some s.now, lost := false } }
    s.int .linkDown

/-- A port or breakout comes up; its QPs are as they were (R267, R270). -/
def State.linkUp (s : State) (port brk : Nat) : State :=
  { s with links := aset s.links (port, brk) { up := true, downSince := none, lost := false } }

/-- Whether a port belongs to a partition of the package; one that does not is powered down (R37). -/
def State.portAssigned (s : State) (port : Nat) : Bool := s.partIds.any (fun p => s.provisional p || s.partHasPort p port)

/-- Unassigned ports power down with their links (R37). -/
def State.portsOff (s : State) : State := (s.links.filter (fun e => !s.portAssigned e.1.1)).foldl (fun s e => s.linkDown e.1.1 e.1.2) s

/-- Every Ethernet link goes down (R782). -/
def State.allLinksDown (s : State) : State := s.links.foldl (fun s e => s.linkDown e.1.1 e.1.2) s

/-! ### Die temperatures (R652-R656) -/

/-- The band of a temperature (R655). -/
def bandOf (t : Rat) : Nat := if t < 40 then 0 else if t ≤ 65 then 1 else if t ≤ 85 then 2 else if t ≤ 100 then 3 else 4

/-- The lower boundary of a band. -/
def bandFloor (b : Nat) : Rat := if b == 1 then 40 else if b == 2 then 65 else if b == 3 then 85 else 100

def DieTherm.reset : DieTherm :=
  { temp := 25, history := [], rise := 0, band := 0, belowSince := none, throttle := 0, severeArmed := true, warnLogAt := none }

/-- The band after an update: up at once, down after 250 ms at least 3 °C below the band's lower boundary (R656). -/
def DieTherm.nextBand (d : DieTherm) (temp : Rat) (now : Nat) : Nat × Option Nat :=
  let b := bandOf temp
  if d.band < b then (b, none)
  else if d.band != 0 && temp ≤ bandFloor d.band - 3 then
    let since := match d.belowSince with | some c => c | none => now
    if since + 250 * cMs ≤ now then (b, none) else (d.band, some since)
  else (d.band, none)

/-- The temperature 100 ms earlier, if the history reaches back so far (R653). -/
def DieTherm.earlier (d : DieTherm) (now : Nat) : Option Rat := (d.history.find? (fun h => decide (h.1 + 100 * cMs ≤ now))).map (·.2)

/-- History without what no later update can need. -/
def trimHistory (now : Nat) (l : List (Nat × Rat)) : List (Nat × Rat) :=
  l.takeWhile (fun h => decide (now < h.1 + 100 * cMs)) ++ (l.dropWhile (fun h => decide (now < h.1 + 100 * cMs))).take 1

/-- A die's thermal state after an update (R652-R656). -/
def DieTherm.update (d : DieTherm) (temp : Rat) (now : Nat) : DieTherm :=
  let rise := match d.earlier now with | some t => (temp - t) * 10 | none => 0
  let nb := d.nextBand temp now
  { d with temp := temp, rise := rise, band := nb.1, belowSince := nb.2, history := trimHistory now ((now, temp) :: d.history),
           severeArmed := d.severeArmed || (temp ≤ 100 && rise ≤ 5) }

/-- Whether a limit of R657 is reached. -/
def DieTherm.warns (d : DieTherm) : Bool := 5 < d.rise
def DieTherm.severe (d : DieTherm) : Bool := 110 ≤ d.temp || 15 < d.rise
def DieTherm.critical (d : DieTherm) : Bool := 118 ≤ d.temp

end Sys2Proof.Machine
end

