-- ==== Sys2Proof/Machine/RepairOps.lean ====
section
/-! DEFINITION. Repair operations that several families share (05, 06): rebuilding a page with its fallback (R205), units that leave service
and the evacuation of their frames (R209-R211), hard faults and marks (R187, R203, R216), calibration triggers (R254). -/
namespace Sys2Proof.Machine
open Sys2Proof

/-! ### Rebuilding a page (R191, R204-R208) -/

/-- The lines of a page: data and parity. -/
def StoreP.lines (S : StoreP) (b : Nat) : List Nat := List.range (64 + S.pOf b)

/-- The place of a line of a frame, whichever frame it is. -/
def StoreP.framePlace (S : StoreP) (c f g k : Nat) : Option Place := (aget S.courses c).map (fun C => placeOf C f g k)

/-- Lines of a page that read FLAGGED. -/
def State.flaggedLines (s : State) (p b g : Nat) : List Nat := ((s.store p).lines b).filter (fun k => (s.lineOutcome p b g k).1 == .flagged)

/-- Whether the page code rebuilds a page: parity current, erasures within P, every column decodes (R205, R208). -/
def State.rebuildable (s : State) (p b g : Nat) : Bool :=
  let S := s.store p
  let f := s.flaggedLines p b g
  let rest := ((S.lines b).filter (fun k => !f.contains k)).map (fun k => (s.lineOutcome p b g k).2)
  (S.page b g).current && decide (f.length ≤ S.pOf b) && columnsDecode (S.pOf b) f.length rest

/-- Whether a brick's pages can come from the twin (R205, R343). -/
def State.canFetch (s : State) (p b : Nat) : Bool :=
  (match (s.store p).brick? b with | some B => B.mirror | none => false) && (s.twin p).mirrors

/-- Asks the twin for a page (R205, R412 PAGE_REQ). -/
def State.fetchPage (s : State) (p b g : Nat) : State :=
  if (s.twin p).pageReqs.contains (b, g) then s
  else (s.modTwin p (fun T => { T with pageReqs := T.pageReqs ++ [(b, g)] })).mirror p 9 (natBE 8 (pageAddr b g))

/-- The cause of a loss by the fallback: UNIT_LOST where a line lies on a unit out of service, else REBUILD_FAILED (R221; log 24). -/
def State.lossCause (s : State) (p b g : Nat) : Nat :=
  let S := s.store p
  if (S.lines b).any (fun k => match S.place b g k with | some pl => S.out.any (·.covers pl) | none => false) then 4 else 1

/-- Whether a page's flash copy stands behind it: mapped, and not DIRTY. -/
def State.cleanCopy (s : State) (p b g : Nat) : Bool := !((s.store p).page b g).dirty && ((s.flash p).entry b (g / 4)).isSome

/-- A line that a rebuild has written back is read again as a corrected one is (R203; log 186: device position 10, which no correction locates). -/
def StoreP.rebuiltLine (S : StoreP) (c f g : Nat) (now k : Nat) : StoreP :=
  let x : Corrective := { course := c, frame := f, page := g, k := k, pos := 10, at_ := now, written := some now, placedSince := false }
  { S with correctives := S.correctives.filter (fun y => !y.names c f g k) ++ [x] }

/-- The lines that a rebuild has put right written back into the page: errors gone, those of flagged lines read again (R203, R205). -/
def StoreP.writeRebuilt (S : StoreP) (b g : Nat) (flagged fixed : List Nat) (now : Nat) : StoreP :=
  match S.resOf b with
  | none => S
  | some (c, f) =>
    let S := { S with errs := S.errs.filter (fun e => !(e.1.1 == c && e.1.2.1 == f && e.1.2.2.1 == g && (flagged ++ fixed).contains e.1.2.2.2)) }
    let S := flagged.foldl (fun S k => match S.place b g k with
      | some pl => if S.out.any (·.covers pl) then S else S.rebuiltLine c f g now k
      | none => S) S
    S.modPage b g (fun P => { P with rebuilt := true })

/-- R205's fallback: the page reloaded, fetched from the twin, or lost. -/
def State.fallback (s : State) (p b g : Nat) : State :=
  if s.cleanCopy p b g then (s.modPage p b g (fun P => { P with held := true })).startRead p b (g / 4) true none true
  else if s.canFetch p b then (s.modPage p b g (fun P => { P with held := true })).fetchPage p b g
  else s.markLost p b g (s.lossCause p b g)

/-- R205: rebuilt from its own lines, which what waits may read within this step; or reloaded, fetched or lost. A page of which any line holds the
poison pattern is not rebuilt (R220). -/
def State.rebuildPage (s : State) (p b g : Nat) : State :=
  let P := (s.store p).page b g
  if !P.filled || P.poison != 0 || P.held then s
  else
    let f := s.flaggedLines p b g
    let ks := (s.store p).errLines b g
    let fixed := ks.filter (fun k => !(s.lineOutcome p b g k).2.isEmpty)
    let ok := s.rebuildable p b g && !ks.any (fun k => (s.lineOutcome p b g k).1 == .poison)
    let s := s.touchLines p b g (ks.filter (fun k => !f.contains k))
    if ok then s.modStore p (·.writeRebuilt b g f fixed s.now) else s.fallback p b g

/-- What waited for a page goes on, and the page stands as its lines read again. -/
def State.afterRebuild (s : State) (p b g : Nat) : State :=
  let s := s.modStore p (fun S => { S with rebuilds := S.rebuilds.filter (· != (b, g)) })
  let s := ((s.retryBrick p b).serveReads p)
  s.modPage p b g (fun P => { P with rebuilt := false })

/-- A page whose flash copy is uncorrectable (R343): rewritten from a whole DRAM copy that is not DIRTY, fetched from the twin, or lost. The
rule is taken literally: the first case leaves out a DIRTY page (log 25). -/
def State.uncorrectable (s : State) (p b g : Nat) (reload : Bool) : State :=
  let P := (s.store p).page b g
  if !reload && P.filled && !P.dirty && P.poison == 0 && !P.held && ((s.flaggedLines p b g).isEmpty || s.rebuildable p b g) then s.writeBackUnit p b (g / 4) .writeBack
  else if s.canFetch p b then (s.modPage p b g (fun P => { P with held := P.filled })).fetchPage p b g
  else s.markLost p b g (if reload then s.lossCause p b g else 2)

/-- A flash channel is lost (R265, R348): its groups take no more programs; units that no row rebuilds are settled under R343. -/
def State.flashChannelOut (s : State) (p : Nat) (c : Nat × Nat) : State :=
  let F := s.flash p
  let i := F.channels.findIdx (· == c)
  if F.chOut.contains c || F.channels.length ≤ i then s
  else
    let touched (m : Nat) : Bool := (List.range 16).any (fun j => (F.member m j).1 == i)
    let s := s.modFlash p (fun F => { F with chOut := F.chOut ++ [c],
                                             groups := F.groups.map (fun e => (e.1, if touched e.1 then { e.2 with readOnly := true, heavy := false } else e.2)) })
    let F := s.flash p
    let bad := F.fmap.filter (fun e => e.2.loc.ch == i && !F.rowWhole e.2.loc)
    let s := bad.foldl (fun s e => ((List.range 4).map (fun k => 4 * e.1.2 + k)).foldl (fun s g =>
      if (s.store p).valid e.1.1 g && !s.listed p e.1.1 g then s.uncorrectable p e.1.1 g false else s) s) s
    s.recompute.opCheck p

/-! ### Units out of service (R209-R211, R217, R265) -/

/-- Whether a frame of a course holds a line on a unit. -/
def Course.frameOn (C : Course) (u : OutUnit) (f : Nat) : Bool :=
  (List.range 512).any (fun g => (List.range (64 + C.p)).any (fun k => u.covers (placeOf C f g k)))

/-- How many lines of a metadata page read FLAGGED, those on units out of service among them (R211). -/
def State.metaLost (s : State) (p c : Nat) (C : Course) (f g : Nat) : Nat :=
  ((List.range (64 + C.p)).filter (fun k => (s.freeOutcome p c f g k).1 == .flagged)).length

/-- Metadata frames with a line on a unit out of service are judged by their own lines: METADATA_LOST, or each is due to be rebuilt into a frame of
the pool (R211). Their parity counts as current (log 187). Where no frame is free, one is evicted. -/
def State.settleMeta (s : State) (p c : Nat) : State :=
  match aget (s.store p).courses c with
  | none => s
  | some C =>
    let bad := (List.range C.metaFrames).filter (fun i => (s.store p).out.any (fun u => C.frameOn u (C.metaAt i)))
    if bad.isEmpty then s
    else if bad.any (fun i => (List.range 512).any (fun g => decide (C.p < s.metaLost p c C (C.metaAt i) g))) then s.metadataLost p
    else
      let s := (s.modStore p (fun S => { S with courses := aupd S.courses c (fun C => { C with metaDue := bad }) })).takeMeta p
      match aget (s.store p).courses c with
      | some C => if C.metaDue.isEmpty || s.courseHot C then s else (s.evictOn p none [c]).2
      | none => s

/-- POOL_SHORT once the reserves exceed 7/8 of a pool that frames have left (R285). -/
def State.poolCheck (s : State) (p : Nat) : State :=
  let short := decide (7 * (s.store p).pool < 8 * s.reserves p)
  if short == (s.store p).poolShort then s
  else
    let s := s.modStore p (fun S => { S with poolShort := short })
    if short then s.log .poolShort (srcPart p) (values []) else s

/-- A unit leaves service: its lines are erasures, metadata frames are rebuilt, every other frame on it is to be evacuated (R209, R211). -/
def State.leaveService (s : State) (p : Nat) (u : OutUnit) : State :=
  if (s.store p).out.contains u then s
  else
    let s := s.modStore p (fun S => { S with out := S.out ++ [u] })
    (s.store p).courses.foldl (fun s e =>
      let C := e.2
      let fs := (List.range C.frames).filter (fun f => decide (C.metaFrames ≤ f) && !C.taken.contains f && C.frameOn u f)
      (s.settleMeta p e.1).modStore p (fun S => { S with evacuate := S.evacuate ++ (fs.map (fun f => (e.1, f))).filter (fun x => !S.evacuate.contains x) })) s

/-- One round of a frame's evacuation: clean pages need nothing, DIRTY pages are read under R205 and written back, and once none is left the
frame is released and leaves the pool (R209). -/
def State.evacuateBrick (s : State) (p b : Nat) : State :=
  let s := s.modBrick p b (fun B => { B with evacuating := true, evicting := false, evictFor := none })
  let dirty := (s.store p).dirtyPages b
  let bad := dirty.filter (fun g => !(s.flaggedLines p b g).isEmpty)
  let s := bad.foldl (fun s g => s.rebuildPage p b g) s
  let us := (((s.store p).dirtyPages b).filter (fun g => !((s.store p).page b g).held)).map (· / 4)
  let s := us.eraseDups.foldl (fun s u => s.writeBackUnit p b u .evict) s
  let s := bad.foldl (fun s g => s.modPage p b g (fun P => { P with rebuilt := false })) s
  let S := s.store p
  if (S.dirtyPages b).isEmpty && !S.flash.wbs.any (fun w => w.brick == b && w.why != .relocate) then
    let at_ := match S.brick? b with | some B => B.res | none => none
    let s := ((s.dropFrame p b true).modStore p (fun S => { S with evacuate := S.evacuate.filter (fun e => some e != at_) })).poolCheck p
    (s.retryBrick p b).retryFrames p
  else s

/-- Frames of a course that leave no unit out of service rejoin the pool (R218, R244). -/
def State.rejoin (s : State) (p : Nat) : State :=
  s.modStore p (fun S =>
    { S with courses := S.courses.map (fun e => (e.1, { e.2 with retired := e.2.retired.filter (fun f => S.out.any (fun u => e.2.frameOn u f)) })),
             evacuate := S.evacuate.filter (fun x => match aget S.courses x.1 with | some C => S.out.any (fun u => C.frameOn u x.2) | none => false) })

/-- The partition that holds a die, with a unit of it leaving service. -/
def State.unitOut (s : State) (die : Nat) (u : OutUnit) : State :=
  match s.partOfDie die with
  | some p => s.leaveService p u
  | none => s

/-! ### Ranks and channels (R242, R265) -/

def DramD.rank (D : DramD) (ch r : Nat) : RankSt := agetD D.ranks (ch, r) RankSt.reset

/-- Ranks of a channel. -/
def DramD.ranksOf (D : DramD) (ch : Nat) : List Nat := (D.ranks.filter (fun e => e.1.1 == ch)).map (·.1.2)

/-- A channel leaves service (R242, R265). -/
def State.channelOut (s : State) (d ch : Nat) (exit : Bool) : State :=
  (s.modDram d (fun D => { D with channels := aupd D.channels ch (fun c => { c with inService := false, exitAt := if exit then some s.now else c.exitAt,
                                                                                    calibratedSinceExit := [] }) })).unitOut d (.channel d ch)

/-- A rank is retired as a unit, with its RANK_RETIRED entry; the channel follows its last rank (R209, R216, R265, R266). -/
def State.retireRank (s : State) (d ch r : Nat) (code : LogCode) : State :=
  if ((s.dram d).rank ch r).retired then s
  else
    let e : SpareRow := { die := d, ch := ch, slot := ((s.dram d).rank ch r).slot, sub := 0, rank := r, bg := 0, ba := 0, row := 0, status := .rankRetired, faults := 0,
                          attempts := 0, time := fab s }
    let s : State := { s with storeNv := { s.storeNv with spare := s.storeNv.spare ++ [e] } }
    let s : State := { s with phys := aupd s.phys (.dram d ch r) (fun x => { x with works := false }) }
    let s := s.modDram d (fun D => { D with ranks := aset D.ranks (ch, r) { D.rank ch r with retired := true } })
    let s := (s.log code (srcDie d) (subject (some d) 2 ch r 0 (match aget s.phys (.dram d ch r) with | some x => x.eye | none => []))).unitOut d (.rank d ch r)
    if ((s.dram d).ranksOf ch).all (fun k => ((s.dram d).rank ch k).retired) then s.channelOut d ch false else s

/-- Every rank of a DIMM retires (R217). -/
def State.retireDimm (s : State) (d ch slot : Nat) : State :=
  (((s.dram d).ranks.filter (fun e => e.1.1 == ch && e.2.slot == slot)).map (·.1.2)).foldl (fun s r => s.retireRank d ch r .phyRetired) s

/-! ### Hard faults (R187, R203, R216) -/

/-- Whether a spare-row map entry keeps its row out of service (R217). -/
def SpareRow.out (r : SpareRow) : Bool := r.status == .pending || r.status == .noResource || r.status == .inProgress

/-- The row of a place as a unit. -/
def SpareRow.place (r : SpareRow) : Place := { die := r.die, ch := r.ch, sub := r.sub, rank := r.rank, bg := r.bg, ba := r.ba, row := r.row, burst := 0 }

def Place.sameRow (a b : Place) : Bool := (OutUnit.row a).covers b

/-- The faulty row at a place (R216); a retired rank's entry is none (R217). -/
def SpareRow.stands (r : SpareRow) (pl : Place) : Bool := r.status != .rankRetired && r.place.sameRow pl

def SpareStatus.code : SpareStatus → Nat
  | .pending => 0 | .spprApplied => 1 | .hpprDone => 2 | .noResource => 3 | .inProgress => 4 | .rankRetired => 5

/-- The 16 bytes of a spare-row map entry (R216). -/
def SpareRow.bytes (r : SpareRow) : List Byte :=
  natLE 4 (r.die % 8 + r.ch % 4 * 8 + r.sub % 2 * 32 + r.rank % 8 * 64 + r.bg % 8 * 512 + r.ba % 4 * 4096 + r.row % 2 ^ 18 * 16384) ++
    natLE 1 r.status.code ++ natLE 1 r.faults ++ natLE 1 (r.attempts % 256) ++ natLE 1 0 ++ natLE 8 r.time

/-- What a running scrub counts besides. -/
def State.scrubCount (s : State) (p : Option Nat) (f : Scrub → Scrub) : State :=
  match p with
  | some p => s.modStore p (fun S => { S with scrub := S.scrub.map f })
  | none => s

/-- A row enters the spare-row map and leaves service (R203, R209, R216). A slot holds up to 64 rows: one more retires every rank of its DIMM
(R217). A row that the map holds already, repaired or not, keeps its entry. -/
def State.addSpareRow (s : State) (pl : Place) (faults : Nat) : State :=
  let pl : Place := { pl with burst := 0 }
  let slot := ((s.dram pl.die).rank pl.ch pl.rank).slot
  if s.storeNv.spare.any (·.stands pl) then s
  else if 64 ≤ (s.storeNv.spare.filter (fun r => r.status != .rankRetired && r.die == pl.die && r.ch == pl.ch && r.slot == slot)).length then s.retireDimm pl.die pl.ch slot
  else
    let e : SpareRow := { die := pl.die, ch := pl.ch, slot := slot, sub := pl.sub, rank := pl.rank, bg := pl.bg, ba := pl.ba, row := pl.row, status := .pending,
                          faults := min 255 faults, attempts := 0, time := fab s }
    let s : State := { s with storeNv := { s.storeNv with spare := s.storeNv.spare ++ [e] } }
    let s := s.scrubCount (s.partOfDie pl.die) (fun x => { x with rows := x.rows + 1 })
    (s.log .spareRowAdded (srcDie pl.die) (subject (some pl.die) 2 pl.ch pl.rank pl.row [])).unitOut pl.die (.row pl)

/-- A device position of a rank's subchannel is marked (R187). -/
def State.addMark (s : State) (pl : Place) (pos : Nat) : State :=
  if (s.markAt pl).isSome then s
  else
    let m : Mark := { die := pl.die, ch := pl.ch, slot := ((s.dram pl.die).rank pl.ch pl.rank).slot, rank := pl.rank, sub := pl.sub, pos := pos, served := 0 }
    let s : State := { s with storeNv := { s.storeNv with marks := s.storeNv.marks ++ [m] } }
    let s := s.scrubCount (s.partOfDie pl.die) (fun x => { x with marks := x.marks + 1 })
    s.log .deviceMark (srcDie pl.die) (subject (some pl.die) 2 pl.ch pl.rank pos [])

/-- A hard fault at a device position (R187, R203): the 32nd within 24 hours marks it, the second in one row retires the row; a row in the map
counts it, up to 255 (R216). -/
def State.hardFault (s : State) (pl : Place) (pos : Nat) : State :=
  let D := s.dram pl.die
  let key := (pl.ch, pl.rank, pl.sub, pos)
  let times := (agetD D.hardTimes key []).filter (fun c => decide (s.now < c + 24 * 3600 * cS)) ++ [s.now]
  let rk := (pl.ch, pl.rank, pl.sub)
  let row := (4 * pl.bg + pl.ba, pl.row)
  let rows := agetD D.hardRows rk []
  let again := rows.contains row
  let rows' := if again then rows else (if rows.length < 1024 then rows else rows.drop 1) ++ [row]
  let s := s.modDram pl.die (fun D => { D with hardTimes := aset D.hardTimes key times, hardRows := aset D.hardRows rk rows' })
  let s := s.scrubCount (s.partOfDie pl.die) (fun x => { x with hard := x.hard + 1 })
  let s : State := { s with storeNv := { s.storeNv with spare := s.storeNv.spare.map (fun r => if r.stands pl then { r with faults := min 255 (r.faults + 1) } else r) } }
  let s := if 32 ≤ times.length then s.addMark pl pos else s
  if again then s.addSpareRow pl 2 else s

/-- Whether a channel serves drain reads alone: in DRAIN, above 95 °C (R243). -/
def State.drainOnly (s : State) (p d ch : Nat) : Bool := s.mode p == .drain && (s.dram d).dimms.any (fun x => x.1.1 == ch && decide (1520 < x.2.temp))

/-! ### Post-package repair (R217, R218) -/

/-- The outcome of one entry's repair (R218). -/
def SpareRow.repaired (r : SpareRow) (hppr : Bool) : PprOut → SpareRow
  | .noResource => { r with status := .noResource }
  | .pass => { r with status := if hppr then .hpprDone else .spprApplied }
  | .fail => { r with status := .pending, attempts := r.attempts + 1 }

/-- Whether PPR_APPLY tries an entry; an hPPR's own entry under way is one of those. -/
def SpareRow.toTry (r : SpareRow) (mask : Nat) (hppr : Bool) : Bool :=
  bit mask (4 * r.die + r.ch) && (r.status == .pending || (hppr && (r.status == .spprApplied || r.status == .inProgress)))

/-- The map after the outcomes have met its entries in order. -/
def applyPpr (mask : Nat) (hppr : Bool) : List SpareRow → List PprOut → List SpareRow
  | [], _ => []
  | r :: rs, [] => r :: rs
  | r :: rs, o :: os => if r.toTry mask hppr then r.repaired hppr o :: applyPpr mask hppr rs os else r :: applyPpr mask hppr rs (o :: os)

/-- The units out of service follow the map: a row that no entry keeps out is back, one that an entry keeps out leaves (R209, R217, R218). -/
def State.spareUnits (s : State) (p : Nat) : State :=
  let whole (u : OutUnit) : Bool := match u with
    | .row pl => s.storeNv.spare.any (fun r => r.out && r.place.sameRow pl)
    | _ => true
  let s := if (s.store p).out.all whole then s else ((s.modStore p (fun S => { S with out := S.out.filter whole })).rejoin p).retryFrames p
  (s.storeNv.spare.filter (fun r => r.out && (s.partDies p).contains r.die)).foldl (fun s r => s.leaveService p (.row r.place)) s

/-- A PPR_APPLY ends: the map takes its outcomes, rows follow, and RESULT counts passes, failures and outcomes without a resource (R218). -/
def State.endPpr (s : State) (p : Nat) (hppr : Bool) (mask : Nat) (os : List PprOut) : State :=
  let s : State := { s with storeNv := { s.storeNv with spare := applyPpr mask hppr s.storeNv.spare os } }
  let count (o : PprOut) : Nat := (os.filter (· == o)).length
  (s.spareUnits p).endRunning (LongOp.pprOf p) .ok (natLE 4 (count .pass) ++ natLE 4 (count .fail) ++ natLE 4 (count .noResource)) false

/-! ### Refresh and thermal exit (R238, R242) -/

/-- tREFI in core cycles by level: 3.9, 1.95 and 0.975 µs (R238). -/
def refiCycles (level : Nat) : Nat := if level == 0 then 6240 else if level == 1 then 3120 else 1560

/-- Thermal exit of a channel with the record of its cause (R242, R250). -/
def State.thermalExit (s : State) (d ch : Nat) (code : LogCode) : State :=
  match aget (s.dram d).channels ch with
  | some c => if !c.inService then s else (s.log code (srcDie d) (subject (some d) 2 ch 0 0 [])).channelOut d ch true
  | none => s

/-! ### Calibration (R252-R265) -/

def Phy.reset : Phy :=
  { setting := [], target := none, runTemp := 0, runAt := 0, pending := none, absorbed := 0, running := false, unstable := 0, lastWindow := none, windows := 0,
    stepAt := 0, eye := [], works := true }

/-- What a measured item counts in (R257): 0 delay taps, 1 Vref steps, 2 sub-eye heights. Codes that are neither agree as delays do (log 208). -/
def CalItem.kind : CalItem → Nat
  | .csCaVref | .readVref | .writeVref | .dqReadVref | .dqWriteVref => 1
  | .subEye => 2
  | _ => 0

/-- The items of an interface that a recalibration in service may change (R252). -/
def CalItem.inService (e : PhyId) (i : CalItem) : Bool :=
  match e with
  | .dram _ _ _ => [.csCaDelay, .writeLevel, .readGate, .readDelay, .readVref, .writeDelay, .writeVref, .receiverDfe].contains i
  | .onfi _ _ => [.dqReadDelay, .dqReadVref, .dqWriteDelay, .dqWriteVref].contains i
  | _ => [.ctle, .dfe, .ffe, .cdrPhase].contains i

/-- Whether the eye-quality figures meet every minimum (R253). -/
def PhyId.eyeWorks (e : PhyId) (eye : List Nat) : Bool :=
  match e, eye with
  | .dram _ _ _, [rw, rh, ww, wh, cs] => decide (20 ≤ rw) && decide (8 ≤ rh) && decide (18 ≤ ww) && decide (8 ≤ wh) && decide (24 ≤ cs)
  | .onfi _ _, [w, h] => decide (24 ≤ w) && decide (6 ≤ h)
  | .port _, [a, b, c, x, y, z, ber] | .mesh _ _, [a, b, c, x, y, z, ber] => [a, b, c].all (10 ≤ ·) && [x, y, z].all (12 ≤ ·) && decide (ber ≤ 240000)
  | _, _ => false

/-- Whether two measurements of an item agree (R257): two taps, one Vref step, 10 % of the higher eye. -/
def itemAgrees (kind : Nat) (a b : Int) : Bool :=
  let d := (a - b).natAbs
  if kind == 0 then decide (d ≤ 2) else if kind == 1 then decide (d ≤ 1) else decide (10 * d ≤ max a.natAbs b.natAbs)

/-- Whether two measurements of every item agree. -/
def runAgrees (kinds : List Nat) (a b : List Int) : Bool :=
  a.length == b.length && ((kinds.zip (a.zip b)).all (fun x => itemAgrees x.1 x.2.1 x.2.2))

/-- The mean of two measurements, rounded toward the current setting (R257). -/
def meanToward (cur a b : Int) : Int :=
  let lo := (a + b) / 2
  if (a + b) % 2 == 0 || cur ≤ lo then lo else lo + 1

/-- The setting that a run chooses: from the first pair among its measurements that agrees (R257). The heights of sub-eyes are judged and not set; an item that the run may not
change keeps its value (R252). -/
def chooseSetting (m : CalMeas) (may : CalItem → Bool) (cur : List Int) : Option (List Int) :=
  let pairs := match m.runs with
    | a :: b :: c :: _ => [(a, b), (a, c), (b, c)]
    | [a, b] => [(a, b)]
    | _ => []
  (pairs.find? (fun x => runAgrees (m.items.map CalItem.kind) x.1 x.2)).map (fun x =>
    (((m.items.zip (x.1.zip x.2)).filter (fun e => CalItem.kind e.1 < 2)).zipIdx).map (fun e =>
      if may e.1.1 then meanToward (cur.getD e.2 0) e.1.2.1 e.1.2.2 else cur.getD e.2 0))

/-- The SUBJECT of a record about an interface, and its last eye-quality figures (R265, R686). -/
def PhyId.subject (e : PhyId) (vs : List Nat) : List Byte :=
  match e with
  | .dram d ch r => Sys2Proof.Machine.subject (some d) 2 ch r 0 vs
  | .onfi d ch => Sys2Proof.Machine.subject (some d) 3 ch 0 0 vs
  | .port n => Sys2Proof.Machine.subject (some (n / 2)) 1 (n % 2) 0 0 vs
  | .mesh d q => Sys2Proof.Machine.subject (some d) 4 q 0 0 vs

/-- The temperature of a physical interface in 1/16 °C: its die's diode, and for DDR5 the channel's DIMMs where they are hotter (R254). -/
def State.phyTemp (s : State) (e : PhyId) : Int :=
  let die : Int := match aget s.svc.thermal.dies (PhyId.die e) with | some d => (d.temp * 16).floor | none => 400
  match e with
  | .dram d ch _ => ((s.dram d).dimms.filter (fun x => x.1.1 == ch)).foldl (fun m x => max m x.2.temp) die
  | _ => die

/-- A trigger makes a run pending, or is absorbed into the one that is (R255). -/
def State.calTrigger (s : State) (e : PhyId) (why : CalWhy) : State :=
  { s with phys := aupd s.phys e (fun x =>
      if x.pending.isSome || x.running then { x with absorbed := x.absorbed + 1 } else { x with pending := some why }) }

/-- A physical interface whose temperature has moved by 8 °C since its last run (R254). -/
def State.tempMoved (s : State) (e : PhyId) : Bool :=
  match aget s.phys e with
  | some x => decide (128 ≤ (s.phyTemp e - x.runTemp).natAbs)
  | none => false

/-- Temperature triggers of every interface of a die (R254). -/
def State.tempTriggers (s : State) (d : Nat) : State :=
  (s.phys.filter (fun e => PhyId.die e.1 == d)).foldl (fun s e =>
    if s.tempMoved e.1 && e.2.pending.isNone && !e.2.running then s.calTrigger e.1 .temperature else s) s

end Sys2Proof.Machine
end

