-- ==== Sys2Proof/Machine/Dram.lean ====
section
/-! DEFINITION. DRAM channels and calibration (06): refresh, refresh management, DIMM temperatures and power management, calibration runs;
the mesh and service links (R31-R35) and the Ethernet links (R267, R270). -/
namespace Sys2Proof.Machine
open Sys2Proof

/-! ### Refresh (R238-R247) -/

/-- A refresh reduces the activate count of every bank of its rank by RAAIMT (R245; log 27). -/
def DramD.refreshed (D : DramD) (ch r : Nat) : DramD :=
  { D with banks := D.banks.map (fun e => if e.1.1 == ch && e.1.2.2.1 == r then (e.1, { e.2 with raa := e.2.raa - e.2.raaimt }) else e) }

/-- A REFab is issued: the rank takes no other command until tRFC1 has passed (R239). -/
def RankSt.refab (r : RankSt) (now : Nat) : RankSt := { r with busyUntil := now + ceilDiv (r.trfc1 * 8) 5 }

/-- A rank's tREFI elapses, or the rank has time: a REFab is issued, postponed or pulled in (R238-R240). `class2`: reads or merges of class 2 wait; `idle`: nothing
does. R240 says MAY: that a refresh is always postponed while class 2 waits and always pulled in while the rank is idle, and that a postponed one is issued as
soon as no class 2 waits, is the model's choice (DESIGN CHOICE, log 180). -/
def RankSt.refresh (r : RankSt) (now : Nat) (class2 idle : Bool) : RankSt × Bool :=
  let after := r.nextRef + refiCycles r.refi
  if now < r.busyUntil then (r, false)
  else if r.nextRef ≤ now then
    if 0 < r.pulledIn then ({ r with pulledIn := r.pulledIn - 1, nextRef := after }, false)
    else if class2 && r.postponed < 4 then ({ r with postponed := r.postponed + 1, nextRef := after }, false)
    else ({ r with nextRef := after }.refab now, true)
  else if !class2 && 0 < r.postponed then ({ r with postponed := r.postponed - 1 }.refab now, true)
  else if idle && r.postponed == 0 && r.pulledIn < 4 then ({ r with pulledIn := r.pulledIn + 1 }.refab now, true)
  else (r, false)

/-- A rank's refresh decided, with the activate counts that a REFab lowers. -/
def State.refreshRank (s : State) (die ch rank : Nat) (r : RankSt) (class2 idle : Bool) : State :=
  let x := r.refresh s.now class2 idle
  s.modDram die (fun D =>
    let D : DramD := { D with ranks := aset D.ranks (ch, rank) x.1 }
    if x.2 then D.refreshed ch rank else D)

def execRefresh (t : Nat) (die ch rank : Nat) (class2 idle : Bool) (s : State) : Host.Outcome State Fault Refusal :=
  run t s (fun s =>
    match aget (s.dram die).ranks (ch, rank) with
    | none => s
    | some r =>
      if s.pkg != .on || r.retired || !(match aget (s.dram die).channels ch with | some c => c.inService | none => false) then s
      else s.refreshRank die ch rank r class2 idle)

/-- A same-bank refresh-management command: the bank's activate count falls by RAAIMT (R245; log 27). -/
def BankSt.manage (b : BankSt) : BankSt := { b with raa := b.raa - b.raaimt }

/-- One activate of a row of a bank: none while the rolling count is at RAAMMT (R245). The 32-entry table counts it, a new row taking the place of the lowest
count where the table is full; at the row-hammer threshold an RFM goes to the bank, ahead of the activate, and the row's count starts anew (R246, R247). -/
def BankSt.activate (thr : Nat) (b : BankSt) (row : Nat) : BankSt :=
  if b.rfm && b.raammt ≤ b.raa then b
  else
    let low := b.table.foldl (fun m e => min m e.2) (match b.table with | e :: _ => e.2 | [] => 0)
    let n := match aget b.table row with
      | some n => n + 1
      | none => if b.table.length < 32 then 1 else low + 1
    let table := if ahas b.table row || b.table.length < 32 then b.table
      else (match b.table.find? (fun e => e.2 == low) with | some e => adel b.table e.1 | none => b.table)
    if thr ≤ n then { b.manage with raa := b.manage.raa + 1, table := aset table row 0 }
    else { b with raa := b.raa + 1, table := aset table row n }

/-- ROW_HAMMER_THRESHOLD of the partition that a die belongs to (R246, R548). -/
def State.hammerLimit (s : State) (die : Nat) : Nat := match s.partOfDie die with | some p => s.field 8 p 0 2 2 1024 | none => 1024

/-- Activates of a bank's rows, in their order. -/
def State.activates (s : State) (die ch sub rank bank : Nat) (rows : List Nat) : State :=
  let thr := s.hammerLimit die
  s.modDram die (fun D => { D with banks := aupd D.banks (ch, sub, rank, bank) (fun b => rows.foldl (BankSt.activate thr) b) })

/-- Whether a rank takes commands now: its refresh cycle or its calibration window is over (R239, R259). -/
def State.rankFree (s : State) (die ch rank : Nat) : Bool := decide (((s.dram die).rank ch rank).busyUntil ≤ s.now) && decide (((s.dram die).rank ch rank).windowUntil ≤ s.now)

/-- After the activates of a bank, an RFM for a bank whose count has reached RAAIMT, where its DIMM requires refresh management (R245). -/
def execRfm (t : Nat) (die ch sub rank : Nat) (b : BankActs) (s : State) : Host.Outcome State Fault Refusal :=
  run t s (fun s =>
    if !s.rankFree die ch rank then s
    else (s.activates die ch sub rank b.bank b.acts).modDram die (fun D =>
      { D with banks := aupd D.banks (ch, sub, rank, b.bank) (fun b => if b.rfm && b.raaimt ≤ b.raa then b.manage else b) }))

/-- The activates of a bank, the last of them of a row whose count it brings to the row-hammer threshold (R246, R247). -/
def execRowHammerRfm (t : Nat) (die ch sub rank bank : Nat) (rows : List Nat) (s : State) : Host.Outcome State Fault Refusal :=
  run t s (fun s => if !s.rankFree die ch rank then s else s.activates die ch sub rank bank rows)

/-- Every 32 ms the activate tables of a die's banks are reset (R246). -/
def execActivateTableReset (t : Nat) (s : State) : Host.Outcome State Fault Refusal :=
  run t s (fun s =>
    { s with dies := s.dies.map (fun e =>
        if e.2.dram.tableResetAt + 32 * cMs ≤ s.now then
          (e.1, { e.2 with dram := { e.2.dram with tableResetAt := s.now, banks := e.2.dram.banks.map (fun b => (b.1, { b.2 with table := [] })) } })
        else e) })

/-! ### DIMM temperatures (R238, R241-R244, R249, R250) -/

/-- The refresh level that a temperature in 1/16 °C asks for. -/
def tempLevel (temp : Int) : Nat := if temp ≤ 85 * 16 then 0 else if temp ≤ 95 * 16 then 1 else 2

/-- Whether a time that a condition has held since reaches 250 ms. -/
def held250 (since : Option Nat) (now : Nat) : Bool := match since with | some c => decide (c + 250 * cMs ≤ now) | none => false

/-- A rank's refresh level after a sample: shorter at once, longer once every sample has been 3 °C below the threshold for 250 ms (R241). The refresh that is
scheduled stays; the next one after it takes the new interval. -/
def RankSt.sample (r : RankSt) (temp : Int) (now : Nat) : RankSt :=
  let want := tempLevel temp
  let since (b : Bool) (c : Option Nat) : Option Nat := if b then some (c.getD now) else none
  let below95 := since (decide (temp ≤ 92 * 16)) r.below95
  let below85 := since (decide (temp ≤ 82 * 16)) r.below85
  let level := if r.refi < want then want else if held250 below85 now then 0 else if r.refi == 2 && held250 below95 now then 1 else r.refi
  { r with refi := level, below95 := below95, below85 := below85 }

/-- A channel's hot state and cool times after a sample of one of its DIMMs; `all` is its hottest DIMM (R244). -/
def ChannelSt.sample (c : ChannelSt) (temp all : Int) (now : Nat) : ChannelSt :=
  let hot := c.hot || decide (90 * 16 < temp)
  let cool := if all ≤ 87 * 16 && hot then some (match c.coolSince with | some x => x | none => now) else none
  let cooled := match cool with | some x => decide (x + 250 * cMs ≤ now) | none => false
  { c with hot := hot && !cooled, coolSince := if cooled then none else cool,
           under85Since := if all ≤ 85 * 16 then some (match c.under85Since with | some x => x | none => now) else none }

/-- Every sensor of a DIMM is read; the highest governs (R249). A read that fails counts as above 85 °C (R250). -/
def execDimmTempSample (t : Nat) (die ch slot : Nat) (temps : List Int) (ok : Bool) (s : State) : Host.Outcome State Fault Refusal :=
  run t s (fun s =>
    match aget (s.dram die).dimms (ch, slot) with
    | none => s
    | some d =>
      let good := ok && !temps.isEmpty
      let temp := temps.foldl max (temps.headD 0)
      let seen : Int := if good then temp else max d.temp (85 * 16 + 1)
      let d : Dimm := { d with temp := if good then temp else d.temp, sampleAt := s.now, goodAt := if good then s.now else d.goodAt, tempOk := good }
      let s := s.modDram die (fun D => { D with dimms := aset D.dimms (ch, slot) d })
      let all := ((s.dram die).dimms.filter (fun e => e.1.1 == ch)).foldl (fun m e => max m (if e.2.tempOk then e.2.temp else 85 * 16 + 1)) seen
      let s := s.modDram die (fun D => { D with
        ranks := D.ranks.map (fun e => if e.1.1 == ch && e.2.slot == slot then (e.1, e.2.sample seen s.now) else e),
        channels := aupd D.channels ch (fun c => c.sample seen all s.now) })
      let drains := match s.partOfDie die with | some p => s.mode p == .drain | none => false
      let s := if good && (105 * 16 < temp || (95 * 16 < temp && !drains)) then s.thermalExit die ch .thermalExit else s
      s.tempTriggers die)

/-- A channel that left by thermal exit has been cool for 60 s and calibrated on every rank: it returns, and its frames rejoin the pool (R244). -/
def execThermalExitReturn (t : Nat) (die ch : Nat) (s : State) : Host.Outcome State Fault Refusal :=
  run t s (fun s =>
    match aget (s.dram die).channels ch with
    | none => s
    | some c =>
      let cool := match c.under85Since with | some x => due s x (60 * cS) | none => false
      if c.inService || c.exitAt.isNone || !cool || !((s.dram die).ranksOf ch).all (fun r => c.calibratedSinceExit.contains r) then s
      else
        let s := s.modDram die (fun D => { D with channels := aupd D.channels ch (fun c => { c with inService := true, exitAt := none, calibratedSinceExit := [] }) })
        match s.partOfDie die with
        | some p => (s.modStore p (fun S => { S with out := S.out.filter (· != .channel die ch) })).rejoin p |>.retryFrames p
        | none => s)

/-- A DIMM's temperature reads have failed for 10 s: a thermal exit with cause SIDEBAND_LOST (R250). -/
def execSidebandLost (t : Nat) (die ch slot : Nat) (s : State) : Host.Outcome State Fault Refusal :=
  timer t s [.dimmRead die ch slot] (fun s =>
    match aget (s.dram die).dimms (ch, slot) with
    | some d => if !d.tempOk && due s d.goodAt (10 * cS) then s.thermalExit die ch .sidebandLost else s
    | none => s)

/-- A PMIC's status is read; a power-good loss or a fault that disables its outputs retires the DIMM's ranks (R249, R251, R265). -/
def execPmicStatusRead (t : Nat) (die ch slot : Nat) (status : BitVec 8) (fail : Bool) (s : State) : Host.Outcome State Fault Refusal :=
  run t s (fun s =>
    match aget (s.dram die).dimms (ch, slot) with
    | none => s
    | some d =>
      let s := s.modDram die (fun D => { D with dimms := aset D.dimms (ch, slot) { d with pmic := status, pmicFailed := d.pmicFailed || fail } })
      if !fail || d.pmicFailed then s
      else (((s.dram die).ranks.filter (fun e => e.1.1 == ch && e.2.slot == slot)).map (·.1.2)).foldl (fun s r => s.retireRank die ch r .pmicFault) s)

/-! ### Calibration (R252-R265) -/

/-- Whether recalibration may start on an interface: the package is up and its partition is neither in DRAIN nor halted (R256, R511). -/
def State.mayCalibrate (s : State) (e : PhyId) : Bool :=
  s.pkg == .on && (match s.partOfDie (PhyId.die e) with | some p => s.mode p != .drain && s.live p | none => false)

/-- Whether the error-rate trigger of an interface stands (R254): 64 CORRECTED lines of a DDR5 rank in 1 s at two or more device positions; of a SerDes lane a bit error ratio
above 10^-5 or an uncorrectable codeword; of an ONFI channel mean LDPC iterations above the limit of the partition's calibration record, or 16 read retries in 1 s. -/
def State.errorRate (s : State) (e : PhyId) (m : RateMeas) : Bool :=
  match e with
  | .dram d ch r =>
    let l := ((s.dram d).rank ch r).corrections.filter (fun x => decide (s.now ≤ x.1 + cS))
    decide (64 ≤ l.length) && decide (2 ≤ (l.map (·.2)).eraseDups.length)
  | .onfi d _ => decide ((match s.partOfDie d with | some p => s.field 8 p 0 4 2 96 | none => 96) < m.iterations) || decide (16 ≤ m.retries)
  | _ => decide (10000 < m.ber) || decide (0 < m.uncorrectable)

/-- A trigger of R254 fires. -/
def execCalibrationTrigger (t : Nat) (phy : PhyId) (why : CalCause) (s : State) : Host.Outcome State Fault Refusal :=
  run t s (fun s =>
    match aget s.phys phy with
    | none => s
    | some x =>
      match why.why with
      | .temperature => if s.tempMoved phy then s.calTrigger phy .temperature else s
      | .hours => if due s x.runAt (24 * 3600 * cS) then s.calTrigger phy .hours else s
      | .errorRate => if s.errorRate phy why.meas then s.calTrigger phy .errorRate else s
      | .entry => s.calTrigger phy .entry)

/-- The next lower ONFI rate (R263). -/
def onfiStep (ddr3 : Bool) (rate : Nat) : Option Nat :=
  if ddr3 then (if 1200 < rate then some 1200 else if 800 < rate then some 800 else none)
  else if 3200 < rate then some 3200 else if 2400 < rate then some 2400 else if 1600 < rate then some 1600 else none

/-- A channel's interface rate, and its share of the write-back capacity with it (R263, R564). -/
def State.setOnfiRate (s : State) (p : Nat) (c : Nat × Nat) (rate r : Nat) : State :=
  (s.modFlash p (fun F => { F with rates := aset F.rates c r })).modRemote p (fun x =>
    { x with budget := { x.budget with wC := aupd x.budget.wC c (fun w => w * r / rate) } })

/-- The rate under a cap: the first step of R263 at or below it, the lowest one where none is. -/
def onfiUnder (ddr3 : Bool) (cap : Nat) : Nat → Nat → Nat
  | 0, rate => rate
  | n + 1, rate => if rate ≤ cap then rate else match onfiStep ddr3 rate with | some r => onfiUnder ddr3 cap n r | none => rate

/-- A run of an ONFI channel takes a lowered ONFI_RATE_CAP into effect (R564). -/
def State.capOnfi (s : State) (d ch : Nat) : State :=
  match s.partOfDie d with
  | none => s
  | some p =>
    let rate := agetD (s.flash p).rates (d, ch) 0
    let r := onfiUnder (s.field 8 p 0 8 1 0 == 1) (s.field 8 p 0 6 2 3600) 4 rate
    if r == rate then s else (s.setOnfiRate p (d, ch) rate r).recompute

/-- No working setting exists (R258, R263-R265). -/
def State.noSetting (s : State) (e : PhyId) (eye : List Nat) : State :=
  match e with
  | .dram d ch r => s.retireRank d ch r .phyRetired
  | .port n =>
    let s := s.log .phyRetired (srcDie (n / 2)) (PhyId.subject e eye)
    (s.links.filter (fun l => l.1.1 == n)).foldl (fun s l => s.linkDown l.1.1 l.1.2) s
  | .onfi d ch =>
    match s.partOfDie d with
    | none => s
    | some p =>
      let rate := agetD (s.flash p).rates (d, ch) 0
      match onfiStep (s.field 8 p 0 8 1 0 == 1) rate with
      | some r => ((s.setOnfiRate p (d, ch) rate r).calTrigger e .errorRate).recompute
      | none => (s.log .phyRetired (srcDie d) (PhyId.subject e eye)).flashChannelOut p (d, ch)
  | .mesh d _ => s.log .phyRetired (srcDie d) (PhyId.subject e eye)

/-- Whether a run has had the windows that its measurements need: one each on a DDR5 rank or an ONFI channel, none on a SerDes lane (R259). -/
def Phy.windowed (x : Phy) (e : PhyId) (m : CalMeas) : Bool :=
  match e with
  | .dram _ _ _ | .onfi _ _ => decide (m.runs.length ≤ x.windows)
  | _ => true

/-- Whether a rank of an interface is retired: it returns only after a full calibration in SERVICE (R266). -/
def State.staysRetired (s : State) (e : PhyId) : Bool :=
  match e with
  | .dram d ch r => ((s.dram d).rank ch r).retired && (match s.partOfDie d with | some p => s.mode p != .service | none => true)
  | _ => false

/-- A pending run has been measured: it chooses and judges (R253, R257, R258). -/
def execCalibrationRun (t : Nat) (phy : PhyId) (m : CalMeas) (s : State) : Host.Outcome State Fault Refusal :=
  run t s (fun s =>
    match aget s.phys phy with
    | none => s
    | some x =>
      if x.pending.isNone || x.target.isSome || !x.windowed phy m || !s.mayCalibrate phy then s
      else
        let x := { x with pending := none, running := false, windows := 0, runTemp := s.phyTemp phy, runAt := s.now, eye := m.eye }
        match chooseSetting m (CalItem.inService phy) x.setting with
        | none =>
          let n := x.unstable + 1
          let s : State := { s with phys := aset s.phys phy { x with unstable := n, works := x.works && decide (n < 3) } }
          let s := s.log .calUnstable (srcDie (PhyId.die phy)) (PhyId.subject phy [n])
          if n < 3 then s else s.noSetting phy m.eye
        | some set =>
          if !PhyId.eyeWorks phy m.eye then
            ({ s with phys := aset s.phys phy { x with unstable := 0, works := false } } : State).noSetting phy m.eye
          else
            let s : State := { s with phys := aset s.phys phy { x with unstable := 0, works := !s.staysRetired phy, target := some set } }
            match phy with
            | .dram d ch r => s.modDram d (fun D => { D with channels := aupd D.channels ch (fun c =>
                { c with calibratedSinceExit := if c.exitAt.isSome && !c.calibratedSinceExit.contains r then c.calibratedSinceExit ++ [r] else c.calibratedSinceExit }) })
            | .onfi d ch => s.capOnfi d ch
            | _ => s)

/-- Whether two interfaces share the channel that windows hold (R259). -/
def PhyId.sameChannel : PhyId → PhyId → Bool
  | .dram d c _, .dram e f _ => d == e && c == f
  | a, b => a == b

/-- A measurement window opens: at most one per millisecond on a DDR5 channel, per 10 ms on an ONFI channel; a SerDes lane needs none (R259); none opens while a new setting is still being applied (R262). A refresh of the rank that is
due on the cycle is issued first, and the window starts after tRFC1 (R261); for its length, 20 µs at most, the rank takes only refresh. -/
def execCalibrationWindow (t : Nat) (phy : PhyId) (s : State) : Host.Outcome State Fault Refusal :=
  run t s (fun s =>
    let gap : Option Nat := match phy with | .dram _ _ _ => some cMs | .onfi _ _ => some (10 * cMs) | _ => none
    match gap, aget s.phys phy with
    | some gap, some x =>
      let open_ := s.phys.all (fun e => !PhyId.sameChannel e.1 phy || (match e.2.lastWindow with | some w => due s w gap | none => true))
      if x.pending.isNone || x.target.isSome || !open_ || !s.mayCalibrate phy then s
      else
        match phy with
        | .dram d ch r =>
          let k := (s.dram d).rank ch r
          if s.now < k.busyUntil then s
          else
            let s := if k.nextRef ≤ s.now then s.refreshRank d ch r k false false else s
            let at_ := max s.now ((s.dram d).rank ch r).busyUntil
            let s := s.modDram d (fun D => { D with ranks := aupd D.ranks (ch, r) (fun k => { k with windowUntil := at_ + 20 * cUs }) })
            { s with phys := aset s.phys phy { x with running := true, lastWindow := some at_, windows := x.windows + 1 } }
        | _ => { s with phys := aset s.phys phy { x with running := true, lastWindow := some s.now, windows := x.windows + 1 } }
    | _, _ => s)

/-- One step toward a target: the first item that differs moves by one (R260). -/
def stepToward : List Int → List Int → List Int
  | a :: as, b :: bs => if a < b then (a + 1) :: as else if b < a then (a - 1) :: as else a :: stepToward as bs
  | _, bs => bs

/-- Every 2 µs a new setting moves by one tap or step (R260). -/
def execSettingStep (t : Nat) (phy : PhyId) (s : State) : Host.Outcome State Fault Refusal :=
  run t s (fun s =>
    match aget s.phys phy with
    | none => s
    | some x =>
      match x.target with
      | none => s
      | some tgt =>
        if s.pkg != .on || !due s x.stepAt (2 * cUs) then s
        else
          let new := stepToward x.setting tgt
          { s with phys := aset s.phys phy { x with setting := new, stepAt := s.now, target := if new == tgt then none else some tgt } })

/-! ### Mesh and service links (R28-R35) -/

/-- The die at the other end of a mortar-link port (R27, R28; log 28): on the AE-8804 ports 0 and 1 lead in X, 2 and 3 in Y; on the AE-8808
port 0 leads to x + 1, port 1 to x - 1, port 2 to the other row. -/
def meshNeighbour (m : Member) (d port : Nat) : Option Nat :=
  match m with
  | .ae8802 => if port < 4 then some (1 - d) else none
  | .ae8804 => if port < 2 then some (d / 2 * 2 + (1 - d % 2)) else if port < 4 then some ((d + 2) % 4) else none
  | .ae8808 =>
    if port == 0 then some (d / 4 * 4 + (d % 4 + 1) % 4) else if port == 1 then some (d / 4 * 4 + (d % 4 + 3) % 4)
    else if port == 2 then some ((d + 4) % 8) else none

/-- The port at the other end of a mortar link. -/
def meshFar (m : Member) (port : Nat) : Nat := match m with | .ae8808 => (if port == 0 then 1 else if port == 1 then 0 else port) | _ => port

/-- The ports of a die whose links lead to another die and are up (R28, R30). -/
def State.linksBetween (s : State) (a b : Nat) : List Nat :=
  match s.die? a with
  | some D => (List.range 4).filter (fun q => D.meshUp[q]? == some true && meshNeighbour s.hw.member a q == some b)
  | none => []

/-- The port of die `a` whose link carries the packets of an operation to a neighbour `b`: among parallel links the low bits of the operation's table index choose
(R30, R32). Which link carries a packet changes no result: the mesh reorders nothing. -/
def State.linkOf (s : State) (a b op : Nat) : Option Nat := (s.linksBetween a b)[op % (s.linksBetween a b).length]?

/-- A mesh link has passed 16 replays in a millisecond and retrains; if that fails, it is down, and without a parallel link the die at its higher-numbered end counts
as lost (R31, R32). The link has replayed what the operand says since its last retraining, the last 17 within a millisecond (log 28). R30 counts them in the per-die
error registers and does not say at which end: the model counts them on the die whose port the row names (DESIGN CHOICE, log 28). -/
def execMeshLinkRetrain (t : Nat) (a port : Nat) (r : Retrained) (s : State) : Host.Outcome State Fault Refusal :=
  run t s (fun s =>
    match s.die? a, meshNeighbour s.hw.member a port with
    | some D, some b =>
      if s.pkg == .cold || D.meshUp[port]? != some true || r.replays ≤ 16 then s
      else
        let s := s.modDie a (fun D => { D with replays := amod D.replays port (0, 0) (fun x => (0, x.2 + r.replays)) })
        if r.success then s
        else
          let far := meshFar s.hw.member port
          let s := (s.modDie a (fun D => { D with meshUp := D.meshUp.set port false })).modDie b (fun D => { D with meshUp := D.meshUp.set far false })
          if (s.linksBetween a b).isEmpty then s.dieLost (max a b) 0 .meshLink else s
    | _, _ => s)

/-- A controller die's service link fails: the die counts as lost (R35). -/
def execServiceLink (t : Nat) (die : Nat) (s : State) : Host.Outcome State Fault Refusal :=
  run t s (fun s =>
    match s.die? die with
    | some D => if s.pkg == .cold || !D.serviceLink then s else (s.modDie die (fun D => { D with serviceLink := false })).dieLost die 1 .serviceLink
    | none => s)

/-! ### Ethernet links (R267, R270) -/

def execLinkDown (t : Nat) (port brk : Nat) (s : State) : Host.Outcome State Fault Refusal := run t s (fun s => s.linkDown port brk)

/-- A port or breakout has been down for 10 s: its QPs enter ERROR with cause LINK_LOST and no NAK (R267). -/
def execLinkLost (t : Nat) (port brk : Nat) (s : State) : Host.Outcome State Fault Refusal :=
  timer t s [.linkUp port brk] (fun s =>
    match aget s.links (port, brk) with
    | none => s
    | some l =>
      match l.downSince with
      | none => s
      | some c =>
        if l.up || l.lost || !due s c (10 * cS) then s
        else
          let d := port / 2
          let s : State := { s with links := aset s.links (port, brk) { l with lost := true } }
          let s := s.log .portDown (srcDie d) (subject (some d) 1 (port % 2) brk 0 [])
          match s.partOfDie d with
          | none => s
          | some p => ((s.rd d).qps.filter (fun e => e.2.port == port % 2 && e.2.brk == brk)).foldl (fun s e => s.qpError p e.2.qpn e.2.epsn 0x34) s)

/-- A port's receiver detects a signal, the port trains and its link comes up (R270), while the rails are up; an unassigned port is powered down (R37). -/
def execLinkUp (t : Nat) (port brk : Nat) (s : State) : Host.Outcome State Fault Refusal :=
  run t s (fun s => if s.pkg == .on && port < 2 * s.dieCount && s.portAssigned port && s.svc.pins.ethRefclk then s.linkUp port brk else s)

end Sys2Proof.Machine
end

