-- ==== Sys2Proof/Machine/RestoreOps.lean ====
section
/-! DEFINITION. What the mode events share beyond `ModeOps`: the drain set (R365-R378), RESTORE's steps (R379-R386), leaving RESTORE (R510), leaving a
halt (R512), MODE_REQUEST (R520-R522). -/
namespace Sys2Proof.Machine
open Sys2Proof

/-! ### The drain (R365-R370) -/

/-- Whether page `a` is drained before page `b` (R369): priority, then the longest dirty, then the place (log 34). -/
def StoreP.drainsFirst (S : StoreP) (a b : Nat × Nat) : Bool :=
  let A := S.page a.1 a.2
  let B := S.page b.1 b.2
  if A.prio != B.prio then decide (A.prio < B.prio)
  else if A.dirtySince != B.dirtySince then decide (A.dirtySince < B.dirtySince)
  else a.1 < b.1 || (a.1 == b.1 && a.2 ≤ b.2)

/-- The pages to drain, in the order of R369: DIRTY and not on the lost-page list (R368). -/
def State.drainSet (s : State) (p : Nat) : List (Nat × Nat) :=
  let S := s.store p
  ((S.pages.filter (fun e => e.2.dirty && !s.listed p e.1.1 e.1.2)).map (·.1)).mergeSort S.drainsFirst

/-- DIRTY pages in which a line reads FLAGGED: the drain reads every line under R186, and rebuilds such a page under R205 (R368). -/
def State.drainFlagged (s : State) (p : Nat) : List (Nat × Nat) :=
  (s.drainSet p).filter (fun x => ((s.store p).page x.1 x.2).poison == 0 && !((s.store p).page x.1 x.2).rebuilt && !(s.flaggedLines p x.1 x.2).isEmpty)

/-- What the drain reads of a page, noted (R186). -/
def State.drainRead (s : State) (p : Nat) (set : List (Nat × Nat)) : State :=
  set.foldl (fun s x => s.touchLines p x.1 x.2 ((s.store p).errLines x.1 x.2)) s

/-- A drained page's codeword (R322, R370). -/
def State.drainWord (s : State) (p seq : Nat) (x : Nat × Nat) : Codeword :=
  match (s.snapshot p x.1 (x.2 / 4) seq).find? (fun w => w.page == x.2) with
  | some w => w
  | none => { brick := x.1, page := x.2, keyHalf := 0, valid := false, seq := seq, data := [] }

/-- One drain unit: up to four pages under one SEQ, from the drain reserve; each tenant in it counts the unit (R349, R367, R370). -/
def State.drainUnit (s : State) (p : Nat) (pages : List (Nat × Nat)) : State :=
  let r := match s.takeProgram p .drain true none with
    | some (pl, s) => (pl.2.2.2, s)
    | none => ((s.flash p).seq, s.modFlash p (fun F => { F with seq := F.seq + 1 }))
  let cws := pages.map (s.drainWord p r.1)
  let s := r.2.modDrain p (fun D => { D with units := D.units ++ cws })
  ((pages.map (fun x => (s.store p).tenantOf x.1)).eraseDups).foldl (fun s t => s.meter p (s.homeDie p) t 11 1) s

/-- Four at a time. -/
def chunks4 {α : Type} : List α → List (List α)
  | a :: b :: c :: d :: rest => [a, b, c, d] :: chunks4 rest
  | [] => []
  | l => [l]

/-- Rows that a drain has left open are closed with their XOR units (R325, R365 step 11). -/
def Superblock.closeRow (ppb : Nat) (sb : Superblock) : Superblock :=
  if sb.state == .openWrite || sb.state == .openReloc || sb.state == .drain then
    let n := 15 * ceilDiv sb.next 15
    { sb with next := n, xorRows := ceilDiv sb.next 15, state := if n == 15 * ppb then .closed else sb.state }
  else sb

/-! ### RESTORE (R380) -/

/-- RESTORE_TWIN_WAIT (R385). -/
def State.twinWait (s : State) (p : Nat) : Nat := s.field 10 p 0 22 2 60 * cS

/-- Counts for the DRAIN_SHORT records: a page restored, taken from the twin or lost (R385). -/
def State.shortCount (s : State) (p b : Nat) (restored twin lost : Nat) : State :=
  let t := (s.store p).tenantOf b
  s.modDrain p (fun D => { D with short := amod D.short t (0, 0, 0) (fun c => (c.1 + restored, c.2.1 + twin, c.2.2 + lost)) })

/-- DRAIN_SHORT: one record for each tenant affected, once every listed page is settled (R385; log 35). -/
def State.shortLog (s : State) (p : Nat) : State :=
  let D := (s.store p).drain
  if D.awaited.isEmpty then
    (D.short.foldl (fun s e => s.log .drainShort (srcPart p) (subject none 8 0 0 e.1 [e.2.1, e.2.2.1, e.2.2.2])) s).modDrain p (fun D => { D with short := [] })
  else s

/-- The pages of the manifest (R385): restored from a drain unit, awaited from the twin, or lost. -/
def State.settleShort (s : State) (p : Nat) : State :=
  let D := (s.store p).drain
  match D.manifest with
  | none => s
  | some m =>
    (m.2.foldl (fun s x =>
      if D.units.any (fun w => w.brick == x.1 && w.page == x.2 && decide (m.1 ≤ w.seq)) then s.shortCount p x.1 1 0 0
      else
        let mirrored := match (s.store p).brick? x.1 with | some B => B.mirror | none => false
        if mirrored then s.modDrain p (fun D => { D with awaited := D.awaited ++ [x] })
        else (s.markLost p x.1 x.2 5).shortCount p x.1 0 0 1) s).shortLog p

/-- A PINNED_DRAM brick filled: a frame, and every VALID page from flash, listed pages poisoned (R226, R383). -/
def State.fillPinned (s : State) (p b : Nat) : State :=
  let S := s.store p
  match S.brick? b with
  | none => s
  | some B =>
    if B.res.isSome then s
    else
      match S.mostFree (s.allowedCourses p b) with
      | none => s
      | some c =>
        match S.freeFrame c with
        | none => s
        | some f =>
          let s := s.giveFrame p b c f
          (List.range 512).foldl (fun s g =>
            if B.valid.getLsbD g && !s.listed p b g then s.writePage p b g ((s.store p).flash.pageData b g) else s) s

/-- Step 7 (R383): the PINNED_DRAM objects, in increasing object number. -/
def State.fillPinnedAll (s : State) (p : Nat) : State :=
  let objs := (s.storeNv.objects.filter (fun e => e.2.part == p && e.2.placement == 1 && !e.2.removed)).mergeSort (fun a b => a.1 ≤ b.1)
  objs.foldl (fun s o => (List.range o.2.bricks).foldl (fun s i => s.fillPinned p (o.2.first + i)) s) s

/-- Steps 1 and 2: what the last written copies hold goes back into DRAM; what lived in DRAM alone is gone (R372, R380). -/
def State.loadTables (s : State) (p : Nat) (unknown : Bool) : State :=
  let s := s.modPart p (fun P =>
    let c := P.store.ckpt
    let m := P.savedMeters
    { P with
      store := { P.store with
        bricks := c.bricks.map (fun e => (e.1, e.2.brick (agetD c.valid e.1 0))), pages := [], dram := [], parity := [], errs := [], correctives := [],
        rebuilds := [], hampers := [], direct := [], frameWaits := [], evictFor := [], caches := [],
        flash := { P.store.flash with fmap := [], reads := [], wbs := [] } },
      remote := { P.remote with
        windows := P.savedWindows, ops := [], unconfirmed := [], svcQueue := [], svcWork := [], statusRecs := [],
        budget := { P.remote.budget with charged := 0, homeFree := P.remote.budget.data } },
      meters := { m with index := P.meters.index, freeAt := P.meters.freeAt, evSeq := P.meters.evSeq, prevRoot := P.meters.prevRoot,
                         evidence := P.meters.evidence, slotsOn := P.meters.slotsOn, restored := unknown },
      twin := { P.twin with wholeResync := true, mapsHeld := false, mapA := [], mapB := [] } })
  (s.partDies p).foldl (fun s d => s.modDie d (fun D =>
    { D with meters := [], remote := { D.remote with replica := (s.remote p).windows.map (fun e => (e.1, e.2.gen)), credit := 0 } })) s

/-- Steps 4 and 5: replay and consolidation (R381, R382); the second result is false where no group takes a consolidated unit. A page whose copy the
consolidation cannot decode is settled under R343. -/
def State.replayAll (s : State) (p : Nat) (bad : List (Nat × Nat)) : State × Bool :=
  let S := s.store p
  let rs := replay S.ckpt S.flash S.drain.units
  let s := s.modStore p (fun S =>
    { S with
      bricks := S.bricks.map (fun e => (e.1, { e.2 with valid := validAfter e.2.valid rs e.1 })),
      flash := { S.flash with fmap := rs.filterMap (fun r => r.at_.map (fun x => ((r.brick, r.unit), { loc := x.1, keyHalf := x.2.map (·.keyHalf) }))) } })
  (rs.filter (fun r => !r.drained.isEmpty)).foldl (fun acc r =>
    if !acc.2 then acc else (match acc.1.consolidate p r with
    | some s => ((bad.filter (fun x => x.1 == r.brick && x.2 / 4 == r.unit && (s.store p).valid x.1 x.2)).foldl (fun s x => s.uncorrectable p x.1 x.2 false) (s.meterUnit p r.brick 9), true)
    | none => (acc.1, false))) (s, true)

/-- The checkpoint at the end of step 5, with RESTORE_CHECKPOINT (R374, R380). -/
def State.restoreCheckpoint (s : State) (p : Nat) : State :=
  let s := s.noteInvalid p
  let first := (s.store p).ckpt.seq
  let s := (s.modCkpt p (fun c => { c with loaded := true, running := false })).writeAllTracked p
  let s := s.modStore p (fun S => { S with
    ckpt := { S.ckpt with nextSeqStart := S.flash.seq, startAt := s.now, startFabric := fab s, firstSeq := first, opens := S.flash.opens, seq := S.ckpt.seq + S.ckpt.dirty.length, dirty := [],
                          fmap := S.flash.fmap, valid := S.bricks.map (fun e => (e.1, e.2.valid)) } })
  let s := (s.writeFooter p).log .restoreCheckpoint (srcPart p) (values [])
  s.modDrain p (fun D => { D with fact := .checkpoint })

/-- The pages that a short drain could not restore are asked of the twin (R435). -/
def State.askAwaited (s : State) (p : Nat) : State :=
  if (s.twin p).paired then
    (s.store p).drain.awaited.foldl (fun s x => (s.modTwin p (fun T => { T with pageReqs := T.pageReqs ++ [x] })).mirror p 9 (natBE 8 (pageAddr x.1 x.2))) s
  else s

/-- RESTORE (R379-R386; a step fails without a course to load into): steps 1 to 5, then the hold of R519, the end of R386, or steps 6 and 7. -/
def State.restore (s : State) (p : Nat) (bad : List (Nat × Nat)) : State :=
  let S := s.store p
  let case_ := S.drain.case S.ckpt.seqStart
  let s := s.loadTables p (case_ == .unknown)
  match (if S.courses.isEmpty then (s, false) else s.replayAll p bad) with
  | (s, false) => (s.addCause p .restoreFail).enterService p .restoreFail
  | (s, true) =>
    let s := (s.restoreCheckpoint p).modDrain p (fun D => { D with rcase := case_, awaited := [], short := [] })
    let s := if case_ == .short then s.settleShort p else s
    let s := s.modDrain p (fun D => { D with manifest := none, units := [] })
    if case_ == .unknown then (s.addCause p .drainUnknown).enterService p .drainUnknown
    else if (s.modeSt p).hold then (s.addCause p .held).enterService p .held
    else ((s.modDrain p (fun D => { D with rstep := 6, awaitSince := some s.now })).askAwaited p).fillPinnedAll p

/-- The mode that the twin condition of R510 lets a partition enter from RESTORE; none while it waits. -/
def State.exitMode (s : State) (p : Nat) : Option Mode :=
  let T := s.twin p
  if !T.paired then some .serve
  else if T.unpairing.isSome || T.tExp.isNone then none
  else
    match T.role with
    | .follower => if T.resyncDone then some .serve else none
    | .lead => if T.peerFenced then some .solo else some .serve
    | .fenced => none

/-- A RESTORE whose every condition is met enters SERVE or SOLO; the minutes and hours it was away are filled in (R359, R490, R500, R503, R509,
R510). -/
def State.exitRestore (s : State) (p : Nat) : State :=
  let D := (s.store p).drain
  if s.pkg != .on || s.mode p != .restore || (s.modeSt p).halted || D.rstep != 6 || !D.awaited.isEmpty || !s.holdupHeld || !s.time.everLocked then s
  else
    match s.exitMode p with
    | none => s
    | some m =>
      let s := s.setMode p m .stepsDone
      let s := (s.modDrain p (fun D => { D with rstep := 0 })).modTwin p (fun T => { T with solo := m == .solo, resyncDone := false })
      (s.fillMissed p).catchUp p

/-! ### Halts (R511, R512) -/

/-- BUILD begins again from step 1 (R512). -/
def State.restartBuild (s : State) (p : Nat) (c : Cause) : State :=
  let s := if s.mode p == .build then s.modMode p (fun m => { m with halted := false, haltCauses := [], haltComplete := false }) else s.setMode p .build c
  s.modPart p (fun P => { P with store := P.store.cold, remote := { RemoteP.reset with tenants := P.remote.tenants, checkKey := P.remote.checkKey } })

/-- A halted partition leaves its halt once it is complete (R512); THERMAL alone waits for the restart-after-cooling conditions. -/
def State.leaveHalt (s : State) (p : Nat) : State :=
  let m := s.modeSt p
  if !(m.halted && m.haltComplete) || s.hasCause p .power || s.hasCause p .off then s
  else
    let target := match m.pending with | some r => r.target | none => 0
    if target == 7 then s.enterService p .command
    else if target == 4 && !(m.haltCauses == [.thermal] && !m.restartRefused) then s.restartBuild p .command
    else s

/-! ### MODE_REQUEST (R520-R522) -/

/-- A request becomes the pending one: it supersedes another, but not a TARGET DRAIN whose drain runs (R521). -/
def State.holdRequest (s : State) (p : Nat) (r : ModeReq) : State :=
  let m := s.modeSt p
  match m.pending with
  | none => s.modMode p (fun m => { m with pending := some r })
  | some old =>
    if old.target == 6 && m.mode == .drain && !(s.store p).drain.done then
      (match m.later with | some x => s.finish x.cmd 0x103 .superseded | none => s).modMode p (fun m => { m with later := some r })
    else (s.finish old.cmd 0x103 .superseded).modMode p (fun m => { m with pending := some r })

/-- The cell of the matrix for a MODE_REQUEST whose checks have passed (R520-R522, R528). -/
def State.requestMode (s : State) (p : Nat) (r : ModeReq) : State :=
  match s.mode p with
  | .serve | .solo =>
    if r.target == 4 then (s.holdRequest p r).endRequest p .ok else (s.holdRequest p r).startDrain p .command
  | .drain =>
    let s := s.holdRequest p r
    if r.target == 6 then
      let s := s.addCause p .command
      if (s.store p).drain.done then (s.endRequest p .ok).leaveDrain p else s
    else s.leaveDrain p
  | .service =>
    if r.target == 7 then (s.holdRequest p r).endRequest p .ok
    else if r.target == 4 then (s.holdRequest p r).enterRestore p .command
    else (s.holdRequest p r).startDrain p .command
  | .build | .restore =>
    let s := s.holdRequest p r
    if r.target == 4 then (s.modMode p (fun m => { m with hold := false })).leaveHalt p
    else (s.halt p .command).leaveHalt p

end Sys2Proof.Machine
end

