-- ==== Sys2Proof/Machine/ImageOps.lean ====
section
/-! DEFINITION. The configuration image (14): its records and their checks in the order of R551, the effective image and its chain (R554, R559), the
choice at power-up (R555), and what applying an image does (R525, R560-R564). -/
namespace Sys2Proof.Machine
open Sys2Proof

/-! ### Records (R537, R538, R541) -/

/-- Why an image is refused (R551): the reason code, the record's triple and the offset of the field. -/
structure BadImage where
  code : Nat
  rec_ : Nat × Nat × Nat
  off : Nat
  deriving DecidableEq, Repr

def ImgRec.key (r : ImgRec) : Nat × Nat × Nat := (r.typ, r.part, r.inst)

/-- The place of a triple in the order of R538. -/
def ImgRec.rank (r : ImgRec) : Nat := r.typ * 65536 + r.part * 256 + r.inst

/-- A refusal that names no record. -/
def badAt (code off : Nat) : BadImage := { code := code, rec_ := (0, 0, 0), off := off }
/-- A refusal that names a record. -/
def badRec (code : Nat) (r : ImgRec) (off : Nat) : BadImage := { code := code, rec_ := r.key, off := off }

/-- `n` records from the bytes after the header; none where the bytes do not hold them whole with their CRC and padding (R537). -/
def parseRecs : Nat → List Byte → Option (List ImgRec)
  | 0, bs => if bs.isEmpty then some [] else none
  | n + 1, bs =>
    let len := leAt bs 4 4
    let body := 8 + ceilDiv len 8 * 8
    if bs.length < body + 8 then none
    else if leAt bs body 4 != crc32c (bs.take body) || leAt bs (body + 4) 4 != 0 || !allZero (slice bs (8 + len) (body - 8 - len)) then none
    else (parseRecs n (bs.drop (body + 8))).map
      (fun rest => { typ := leAt bs 0 2, part := leAt bs 2 1, inst := leAt bs 3 1, payload := slice bs 8 len } :: rest)

/-- Records in strictly increasing order of their triples (R538). -/
def ordered : List ImgRec → Bool
  | a :: b :: rest => decide (a.rank < b.rank) && ordered (b :: rest)
  | _ => true

/-- The types that the device knows (R542). -/
def knownType (t : Nat) : Bool := (decide (1 ≤ t) && decide (t ≤ 0x10)) || t == 0x8001
/-- Structural types (R542). -/
def structural (t : Nat) : Bool := decide (1 ≤ t) && decide (t ≤ 4)
/-- Types whose records belong to the package. -/
def packageType (t : Nat) : Bool := t == 3 || t == 7 || t == 11 || t == 13 || t == 14 || t == 0x8001

/-- The LENGTH of a type's payload (R543-R550). -/
def typeLength (t : Nat) (b : List Byte) : Nat :=
  match t with
  | 1 => 64 | 2 => 16 | 3 => 24 | 4 => 8 | 5 => 48
  | 6 => 8 + 16 * leAt b 0 1
  | 7 => 8 + 16 * leAt b 0 2 + 8 * leAt b 2 2
  | 8 => 16
  | 9 => 96 + 16 * leAt b 30 1 + 24 * leAt b 31 1 + 8 * leAt b 10 2
  | 10 => 32 + 24 * leAt b 3 1
  | 11 => 8 | 12 => 8
  | 13 => 8 + 4 * leAt b 0 2
  | 14 => 16 | 15 => 8 | 16 => 16
  | _ => 256

/-- The first record that R541 or the LENGTH of its type makes malformed. In a patch a LENGTH of 0 removes a record (R559). -/
def badRecord (patch : Bool) (l : List ImgRec) : Option BadImage :=
  (l.find? (fun r =>
    if 0x8000 ≤ r.typ && !knownType r.typ then false
    else !knownType r.typ || !((patch && r.payload.isEmpty) || r.payload.length == typeLength r.typ r.payload))).map (fun r => badRec 6 r 0)

/-! ### Field ranges (R543-R550) -/

/-- A field's offset, and whether its value lies in its range. -/
def rng (b : List Byte) (off n lo hi : Nat) : Nat × Bool := (off, decide (lo ≤ leAt b off n) && decide (leAt b off n ≤ hi))
def oneOf (b : List Byte) (off n : Nat) (l : List Nat) : Nat × Bool := (off, l.contains (leAt b off n))
def zero (b : List Byte) (off n : Nat) : Nat × Bool := (off, allZero (slice b off n))

/-- The highest INSTANCE of a type (R542). -/
def maxInst (t : Nat) : Nat := match t with | 2 => 15 | 3 => 7 | 4 => 15 | 5 => 63 | _ => 0

def slotFields (b : List Byte) (i : Nat) : List (Nat × Bool) :=
  let o := 8 + 16 * i
  [rng b o 4 3600 604800, (o + 4, decide (leAt b (o + 4) 4 < leAt b o 4)), rng b (o + 8) 4 1 3600, rng b (o + 12) 1 1 3, zero b (o + 13) 3]

/-- Whether a node's parents lead to ambient (R646). -/
def nodeRooted (b : List Byte) : Nat → Nat → Bool
  | 0, _ => false
  | n + 1, i => let p := leAt b (8 + 16 * i) 2; p == 0xFFFF || nodeRooted b n p

def nodeFields (b : List Byte) (n : Nat) : List (Nat × Bool) :=
  let o := 8 + 16 * n
  [(o, leAt b o 2 == 0xFFFF || decide (leAt b o 2 < leAt b 0 2)), (o, nodeRooted b (leAt b 0 2) n), (o + 3, leAt b (o + 3) 1 == 0 || decide (216 ≤ leAt b (o + 3) 1)), zero b (o + 12) 4]

def sourceFields (b : List Byte) (i : Nat) : List (Nat × Bool) :=
  let n := leAt b 0 2
  let o := 8 + 16 * n + 8 * i
  let sum := (((List.range (leAt b 2 2)).filter (fun j => leAt b (8 + 16 * n + 8 * j + 2) 2 == leAt b (o + 2) 2)).map
    (fun j => leAt b (8 + 16 * n + 8 * j + 4) 2)).sum
  [(o, decide (leAt b o 2 < n)), (o + 4, sum == 1000), zero b (o + 6) 2]

def addressFields (b : List Byte) (ports i : Nat) : List (Nat × Bool) :=
  let o := 96 + 16 * leAt b 30 1 + 24 * i
  [rng b o 1 0 (ports - 1), rng b (o + 1) 1 0 7, rng b (o + 4) 1 0 128, zero b (o + 5) 3]

def tapFields (b : List Byte) (ports i : Nat) : List (Nat × Bool) :=
  let o := 96 + 16 * leAt b 30 1 + 24 * leAt b 31 1 + 8 * i
  [rng b o 2 0 (8 * ports - 1), zero b (o + 6) 2]

/-- The fields of a record with their ranges. `ports` is the member's port count. -/
def fieldsOf (ports : Nat) (r : ImgRec) : List (Nat × Bool) :=
  let b := r.payload
  match r.typ with
  | 1 => [zero b 1 1, rng b 16 4 1 268435456, rng b 20 2 0 4095, rng b 22 1 0 168, zero b 23 1, rng b 24 4 1 262144, rng b 28 4 0 4096, zero b 36 28]
  | 2 => [oneOf b 0 1 [2, 4, 8, 16, 32], oneOf b 1 1 [1, 2, 4, 8], rng b 2 1 0 3, oneOf b 3 1 [2, 4, 8]]
  | 3 => [zero b 18 6]
  | 4 => [rng b 0 1 0 1, rng b 1 1 0 2, rng b 2 1 0 1, rng b 3 1 0 15, zero b 4 4]
  | 5 => [rng b 0 2 0 4096, rng b 2 1 0 2, zero b 3 1, rng b 4 4 1 131072, (28, decide (leAt b 28 4 ≤ leAt b 32 4)),
          (36, decide (leAt b 36 4 ≤ leAt b 28 4)), rng b 40 1 0 64, zero b 41 7]
  | 6 => [rng b 0 1 0 16, zero b 1 7] ++ ((List.range (leAt b 0 1)).map (slotFields b)).flatten
  | 7 => [rng b 0 2 1 256, rng b 2 2 1 512, zero b 4 4] ++ ((List.range (leAt b 0 2)).map (nodeFields b)).flatten ++
         ((List.range (leAt b 2 2)).map (sourceFields b)).flatten
  | 8 => [rng b 0 2 4800 8800, rng b 2 2 512 4096, rng b 4 2 16 480, rng b 6 2 800 3600, rng b 8 1 0 1, zero b 9 7]
  | 9 => [rng b 4 2 0 4095, rng b 6 2 1024 65535, oneOf b 8 2 [1024, 2048, 4096, 8192], rng b 10 2 0 128, rng b 12 4 100 20000, rng b 16 4 2000 200000,
          rng b 20 4 65536 16777216, rng b 24 2 16 4096, rng b 26 2 5 1000, (28, leAt b 28 2 / 4096 % 8 == 0), rng b 30 1 0 8, rng b 31 1 1 128] ++
         ((List.range 4).map (fun g => [rng b (80 + 4 * g) 1 0 7, rng b (81 + 4 * g) 1 0 63, rng b (82 + 4 * g) 1 0 1, rng b (83 + 4 * g) 1 0 16])).flatten ++
         ((List.range (leAt b 31 1)).map (addressFields b ports)).flatten ++ ((List.range (leAt b 10 2)).map (tapFields b ports)).flatten
  | 10 => [rng b 0 2 0 4095, rng b 2 1 0 1, rng b 3 1 1 4, rng b 4 4 0 16777215, zero b 14 2, rng b 20 2 1 100, rng b 22 2 1 600,
           (28, leAt b 28 2 / 4096 % 8 == 0), zero b 30 2] ++
          ((List.range (leAt b 3 1)).map (fun i => [rng b (32 + 24 * i) 1 0 (ports - 1), rng b (33 + 24 * i) 1 0 7, zero b (36 + 24 * i) 4])).flatten
  | 11 => [rng b 0 4 2100 1000000, rng b 4 4 10 6000]
  | 12 => [rng b 0 2 16 65535, zero b 2 6]
  | 13 => [rng b 0 2 0 256, zero b 2 6] ++ (List.range (leAt b 0 2)).map (fun i => rng b (10 + 4 * i) 2 1 1000)
  | 14 => [rng b 0 1 0 2, rng b 1 1 0 127, rng b 2 1 0 2, (3, leAt b 3 1 == 0 || decide (252 ≤ leAt b 3 1)),
           (4, leAt b 4 2 == 0xFFFF || decide (leAt b 4 2 < ports)), (6, leAt b 6 2 == 0xFFFF || decide (leAt b 6 2 < ports)),
           rng b 8 4 10 100000, rng b 12 4 1 3600]
  | 15 => [rng b 0 4 10 60000, zero b 4 4]
  | 16 => [rng b 0 2 70 400, rng b 2 2 5 600, rng b 4 4 65536 16777216, rng b 8 4 1000 10000000, rng b 12 4 100 100000]
  | _ => []

/-- FIELD_RANGE: the first record and field outside its range (R551). -/
def badField (ports : Nat) (l : List ImgRec) : Option BadImage :=
  l.findSome? (fun r =>
    if r.payload.isEmpty || !knownType r.typ then none
    else if maxInst r.typ < r.inst then some (badRec 8 r 0)
    else if packageType r.typ && r.part != 0xFF then some (badRec 8 r 0)
    else ((fieldsOf ports r).find? (fun f => !f.2)).map (fun f => badRec 8 r f.1))

/-! ### The shape of an effective image (R36-R39, R542-R550) -/

def eff? (l : List ImgRec) (t p i : Nat) : Option ImgRec := l.find? (fun r => r.typ == t && r.part == p && r.inst == i)
def effD (l : List ImgRec) (t p i : Nat) : List Byte := match eff? l t p i with | some r => r.payload | none => []
def effHas (l : List ImgRec) (t p : Nat) : Bool := l.any (fun r => r.typ == t && r.part == p)

/-- Partitions of an image: those with a PARTITION_MAP (R542). -/
def effParts (l : List ImgRec) : List Nat := (List.range 4).filter (fun p => effHas l 1 p)

def maskBits (n m : Nat) : List Nat := (List.range n).filter (fun i => bit m i)
def effDies (l : List ImgRec) (n p : Nat) : List Nat := maskBits n (leAt (effD l 1 p 0) 0 1)

/-- MISSING_RECORD (R542). -/
def missing (l : List ImgRec) (n : Nat) : Option BadImage :=
  let need : List (Bool × (Nat × Nat × Nat)) :=
    [((effParts l).isEmpty, (1, 0, 0)), (!effHas l 7 0xFF, (7, 0xFF, 0)), (!effHas l 11 0xFF, (11, 0xFF, 0)), (!effHas l 14 0xFF, (14, 0xFF, 0))] ++
    ((effParts l).map (fun p => ([2, 4, 5, 8, 9, 16].map (fun t => (!effHas l t p, (t, p, 0)))) ++
      (effDies l n p).map (fun d => ((eff? l 3 0xFF d).isNone, (3, 0xFF, d))))).flatten
  (need.find? (·.1)).map (fun x => { code := 7, rec_ := x.2, off := 0 })

/-- The next die on the fixed route from `a` to `b` (R27, R29). -/
def nextHop (m : Member) (a b : Nat) : Nat :=
  match m with
  | .ae8802 => b
  | .ae8804 => if a % 2 != b % 2 then a / 2 * 2 + b % 2 else b
  | .ae8808 =>
    let dx := (b % 4 + 4 - a % 4) % 4
    if dx == 0 then b else if dx == 3 then a / 4 * 4 + (a % 4 + 3) % 4 else a / 4 * 4 + (a % 4 + 1) % 4

/-- Whether the fixed route between two dies stays inside a set (R38). -/
def routeIn (m : Member) (set : List Nat) : Nat → Nat → Nat → Bool
  | 0, a, b => a == b
  | n + 1, a, b => if a == b then true else let h := nextHop m a b; set.contains h && routeIn m set n h b

/-- R36-R38 and the masks of one PARTITION_MAP. -/
def shapeOk (m : Member) (l : List ImgRec) (p : Nat) : Bool :=
  let n := memberDies m
  let b := effD l 1 p 0
  let ds := effDies l n p
  let on (per total off bytes : Nat) : Bool := (maskBits total (leAt b off bytes)).all (fun i => ds.contains (i / per))
  decide (leAt b 0 1 < 2 ^ n) && !ds.isEmpty && on 2 16 2 2 && on 4 32 4 4 && on 8 64 8 8 && on 4 32 32 4 &&
  ds.all (fun x => ds.all (fun y => routeIn m ds 4 x y)) &&
  (effParts l).all (fun q => q == p || (effDies l n q).all (fun d => !ds.contains d))

/-- PARTITION_SHAPE (R551). -/
def badShape (m : Member) (l : List ImgRec) : Option BadImage :=
  match l.find? (fun r => knownType r.typ && !packageType r.typ && !(effParts l).contains r.part) with
  | some r => some (badRec 9 r 0)
  | none =>
    if memberDies m < (effParts l).length then some (badAt 9 0)
    else ((effParts l).find? (fun p => !shapeOk m l p)).map (fun p => { code := 9, rec_ := (1, p, 0), off := 0 })

/-- R39, R62, R544 for one course. -/
def courseOk (l : List ImgRec) (n : Nat) (r : ImgRec) : Bool :=
  let b := r.payload
  let w := leAt b 0 1
  let d := leAt b 1 1
  let list := (List.range 8).map (fun i => leAt b (4 + i) 1)
  let dies := list.take d
  let mask := leAt b 12 4
  let map := effD l 1 r.part 0
  w % d == 0 && [1, 2, 4].contains (w / d) && (list.drop d).all (· == 0xFF) && dies.eraseDups.length == d &&
  dies.all (fun x => (effDies l n r.part).contains x && ((List.range 4).filter (fun c => bit mask (4 * x + c))).length == w / d) &&
  (maskBits 32 mask).length == w && (maskBits 32 mask).all (fun i => bit (leAt map 4 4) i) &&
  l.all (fun q => !(q.typ == 2 && q.part == r.part && q.inst != r.inst) || (maskBits 32 mask).all (fun i => !bit (leAt q.payload 12 4) i))

/-- COURSE_SHAPE (R551). -/
def badCourse (n : Nat) (l : List ImgRec) : Option BadImage :=
  (l.find? (fun r => r.typ == 2 && !courseOk l n r)).map (fun r => badRec 0xA r 0)

/-- Tenants that a partition's classes allow (R547). -/
def effTenants (l : List ImgRec) (p : Nat) : Nat := ((l.filter (fun r => r.typ == 5 && r.part == p)).map (fun r => leAt r.payload 0 2)).sum

/-- R24 and R545 for one die: the offset of the first field that breaks them. -/
def pantryBad (m : Member) (l : List ImgRec) (r : ImgRec) : Option Nat :=
  let n := memberDies m
  let b := r.payload
  let g (i : Nat) : Nat := leAt b (2 * i) 2
  let p := (effParts l).find? (fun p => (effDies l n p).contains r.inst)
  let map := match p with | some p => effD l 1 p 0 | none => []
  let ports := (maskBits 16 (leAt map 2 2)).any (fun i => i / 2 == r.inst)
  let checks : List (Nat × Bool) :=
    [(0, decide (b2n ports ≤ g 0) && decide (g 0 ≤ 16)), (2, decide (1 ≤ g 1) && decide (g 1 * 256 ≤ memberOps m / n)),
     (4, decide (ceilDiv (leAt map 24 4 * 32) 65536 ≤ g 2)), (6, g 3 == 512), (8, decide (16 ≤ g 4)), (10, decide (1 ≤ g 5)),
     (12, decide (16 ≤ g 6)), (14, decide (16 ≤ g 7)),
     (16, decide (ceilDiv ((match p with | some p => effTenants l p | none => 0) * 128) 65536 ≤ g 8)),
     (0, decide (((List.range 9).map g).sum ≤ 3072))]
  (checks.find? (fun c => !c.2)).map (·.1)

/-- PANTRY (R551). -/
def badPantry (m : Member) (l : List ImgRec) : Option BadImage :=
  l.findSome? (fun r => if r.typ == 3 then (pantryBad m l r).map (badRec 0xB r) else none)

/-- LIMITS of one FABRIC record: addresses to a port, PFC priorities and buffer shares (R461, R549). -/
def fabricOk (l : List ImgRec) (r : ImgRec) : Bool :=
  let b := r.payload
  let groups := (List.range 4).filter (fun g => leAt b (82 + 4 * g) 1 == 1)
  let map := effD l 1 r.part 0
  let ports := (List.range (leAt b 31 1)).map (fun i => leAt b (96 + 16 * leAt b 30 1 + 24 * i) 1)
  decide (((groups.map (fun g => leAt b (80 + 4 * g) 1)).eraseDups).length ≤ 4) && decide ((groups.map (fun g => leAt b (83 + 4 * g) 1)).sum ≤ 16) &&
  (maskBits 16 (leAt map 2 2)).all (fun i => let n := (ports.filter (· == i)).length; decide (1 ≤ n) && decide (n ≤ 16))

/-- LIMITS of one TWIN record: the group MAC address and the arbiter (R393, R550). -/
def twinOk (l : List ImgRec) (r : ImgRec) : Bool :=
  leAt r.payload 8 1 % 4 == 3 && leAt r.payload 28 2 % 4096 == leAt (effD l 9 r.part 0) 28 2 % 4096

/-- LIMITS (R551). -/
def badLimits (l : List ImgRec) : Option BadImage :=
  if 262144 < ((effParts l).map (fun p => leAt (effD l 1 p 0) 24 4)).sum then some { code := 0xC, rec_ := (1, 0, 0), off := 24 }
  else if 4096 < ((effParts l).map (effTenants l)).sum then some { code := 0xC, rec_ := (5, 0, 0), off := 0 }
  else (l.find? (fun r => (r.typ == 9 && !fabricOk l r) || (r.typ == 10 && !twinOk l r))).map (fun r => badRec 0xC r 0)

/-! ### Header, signature, floor (R536, R539, R540, R552) -/

/-- Bytes of the trailer (R535), and the largest TOTAL_LEN (R536). -/
abbrev trailerLen : Nat := 7283
abbrev maxImage : Nat := 4190208

/-- The option area's owner key hash, empty while none is installed (R673). -/
def State.ownerHash (s : State) : List Byte := match s.svc.nv.option with | some o => o.ownerHash | none => []

def headerOk (kind len : Nat) (b : List Byte) : Bool :=
  decide (128 ≤ b.length) && leAt b 0 4 == 0x58414556 && leAt b 4 2 == 1 && leAt b 6 1 == kind && allZero (slice b 9 3) && allZero (slice b 28 36) &&
  leAt b 12 4 == b.length + trailerLen && leAt b 12 4 == len && decide (len ≤ maxImage) && (kind == 1 || allZero (slice b 64 64))

/-- BAD_HEADER to ROLLBACK, in order (R551). -/
def State.badEnvelope (s : State) (kind len : Nat) (img : Image) : Option BadImage :=
  let b := img.body
  let n := memberDies s.hw.member
  if !headerOk kind len b then some (badAt 1 0)
  else if leAt b 7 1 != n || leAt b 8 1 != n then some (badAt 2 7)
  else if s.ownerHash.isEmpty then some (badAt 3 0)
  else if sha3 img.ownerKey != s.ownerHash || sha3 b != img.digest || !img.sigOk then some (badAt 4 0)
  else if leAt b 20 8 < s.anchor 5 then some (badAt 5 20)
  else none

/-- The records of an image that stands well in its envelope; none where BAD_RECORD applies to its bytes. -/
def imageRecs (b : List Byte) : Option (List ImgRec) :=
  match parseRecs (leAt b 16 4) (b.drop 128) with
  | some l => if ordered l then some l else none
  | none => none

/-- What the device keeps of an image that passes. -/
def storedOf (img : Image) (recs : List ImgRec) : StoredImage :=
  { seq := leAt img.body 20 8, length := img.body.length + trailerLen, digest := img.digest, ownerKey := img.ownerKey, sigOk := img.sigOk,
    body := img.body, records := recs.filter (fun r => knownType r.typ), base := slice img.body 64 64, committed := true }

/-- A stored image as it would be fetched again. -/
def StoredImage.image (i : StoredImage) : Image := { body := i.body, digest := i.digest, ownerKey := i.ownerKey, sigOk := i.sigOk }

/-! ### The chain (R554, R559) -/

/-- A record put in its place in the order of R538; one of LENGTH 0 removes. -/
def putRec (r : ImgRec) : List ImgRec → List ImgRec
  | [] => if r.payload.isEmpty then [] else [r]
  | x :: xs =>
    if r.rank < x.rank then (if r.payload.isEmpty then x :: xs else r :: x :: xs)
    else if r.rank == x.rank then (if r.payload.isEmpty then xs else r :: xs)
    else x :: putRec r xs

/-- The effective image after a patch (R559). -/
def patched (eff : List ImgRec) (patch : List ImgRec) : List ImgRec := patch.foldl (fun l r => putRec r l) eff

/-- The records in effect of a copy. -/
def ImageCopy.eff (c : ImageCopy) : List ImgRec :=
  match c.full with
  | some f => c.patches.foldl (fun l q => patched l q.records) f.records
  | none => []

/-- C_k of a copy (R554). -/
def ImageCopy.chain (c : ImageCopy) : List Byte :=
  match c.full with
  | some f => c.patches.foldl (fun d q => sha3 (d ++ q.digest)) f.digest
  | none => []

/-- Where the next patch's header would start: the next 4,096-byte boundary after what the copy holds (R553, R554). -/
def ImageCopy.end_ (c : ImageCopy) : Nat :=
  match c.full with
  | some f => c.patches.foldl (fun at_ q => ceilDiv (at_ + 256 + q.length) 4096 * 4096) (ceilDiv (4096 + f.length) 4096 * 4096)
  | none => 4096

/-- The fixed fields of a type's payload (R542, R547-R550). -/
def fixedOf (t : Nat) (b : List Byte) : List Byte :=
  match t with
  | 5 => slice b 0 2
  | 8 => slice b 0 2 ++ slice b 8 1
  | 9 => slice b 0 6 ++ slice b 31 1 ++ slice b (96 + 16 * leAt b 30 1) (24 * leAt b 31 1)
  | 10 => slice b 0 14 ++ slice b 16 4 ++ b.drop 32
  | 14 => slice b 0 3 ++ slice b 4 4
  | 16 => slice b 0 2
  | _ => []

/-- Types that hold fixed fields (R559). -/
def holdsFixed (t : Nat) : Bool := [5, 8, 9, 10, 14, 16].contains t

/-- Whether a patch record breaks FIXED_FIELD against the image in effect. -/
def fixedBad (eff : List ImgRec) (r : ImgRec) : Bool :=
  holdsFixed r.typ && (match eff? eff r.typ r.part r.inst with
    | some old => r.payload.isEmpty || fixedOf r.typ old.payload != fixedOf r.typ r.payload
    | none => true)

/-! ### The checks in order (R551) -/

/-- BAD_RECORD to LIMITS of a full image. -/
def State.badBody (s : State) (l : List ImgRec) : Option BadImage :=
  let m := s.hw.member
  let n := memberDies m
  let k := l.filter (fun r => knownType r.typ)
  (badRecord false l).orElse (fun _ => (missing k n).orElse (fun _ => (badField (2 * n) k).orElse (fun _ => (badShape m k).orElse (fun _ =>
    (badCourse n k).orElse (fun _ => (badPantry m k).orElse (fun _ => badLimits k))))))

/-- Objects in force of a partition: their bricks are its allocated ones (R59, R274). -/
def State.objectsOf (s : State) (p : Nat) : List (Nat × Object) := s.storeNv.objects.filter (fun e => e.2.part == p && !e.2.removed)

/-- STATE (R557). -/
def State.badState (s : State) (new : List ImgRec) : Option BadImage :=
  (effParts new).findSome? (fun p =>
    match eff? s.image.eff 1 p 0 with
    | none => none
    | some old =>
      let b := effD new 1 p 0
      let held := (s.objectsOf p).map (fun e => e.2.first + e.2.bricks)
      let bad (off : Nat) : Option BadImage := some { code := 0x10, rec_ := (1, p, 0), off := off }
      if held.isEmpty then none
      else if slice old.payload 20 2 != slice b 20 2 then bad 20
      else if slice old.payload 8 8 != slice b 8 8 then bad 8
      else if leAt b 16 4 != leAt old.payload 16 4 && leAt b 16 4 < held.foldl max 0 then bad 16
      else none)

/-- A full image: the first check that fails, or its records. -/
def State.checkFull (s : State) (len : Nat) (img : Image) (load : Bool) : BadImage ⊕ List ImgRec :=
  match s.badEnvelope 0 len img with
  | some e => .inl e
  | none =>
    match imageRecs img.body with
    | none => .inl (badAt 6 128)
    | some l =>
      match (s.badBody l).orElse (fun _ => if load then s.badState (l.filter (fun r => knownType r.typ)) else none) with
      | some e => .inl e
      | none => .inr l

/-- MISSING_RECORD of a patch: a LENGTH of 0 for a required record, or the last TENANT_CLASS (R542, R559). -/
def removesNeeded (eff patch : List ImgRec) : Option BadImage :=
  (patch.find? (fun r => r.payload.isEmpty && ([7, 8, 9, 11, 14, 16].contains r.typ || structural r.typ ||
    (r.typ == 5 && !effHas (patched eff patch) 5 r.part)))).map (fun r => badRec 7 r 0)

/-- R284 against the tenants already authorised (R564), under the classes of a new effective image. -/
def State.reservesFit (s : State) (eff : List ImgRec) (p : Nat) : Bool :=
  let sum := ((s.remote p).tenants.map (fun e => leAt (effD eff 5 p e.2.cls) 28 4)).sum
  sum == 0 || (s.store p).pool == 0 || decide (8 * sum ≤ 7 * (s.store p).pool)

/-- A patch against a copy's chain and the image in effect: the first check that fails, or its records. -/
def State.checkPatch (s : State) (c : ImageCopy) (eff : List ImgRec) (len : Nat) (img : Image) (load : Bool) : BadImage ⊕ List ImgRec :=
  match s.badEnvelope 1 len img with
  | some e => .inl e
  | none =>
    match imageRecs img.body with
    | none => .inl (badAt 6 128)
    | some l =>
      let n := memberDies s.hw.member
      let k := l.filter (fun r => knownType r.typ)
      let new := patched eff k
      let classes := ((k.filter (fun r => r.typ == 5)).map (·.part)).eraseDups
      let checks : List (Option BadImage) :=
        [badRecord true l, removesNeeded eff k, badField (2 * n) k,
         (k.find? (fun r => !packageType r.typ && !(effParts eff).contains r.part)).map (fun r => badRec 9 r 0),
         badLimits new, if load && !classes.all (s.reservesFit new) then some { code := 0xC, rec_ := (5, 0, 0), off := 28 } else none,
         (k.find? (fun r => structural r.typ)).map (fun r => badRec 0xD r 0),
         (k.find? (fixedBad eff)).map (fun r => badRec 0xE r 0),
         if slice img.body 64 64 != c.chain || 16 ≤ c.patches.length || 4194304 < c.end_ + 256 + len then some (badAt 0xF 64) else none]
      match checks.findSome? id with
      | some e => .inl e
      | none => .inr l

/-! ### Power-up (R555) -/

/-- A stored copy checked again: its image with the patches up to the first that fails; none where the full image fails. -/
def State.recheck (s : State) (c : ImageCopy) : Option (ImageCopy × Bool) :=
  match c.full with
  | none => none
  | some f =>
    match s.checkFull f.length f.image false with
    | .inl _ => none
    | .inr _ =>
      let start : ImageCopy := { c with patches := [] }
      let r := c.patches.foldl (fun (a : ImageCopy × Bool) q =>
        if a.2 then a
        else if !q.committed then (a.1, true)
        else match s.checkPatch a.1 a.1.eff q.length q.image false with
          | .inl _ => (a.1, true)
          | .inr _ => ({ a.1 with patches := a.1.patches ++ [q] }, false)) (start, false)
      some r

/-- The copies a power-up may take, best first: committed, not marked failed, the higher GEN first (R555, R556). -/
def ImageSt.order (i : ImageSt) : List Nat :=
  let ok := (List.range 2).filter (fun k => match i.copies[k]? with | some c => c.committed && !c.failed | none => false)
  match ok with
  | [a, b] =>
    let gen (k : Nat) : Nat := match i.copies[k]? with | some c => c.gen | none => 0
    if gen a < gen b then [b, a] else [a, b]
  | l => l

def State.modImage (s : State) (f : ImageSt → ImageSt) : State := { s with image := f s.image }

/-- Takes a copy: its records are in effect. -/
def State.takeCopy (s : State) (k : Nat) (c : ImageCopy) : State :=
  s.modImage (fun i =>
    { i with copies := modNth i.copies k (fun _ => c), inUse := some k, eff := c.eff, chain := c.chain,
             c0 := match c.full with | some f => f.digest | none => [], gen := i.gen + 1,
             effSeq := match c.patches.getLast? with | some q => q.seq | none => (match c.full with | some f => f.seq | none => 0) })

/-- The choice of R555; false where every copy is refused. `first` is the copy that comes first: another one taken is a fallback. -/
def State.chooseAfter (s : State) (first : Nat) : List Nat → State × Bool
  | [] => (s, false)
  | k :: rest =>
    match s.image.copies[k]? with
    | none => State.chooseAfter s first rest
    | some c =>
      match s.recheck c with
      | some (c', cut) =>
        let s := if k == first then s else s.log .imageFallback srcSvc (values [])
        let s := if cut then s.log .imageChainCut srcSvc (values []) else s
        (s.takeCopy k c', true)
      | none => State.chooseAfter s first rest

/-- The choice of R555 among the copies, best first. -/
def State.chooseImage (s : State) (l : List Nat) : State × Bool := s.chooseAfter (l.headD 0) l

/-! ### Partitions of an image -/

/-- A check key from the random number generator: kb is odd (R110, R111). -/
def State.drawCheckKey (s : State) : (Nat × Nat) × State :=
  let a := s.draw
  let b := a.2.draw
  ((a.1.toNat, b.1.toNat / 2 * 2 + 1), b.2)

/-- A new check key empties the window table (R111, R112). -/
def State.newCheckKey (s : State) (p : Nat) : State :=
  let k := s.drawCheckKey
  (k.2.programKey (65536 + 2 + p) 0 (natLE 8 k.1.1 ++ natLE 8 k.1.2)).modPart p (fun P =>
    { P with remote := { P.remote with checkKey := some k.1, windows := [] }, savedWindows := [] })

/-- Every partition that the effective image does not name loses its check key with its windows: a new one is drawn when an image names it again (R111). -/
def State.stowedKeys (s : State) : State :=
  { s with stowed := s.stowed.map (fun e => (e.1, { e.2 with remote := { e.2.remote with checkKey := none, windows := [] }, savedWindows := [] })) }

/-- A partition of the effective image: what the flash and the NV store keep of it, or a new one; its check key is drawn where its dies differ
from those of its last one (R111). -/
def State.formPart (s : State) (p : Nat) : State :=
  let mask := leAt (s.recD 1 p 0) 0 1
  let old : Part := match s.part? p with
    | some P => P
    | none => (match aget s.stowed p with | some P => P | none => Part.reset)
  let P : Part := { old with mode := { old.mode with provisional := false }, store := { old.store with brickCount := s.brickCount p } }
  let s : State := { s with parts := aset (adel s.parts p) p P, stowed := adel s.stowed p }
  if P.remote.checkKey.isSome && P.dieMask == mask then s
  else (s.newCheckKey p).modPart p (fun P => { P with dieMask := mask })

/-- Partitions that the effective image does not name leave it; the flash keeps what it holds of them. The provisional one leaves nothing. -/
def State.stowOthers (s : State) (keep : List Nat) : State :=
  let gone := s.parts.filter (fun e => !keep.contains e.1 && !e.2.mode.provisional)
  { s with parts := s.parts.filter (fun e => keep.contains e.1 && !e.2.mode.provisional),
           stowed := gone.foldl (fun l e => aset l e.1 e.2.cold) s.stowed }

/-! ### Applying (R525, R560-R564) -/

/-- Partitions that a full image changes, creates or removes (R560). -/
def State.changedParts (s : State) (new : List ImgRec) : List Nat :=
  let n := s.dieCount
  let old := s.image.eff
  let part (l : List ImgRec) (p : Nat) : List ImgRec := l.filter (fun r => (r.typ == 1 || r.typ == 2 || r.typ == 4) && r.part == p)
  (List.range 4).filter (fun p =>
    s.provisional p || part old p != part new p ||
    ((effDies old n p) ++ (effDies new n p)).any (fun d => eff? old 3 0xFF d != eff? new 3 0xFF d))

/-- Levels of every bucket brought to the stamp under the old rates (R564). -/
def State.refillBuckets (s : State) : State :=
  s.partIds.foldl (fun s p => (s.partDies p).foldl (fun s d =>
    (s.rd d).buckets.foldl (fun s e =>
      match aget (s.remote p).tenants e.1 with
      | some T => (match s.tclass? p T.cls with
        | some c => let b := s.bucket p d e.1 c; s.modRd d (fun r => { r with buckets := aset r.buckets e.1 b })
        | none => s)
      | none => s) s) s) s

/-- Nodes of the thermal model after a THERMAL change: each keeps its temperature by index, a new one starts at its diode's reading, or at its
parent's temperature (R564). -/
def State.fitNodes (s : State) : State :=
  (List.range s.nodeCount).foldl (fun s n =>
    if ahas s.svc.thermal.nodes n then s
    else
      let cfg := s.nodeCfg n
      let same := match cfg.diode with
        | some d => (s.svc.thermal.nodes.find? (fun e => (s.nodeCfg e.1).diode == some d)).bind (fun e => e.2.diode)
        | none => none
      let t : Rat := match same with
        | some t => t
        | none => (match cfg.parent with
          | some q => (match aget s.svc.thermal.nodes q with | some x => x.temp | none => (s.svc.thermal.ambient : Rat) / 16)
          | none => (s.svc.thermal.ambient : Rat) / 16)
      s.modTherm (fun x => { x with nodes := x.nodes ++ [(n, { temp := t, diode := same, divergeSince := none, below80Since := none, power := 0 })] }))
    (s.modTherm (fun x => { x with nodes := x.nodes.filter (fun e => decide (e.1 < s.nodeCount)) }))

/-- A new effective image whose live records the partitions adopt at the stamp (R561, R564, R565). -/
def State.adopt (s : State) (new : List ImgRec) : State :=
  let old := s.image.eff
  let differs (t : Nat) : Bool := old.filter (fun r => r.typ == t) != new.filter (fun r => r.typ == t)
  let timetable := (effParts new).filter (fun p => eff? old 6 p 0 != eff? new 6 p 0)
  let s := s.refillBuckets
  let s := s.modImage (fun i => { i with eff := new, gen := i.gen + 1, applyStamp := s.now })
  let s := if differs 7 then s.fitNodes else s
  let s := timetable.foldl (fun s p => s.modPart p (fun P => { P with meters := { P.meters with slotsOn := [] } })) s
  let s := s.partIds.foldl (fun s p => s.retryNumber p) s
  if differs 11 || differs 16 || differs 8 then s.recompute else s

/-- A die whose contexts have all been freed: the generation of each slot that held one has advanced (R102). -/
def RemoteD.emptied (r : RemoteD) : RemoteD :=
  { RemoteD.reset with startGen := r.startGen, gens := r.qps.foldl (fun l e => aset l e.1 (nextGen (r.gen e.1))) r.gens }

/-- A changed partition enters BUILD (R525, R560): its DRAM, its QPs and its settings go; its flash and NV store structures stay. -/
def State.rebuildPart (s : State) (p : Nat) (existed : Bool) : State :=
  let s := s.modPart p (fun P => { P.cold with mode := { P.mode with provisional := false } })
  let s := (s.partDies p).foldl (fun s d => s.modDie d (fun D => { Die.reset with
    lost := D.lost, lostCause := D.lostCause, meshUp := D.meshUp, serviceLink := D.serviceLink,
    remote := D.remote.emptied })) s
  if existed then s.setMode p .build .image
  else ((s.modeRecord (srcPart p) p 0 2 .image []).modMode p (fun m => { m with mode := .build, since := s.now })).announce p

/-- The full image takes effect: changed partitions enter BUILD together, the others adopt its live records (R525, R560). -/
def State.applyFull (s : State) (new : List ImgRec) : State :=
  let changed := s.changedParts new
  let parts := effParts new
  let was := s.partIds.filter (fun p => !s.provisional p)
  let s := changed.foldl (fun s p => s.abortRunning p) s
  let s := s.stowOthers parts
  let s := s.adopt new
  let s := ((changed.filter parts.contains).foldl (fun s p => (s.formPart p).rebuildPart p (was.contains p)) s).portsOff
  (s.modImage (fun i => { i with buildLeft := false })).log .imageApplied srcSvc (values [s.image.effSeq])

/-- The other copy, committed with GEN one above the copy in use (R558). -/
def State.storeFull (s : State) (img : StoredImage) (raise : Bool) : State :=
  let i := s.image
  let k := match i.inUse with | some k => 1 - k | none => 0
  let top := (i.copies.map (·.gen)).foldl max 0
  let gen := match i.inUse with | some j => (match i.copies[j]? with | some c => c.gen + 1 | none => top + 1) | none => top + 1
  (s.nvEraseAll (400 + 64 * k) 64 4).modImage (fun i => { i with copies := modNth i.copies k (fun _ =>
    { gen := gen, full := some img, patches := [], committed := true, failed := false, raiseFloor := raise }) })

/-- RAISE_FLOOR once the image is applied (R552). -/
def State.raiseFloor (s : State) : State :=
  match s.image.inUse with
  | some k => (match s.image.copies[k]? with
    | some c => if c.raiseFloor then (match c.full with | some f => s.addAnchor 5 f.seq | none => s) else s
    | none => s)
  | none => s

/-- A waiting IMAGE_LOAD applies once every changed partition stands in SERVICE or BUILD and those in SERVICE have no DIRTY page left and a
checkpoint complete (R560); one whose partition has left those modes ends with its copy stored (R727). -/
def State.tryApply (s : State) : State :=
  match s.image.applying with
  | none => s
  | some new =>
    let changed := (s.changedParts new).filter (fun p => s.hasPart p)
    let done (s : State) : State := s.modImage (fun i => { i with applying := none, busy := false })
    if !changed.all (fun p => s.mode p == .service || s.mode p == .build) then
      (done s).endRunning (fun l => match l with | .image => true | _ => false) .ok [] true
    else if changed.any (fun p => s.mode p == .service && (s.store p).pages.any (fun e => e.2.dirty)) then s
    else
      let s := changed.foldl (fun s p => if s.mode p == .service && (s.store p).ckpt.loaded then
        (if (s.store p).ckpt.running then s.writeFooter p else s).startCheckpoint p |>.writeFooter p else s) s
      let k := match s.image.inUse with | some k => 1 - k | none => 0
      let s := match s.image.copies[k]? with
        | some c => s.modImage (fun i => { i with inUse := some k, chain := c.chain, c0 := (match c.full with | some f => f.digest | none => []),
                                                  effSeq := (match c.full with | some f => f.seq | none => 0) })
        | none => s
      let s := done (s.applyFull new)
      s.raiseFloor.endRunning (fun l => match l with | .image => true | _ => false) .ok [] true

/-- IMAGE_REFUSED: the reason, the record's triple and the field's offset (R551). -/
def State.imageRefused (s : State) (e : BadImage) : State :=
  s.log .imageRefused srcSvc (values [e.code, e.rec_.1 + e.rec_.2.1 * 65536 + e.rec_.2.2 * 16777216, e.off])

end Sys2Proof.Machine
end

