-- ==== Sys2Proof/Machine/Build.lean ====
section
/-! DEFINITION. BUILD: entry from SEQUENCE with the choice of the image copy (R507, R508, R555), what BUILD reads and checks (R64, R80, R228-R230, R271,
R318-R320, R333), what it sets up, and its end (R353, R509); and the image commands (R558). -/
namespace Sys2Proof.Machine
open Sys2Proof

/-! ### Entry (R507, R508, R519) -/

/-- The hold of R519: the last mode entered before COLD was SERVICE, or the last DRAIN_DONE records COMMAND, BMC, DIE_LOST or METADATA_LOST. -/
def DrainSt.holds (D : DrainSt) : Bool := D.lastMode == 7 || D.lastCauses.any (fun c => c == 4 || c == 5 || c == 8 || c == 9)

/-- Every partition of the effective image enters BUILD from SEQUENCE (R507). -/
def State.enterBuild (s : State) (p : Nat) : State :=
  let s := s.formPart p
  let s := s.modeRecord (srcPart p) p 1 2 .powerUp []
  (s.modPart p (fun P => { P with mode := { ModeSt.reset with hold := P.store.drain.holds, since := s.now } })).announce p

/-- The provisional partition of every die, in SERVICE with cause NO_IMAGE (R508). -/
def State.enterProvisional (s : State) : State :=
  let s := s.stowOthers []
  let s : State := { s with parts := [(0, { Part.reset with mode := { ModeSt.reset with provisional := true, mode := .service, causes := [.noImage], since := s.now } })], image := { s.image with inUse := none, eff := [], chain := [], c0 := [], effSeq := 0 } }
  s.modeRecord (srcPart 0) 0 1 7 .noImage [.noImage]

/-- The steward firmware copy that a power-up takes: committed, not marked failed, with the higher FW_SEQ (R603). -/
def bestCopy (l : List FwCopy) : Option Nat :=
  (l.zipIdx.foldl (fun (best : Option (Nat × Nat)) x =>
    if !x.1.committed || x.1.failed then best
    else match best with
      | some b => if b.1 < x.1.seq then some (x.1.seq, x.2) else some b
      | none => some (x.1.seq, x.2)) none).map (·.2)

/-- Whether a stored copy still passes R601: its key index is not revoked and its FW_SEQ is at or above the floor of its TARGET. Its key, signature and
digest were checked as it was stored. -/
def State.fwPasses (s : State) (target : Nat) (c : FwCopy) : Bool :=
  c.committed && !c.failed && !bit (s.anchor 2) (leAt c.bytes 5 1 % 4) && decide (s.anchor (3 + target) ≤ c.seq)

/-- The copy of a TARGET that a boot takes: the higher FW_SEQ of those that pass (R603). -/
def State.fwChoice (s : State) (target : Nat) : Option Nat :=
  bestCopy ((if target == 0 then s.svc.nv.svcFw else s.svc.nv.stewFw).map (fun c => if s.fwPasses target c then c else { c with committed := false }))

/-- Steps 8 and 9 of the power-up (R507, R508, R555, R603, R604, R623). `steward` tells whether a steward firmware copy has passed. -/
def execBuildEntry (t : Nat) (steward : Bool) (s : State) : Host.Outcome State Fault Refusal :=
  run t s (fun s =>
    if s.seqPhase != .loadFw || s.pkg != .seqUp then s
    else
      match (if steward then s.fwChoice 1 else none) with
      | none => (s.log .bootFail srcSvc (values [])).reverse
      | some k =>
        let s := s.modSvc (fun v => { v with runningStew := k })
        let s := (s.seqStep 254).setPhase .up
        let s := s.modSeq (fun q => { q with retries := 0 })
        let s : State := { s with pkg := .on, pkgCauses := [] }
        match s.chooseImage s.image.order with
        | (s, false) => s.enterProvisional
        | (s, true) =>
          let s := (s.modImage (fun i => { i with buildLeft := false })).raiseFloor
          let s := s.stowOthers (effParts s.image.eff)
          let s := s.fitNodes
          (effParts s.image.eff).foldl (fun s p => s.enterBuild p) s)

/-! ### What BUILD reads (R228-R230, R64, R318-R320) -/

/-- DIMMs of a channel, in slot order. -/
def dimmsOf (r : BuildRep) (c : Nat × Nat) : List DimmInfo :=
  (r.dimms.filter (fun d => d.die == c.1 && d.ch == c.2 && d.slot == 0)) ++ (r.dimms.filter (fun d => d.die == c.1 && d.ch == c.2 && d.slot == 1))

/-- The data rates of R228 for a module among `n` on its channel, highest first. -/
def moduleRates (n kind : Nat) : List Nat := if n == 1 then (if kind == 1 then [8800] else [6400, 5600, 4800]) else [5200]

/-- Whether R228 accepts a module among `n` on its channel: RDIMM or MRDIMM, ×4 devices, 8 data and 2 check devices per subchannel, 32-256 GiB, one of the rates. -/
def moduleOk (n : Nat) (d : DimmInfo) : Bool :=
  d.x4 && d.data == 8 && d.check == 2 && decide (32 ≤ d.gib) && decide (d.gib ≤ 256) && decide (d.kind < 2) && (moduleRates n d.kind).any (fun r => decide (r ≤ d.maxRate))

/-- The slot of a channel's DIMM that R228, R229 or R248 refuses. -/
def badDimm (l : List DimmInfo) : Option Nat :=
  match l with
  | [] => some 0
  | a :: rest =>
    if a.slot != 0 then some a.slot
    else
      match l.find? (fun d => !d.hubOk || !moduleOk l.length d || d.part != a.part || (d.kind == 1 && !rest.isEmpty)) with
      | some d => some d.slot
      | none => if rest.length ≤ 1 then none else some 1

/-- Data rates that a channel's population supports, highest first (R228). -/
def ratesOf (l : List DimmInfo) : List Nat :=
  let top := l.foldl (fun m d => min m d.maxRate) 8800
  (moduleRates l.length (match l with | d :: _ => d.kind | [] => 0)).filter (fun r => decide (r ≤ top))

/-- Logical ranks of a channel. -/
def rankCount (l : List DimmInfo) : Nat := (l.map (·.ranks)).sum

/-! ### Training (R252, R253, R257, R269, R271, R272) -/

/-- The DIMM that holds a logical rank of a channel. -/
def BuildRep.dimmOf (rep : BuildRep) (d c r : Nat) : Option DimmInfo :=
  rep.dimms.find? (fun x => x.die == d && x.ch == c && decide (x.slot * x.ranks ≤ r) && decide (r < (x.slot + 1) * x.ranks))

/-- The serial number that an interface's settings are kept under: that of a rank's DIMM (R272). -/
def BuildRep.serialOf (rep : BuildRep) : PhyId → Nat
  | .dram d c r => (match BuildRep.dimmOf rep d c r with | some x => x.serial | none => 0)
  | _ => 0

/-- The stored setting that training starts from: kept from the last BUILD, under the same serial number (R272). -/
def State.startSetting (s : State) (rep : BuildRep) (e : PhyId) : List Int :=
  match aget s.storeNv.phySettings e with
  | some x => if x.1 == BuildRep.serialOf rep e then x.2 else []
  | none => []

/-- Whether an interface's training finds no working setting: no two measurements agree, or a figure misses its minimum (R253, R257, R258). -/
def State.untrained (s : State) (rep : BuildRep) (x : PhyId × CalMeas) : Bool :=
  (chooseSetting x.2 (fun _ => true) (s.startSetting rep x.1)).isNone || !PhyId.eyeWorks x.1 x.2.eye

/-- What BUILD reads and measures, with the ranks whose training fails (R271). -/
def State.judged (s : State) (rep : BuildRep) : BuildRep :=
  let bad := (rep.settings.filter (s.untrained rep)).map (·.1)
  { rep with dimms := rep.dimms.map (fun d => { d with failed := (d.failed ++ (List.range d.ranks).filter (fun i => bad.contains (.dram d.die d.ch (d.slot * d.ranks + i)))).eraseDups }) }

/-- R64 and R271 for a course: one geometry on every channel, and a rank that works on each. -/
def geometryOk (l : List (List DimmInfo)) : Bool :=
  match l with
  | (a :: rest) :: _ =>
    [1, 2, 4, 8].contains (rankCount (a :: rest)) && [65536, 131072, 262144].contains a.rows &&
    l.all (fun c => rankCount c == rankCount (a :: rest) && c.all (fun d => d.height == a.height && d.ranks == a.ranks && d.rows == a.rows && d.banks == 32) &&
      !c.all (fun d => d.failed.length == d.ranks))
  | _ => false

def parameterPage (l : LunInfo) : List Nat := [l.page, l.spare, l.tprog, l.tr, l.tbers, b2n l.suspend, l.retry, l.blocks, l.ppb]

/-- R318 for one LUN. -/
def lunOk (l : LunInfo) : Bool :=
  l.page == 16384 && decide (1920 ≤ l.spare) && decide (l.tprog ≤ 1800) && decide (l.tr ≤ 120) && decide (l.tbers ≤ 20) && l.suspend && decide (8 ≤ l.retry) &&
  decide (l.blocks * l.ppb * 16384 ≤ 256 * 1073741824)

/-- CEs of a channel and LUNs of a CE, as far as every channel has the same (R319). -/
def lunShape (channels : List (Nat × Nat)) (luns : List LunInfo) : Option (Nat × Nat) :=
  let ces := luns.foldl (fun m l => max m (l.ce + 1)) 0
  let per := luns.foldl (fun m l => max m (l.lun + 1)) 0
  let whole := channels.all (fun c => (List.range ces).all (fun e => (List.range per).all (fun k =>
    (luns.filter (fun l => l.die == c.1 && l.ch == c.2 && l.ce == e && l.lun == k)).length == 1)))
  let n := channels.length * ces * per
  if whole && n == luns.length && n % 16 == 0 && decide (16 ≤ n) && (luns.map parameterPage).eraseDups.length == 1 then some (ces, per) else none

/-- Channels of a course in course order: course channel j on die j mod D, at position j div D among that die's channels (R63). -/
def courseChannels (b : List Byte) : List (Nat × Nat) :=
  let w := leAt b 0 1
  let d := leAt b 1 1
  (List.range w).filterMap (fun j =>
    let die := leAt b (4 + j % d) 1
    (((List.range 4).filter (fun c => bit (leAt b 12 4) (4 * die + c)))[j / d]?).map (fun c => (die, c)))

/-- The address order of a COURSE record (R67). -/
def orderOf (n : Nat) : Order := match n with | 0 => .spray | 1 => .die | 2 => .channel | _ => .bank

/-- A course as BUILD has found it (R62-R66). -/
def makeCourse (b : List Byte) (rep : BuildRep) : Course :=
  let chans := courseChannels b
  let dimms := match chans with | c :: _ => dimmsOf rep c | [] => []
  let r := rankCount dimms
  let rows := match dimms with | d :: _ => d.rows | [] => 0
  let w := leAt b 0 1
  let p := leAt b 3 1
  { w := w, d := leAt b 1 1, order := orderOf (leAt b 2 1), p := p, dies := (List.range (leAt b 1 1)).map (fun i => leAt b (4 + i) 1), channels := chans, r := r,
    h := (match dimms with | d :: _ => d.height | [] => 0), rows := rows, frames := 2 * w * (r * 32 * rows * 128) / (512 * (64 + p)), metaFrames := 0, inService := true,
    retired := [], hand := 0, metaMoved := [], metaDue := [] }

/-- COURSE records of a partition. -/
def State.courseRecs (s : State) (p : Nat) : List (Nat × List Byte) :=
  (s.image.eff.filter (fun r => r.typ == 2 && r.part == p)).map (fun r => (r.inst, r.payload))

/-- M of R79. -/
def State.metaBytesOf (s : State) (p frames : Nat) : Nat :=
  1096 * s.brickCount p + 256 * frames + 184320 * s.nTenants p + s.field 1 p 0 28 4 0 * 1048576

/-- The courses with their metadata frames (R79, R80), and whether they fit in half of every course. -/
def State.fitMeta (s : State) (p : Nat) (cs : List (Nat × Course)) : List (Nat × Course) × Bool :=
  let m := s.metaBytesOf p (cs.map (fun c => c.2.frames)).sum
  let n := ceilDiv m 2097152
  let w := max 1 (cs.map (fun c => c.2.w)).sum
  let cs := cs.map (fun c => (c.1, { c.2 with metaFrames := ceilDiv (n * c.2.w) w }))
  (cs, cs.all (fun c => decide (2 * c.2.metaFrames ≤ c.2.frames)))

/-- The data rate of a partition: the highest that every channel supports and the cap allows (R230). -/
def State.rateOf (s : State) (p : Nat) (chans : List (List DimmInfo)) : Option Nat :=
  [8800, 6400, 5600, 5200, 4800].find? (fun r => decide (r ≤ s.field 8 p 0 0 2 8800) && chans.all (fun c => (ratesOf c).contains r))

/-- The DDR5 channels of a partition as (die, channel): DDR_MASK (R37, R543). -/
def State.ddrChannels (s : State) (p : Nat) : List (Nat × Nat) :=
  ((List.range 32).filter (fun i => bit (s.field 1 p 0 4 4 0) i)).map (fun i => (i / 4, i % 4))

/-- Populated channels of a partition: those of other partitions and unassigned ones are powered down for it (R37, R230). -/
def State.populated (s : State) (p : Nat) (rep : BuildRep) : List (Nat × Nat) := (s.ddrChannels p).filter (fun c => !(dimmsOf rep c).isEmpty)

/-- The first check of BUILD that fails, in the order of its steps. -/
def State.buildCheck (s : State) (p : Nat) (rep : BuildRep) : Option BuildFail :=
  let recs := s.courseRecs p
  let chans := (recs.map (fun c => courseChannels c.2)).flatten
  let onfi := s.onfiChannels p
  let luns := rep.luns.filter (fun l => onfi.contains (l.die, l.ch))
  let cs := recs.map (fun c => (c.1, makeCourse c.2 rep))
  let shape := lunShape onfi luns
  let blocks := match luns with | l :: _ => l.blocks * l.ppb | [] => 0
  let per := match luns with | l :: _ => l.ppb | [] => 0
  let good := (luns.map (fun l => l.blocks - l.bad.length)).sum
  match (chans.findSome? (fun c => (badDimm (dimmsOf rep c)).map (fun k => BuildFail.dimm c.1 c.2 k))) with
  | some e => some e
  | none =>
    if (s.partDies p).any (fun d => match s.die? d with | some D => D.lost | none => true) then some .step
    else if (s.rateOf p ((s.populated p rep).map (dimmsOf rep))).isNone then some .rateCap
    else
      match recs.find? (fun c => !geometryOk ((courseChannels c.2).map (dimmsOf rep))) with
      | some c => some (.geometry c.1)
      | none =>
        match luns.find? (fun l => !lunOk l) with
        | some l => some (.flashUnsupported l.die l.ch l.ce l.lun)
        | none =>
          if shape.isNone || blocks == 0 then some .flashGeometry
          else if good * per * 16384 * 15 * (1000 - s.field 0x10 p 0 0 2 120) / (16 * 1000 * 2097152) < s.brickCount p then some .flashCapacity
          else if !(s.fitMeta p cs).2 then some .metadataFit
          else none

/-- BUILD fails: its record, and SERVICE with cause BUILD_FAIL (R509, R551). -/
def State.buildFails (s : State) (p : Nat) (e : BuildFail) : State :=
  let src := srcPart p
  let s := match e with
    | .dimm d c k => s.log .dimmUnsupported src (subject (some d) 2 c k 0 [])
    | .geometry c => s.log .courseGeometry src (subject none 0 c 0 0 [])
    | .flashUnsupported d c e l => s.log .flashUnsupported src (subject (some d) 3 c e l [])
    | .flashGeometry => s.log .flashGeometry src (values [])
    | .flashCapacity => s.log .flashCapacity src (values [])
    | .metadataFit => s.log .imageRefused src (values [0x11, 1 + p * 65536, 0])
    | .rateCap => s.log .imageRefused src (values [0x12, 8 + p * 65536, 0])
    | .step => s
  (s.addCause p .buildFail).enterService p .buildFail

/-! ### What BUILD sets up -/

/-- A DIMM as BUILD has read it. -/
def dimmAt (d : DimmInfo) (now : Nat) : Dimm :=
  { kind := d.kind, gib := d.gib, serial := d.serial, temp := d.temp, sampleAt := now, goodAt := now, tempOk := true, pmic := 0, pmicFailed := false }

/-- A rank after BUILD: its refresh interval follows its DIMM's temperature (R238). -/
def rankAt (d : DimmInfo) (now : Nat) : RankSt :=
  let level := if d.temp ≤ 85 * 16 then 0 else if d.temp ≤ 95 * 16 then 1 else 2
  { RankSt.reset with slot := d.slot, refi := level, nextRef := now + refiCycles level, trfc1 := d.trfc1 }

/-- DIMMs, ranks, channels and banks of a channel (R228, R238, R245, R249). -/
def State.setChannel (s : State) (c : Nat × Nat) (l : List DimmInfo) : State :=
  let dimms := l.map (fun d => ((c.2, d.slot), dimmAt d s.now))
  let per := match l with | d :: _ => d.ranks | [] => 0
  let ranks := (l.map (fun d => (List.range d.ranks).map (fun i => ((c.2, d.slot * per + i), rankAt d s.now)))).flatten
  let bank : BankSt := match l with
    | d :: _ => { rfm := d.rfm, raa := 0, raaimt := d.raaimt, raammt := d.raammt, table := [] }
    | [] => { rfm := false, raa := 0, raaimt := 0, raammt := 0, table := [] }
  let banks := (ranks.map (fun r => ((List.range 2).map (fun sub => (List.range 32).map (fun b =>
    ((c.2, sub, r.1.2, b), bank)))).flatten)).flatten
  s.modDram c.1 (fun D => { D with
    dimms := D.dimms.filter (fun e => e.1.1 != c.2) ++ dimms,
    ranks := D.ranks.filter (fun e => e.1.1 != c.2) ++ ranks,
    channels := aset D.channels c.2 { inService := true, hot := false, coolSince := none, exitAt := none, under85Since := none, calibratedSinceExit := [] },
    banks := D.banks.filter (fun e => e.1.1 != c.2) ++ banks })

/-- The ranks of a slot. -/
def State.slotOfRank (s : State) (die ch rank : Nat) : Option Nat := (aget (s.dram die).ranks (ch, rank)).map (·.slot)

/-- The spare-row map at BUILD (R217, R219, R266): entries and marks of a slot whose serial number has changed go, SPPR_APPLIED turns back to
PENDING, rows that an hPPR was cut short on take the outcome of the device's test. -/
def State.spareAtBuild (s : State) (p : Nat) (rep : BuildRep) : State :=
  let mine := rep.dimms.filter (fun d => (s.partDies p).contains d.die)
  let changed := mine.filter (fun d => match aget s.storeNv.slotSerials (d.die, d.ch, d.slot) with | some n => n != d.serial | none => false)
  let isChanged (die ch slot : Nat) : Bool := changed.any (fun d => d.die == die && d.ch == ch && d.slot == slot)
  let s := changed.foldl (fun s d =>
    if s.storeNv.spare.any (fun r => r.die == d.die && r.ch == d.ch && r.slot == d.slot) || s.storeNv.marks.any (fun m => m.die == d.die && m.ch == d.ch && m.slot == d.slot)
    then s.log .spdChanged (srcDie d.die) (subject (some d.die) 2 d.ch d.slot 0 []) else s) s
  let kept := s.storeNv.spare.filter (fun r => !isChanged r.die r.ch r.slot)
  let here (r : SpareRow) : Bool := (s.partDies p).contains r.die
  let spare := (kept.foldl (fun (a : List SpareRow × List Bool) r =>
    if !here r then (a.1 ++ [r], a.2)
    else if r.status == .spprApplied then (a.1 ++ [{ r with status := .pending }], a.2)
    else if r.status == .inProgress then (a.1 ++ [{ r with status := if a.2.headD false then .hpprDone else .pending }], a.2.drop 1)
    else (a.1 ++ [r], a.2)) ([], rep.retests)).1
  { s with storeNv := { s.storeNv with
      spare := spare
      marks := s.storeNv.marks.filter (fun m => !isChanged m.die m.ch m.slot)
      slotSerials := mine.foldl (fun l d => aset l (d.die, d.ch, d.slot) d.serial) s.storeNv.slotSerials } }

/-- Ranks that the map retires and rows that it keeps out of service at BUILD (R209, R217, R266); the rows that have had a hard fault are forgotten
(R203). -/
def State.unitsAtBuild (s : State) (p : Nat) : State :=
  let here := s.storeNv.spare.filter (fun r => (s.partDies p).contains r.die)
  let s := (s.partDies p).foldl (fun s d => s.modDram d (fun D => { D with hardRows := [] })) s
  let s := (here.filter (fun r => r.status == .rankRetired)).foldl (fun s r =>
    (s.modDram r.die (fun D => { D with ranks := aset D.ranks (r.ch, r.rank) { D.rank r.ch r.rank with retired := true } })).modStore p (fun S =>
      { S with out := S.out ++ [.rank r.die r.ch r.rank] })) s
  (here.filter (·.out)).foldl (fun s r => s.modStore p (fun S => { S with out := S.out ++ [.row r.place] })) s

/-- Frames on units out of service are no part of the pool; metadata frames among them are replaced (R209, R211). -/
def State.retireFrames (s : State) (p : Nat) : State :=
  (s.store p).courses.foldl (fun s e =>
    let bad := (List.range e.2.frames).filter (fun f => (s.store p).out.any (fun u => e.2.frameOn u f))
    (s.modStore p (fun S => { S with courses := aupd S.courses e.1 (fun C =>
      { C with retired := bad, metaMoved := [], metaDue := bad.filter (fun f => decide (f < C.metaFrames)) }), evacuate := [] })).takeMeta p) s

/-- Good blocks of a member's LUN, in increasing number. -/
def Flash.goodOf (F : Flash) (m j : Nat) : List Nat :=
  let q := F.member m j
  (List.range F.blocks).filter (fun b => !F.badBlocks.contains (q.1, q.2.1, q.2.2, b))

/-- The superblocks of a group at a partition's first BUILD: the i-th good block of each member (R324; log 36). -/
def Flash.newGroup (F : Flash) (m reserve : Nat) : Group :=
  let good := (List.range 16).map (F.goodOf m)
  let n := good.foldl (fun k l => min k l.length) F.blocks
  { readOnly := false, gone := false, reserve := reserve, heavy := false,
    sbs := (List.range n).map (fun i => (i, { state := .erased, blocks := good.map (fun l => l.getD i 0), next := 0, erases := List.replicate 16 0, xorRows := 0, invalidAt := none })) }

/-- Erased superblocks that a group keeps for drains: 1.25 times the largest dirty budget over the groups, and one more (R337). -/
def reserveOf (pages groups ppb : Nat) : Nat := ceilDiv (pages * 5) (4 * 4 * max 1 groups * max 1 (15 * ppb)) + 1

/-- The flash tier of a partition (R318-R324, R353): blocks of a changed LUN are read anew, at the first BUILD of all. -/
def State.setFlash (s : State) (p : Nat) (rep : BuildRep) : State :=
  let chans := s.onfiChannels p
  let luns := rep.luns.filter (fun l => chans.contains (l.die, l.ch))
  let shape := match lunShape chans luns with | some x => x | none => (0, 0)
  let at_ (l : LunInfo) : Nat × Nat × Nat := (chans.findIdx (· == (l.die, l.ch)), l.ce, l.lun)
  let s := s.modFlash p (fun F =>
    let changed := (luns.filter (fun l => aget F.uids (at_ l) != some l.uid)).map at_
    let fresh := (luns.filter (fun l => changed.contains (at_ l))).map (fun l => l.bad.map (fun b => ((at_ l).1, (at_ l).2.1, (at_ l).2.2, b)))
    { F with channels := chans, ces := shape.1, luns := shape.2, retry := (match luns with | l :: _ => l.retry | [] => 0),
             blocks := (match luns with | l :: _ => l.blocks | [] => 0), ppb := (match luns with | l :: _ => l.ppb | [] => 0),
             badBlocks := F.badBlocks.filter (fun b => !changed.contains (b.1, b.2.1, b.2.2.1)) ++ fresh.flatten,
             grown := F.grown.filter (fun b => !changed.contains (b.1, b.2.1, b.2.2.1)),
             units := F.units.filter (fun u => !(F.scanned && changed.contains (u.1.ch, u.1.ce, u.1.lun))),
             uids := luns.map (fun l => (at_ l, l.uid)), rates := rep.rates, scanned := true, chOut := [],
             lunsOut := F.lunsOut.filter (fun x => !changed.contains x) })
  let k := kTemp s.topBand
  let s := s.modRemote p (fun r => { r with budget := { r.budget with wC := rep.rates.map (fun x => (x.1, x.2 * 100 / k)), pMeas := rep.pMeas } })
  let s := s.recompute
  let S := s.store p
  let n := chans.length * shape.1 * shape.2 / 16
  let reserve := reserveOf ((s.remote p).budget.pages * 100 / k) n S.flash.ppb
  let s := s.modFlash p (fun F => { F with groups := if F.groups.length == n then F.groups.map (fun g => (g.1, { g.2 with reserve := reserve }))
                                           else (List.range n).map (fun m => (m, F.newGroup m reserve)) })
  s.opCheck p

/-- Settings of the partition's interfaces: BUILD calibrates every item, from the stored settings where they still apply, and stores what it chooses (R252, R257, R272). -/
def State.setPhys (s : State) (p : Nat) (rep : BuildRep) : State :=
  (rep.settings.filter (fun x => (s.partDies p).contains (PhyId.die x.1))).foldl (fun s x =>
    let start := s.startSetting rep x.1
    let set := (chooseSetting x.2 (fun _ => true) start).getD start
    { s with phys := aset s.phys x.1 { Phy.reset with setting := set, eye := x.2.eye, runTemp := x.2.temp, runAt := s.now },
             storeNv := { s.storeNv with phySettings := aset s.storeNv.phySettings x.1 (BuildRep.serialOf rep x.1, set) } }) s

/-- Ranks whose training failed are retired, and other interfaces without a working setting leave as R265 states (R263, R265, R271). -/
def State.retireFailed (s : State) (p : Nat) (bad : List (PhyId × List Nat)) (rep : BuildRep) : State :=
  let s := bad.foldl (fun s x => match x.1 with | .dram _ _ _ => s | e => s.noSetting e x.2) s
  (rep.dimms.filter (fun d => (s.partDies p).contains d.die)).foldl (fun s d => d.failed.foldl (fun s i =>
    s.retireRank d.die d.ch (d.slot * d.ranks + i) .phyRetired) s) s

/-- Notes that every partition has left BUILD: the power-up counts no further toward R556. -/
def State.noteBuildLeft (s : State) : State :=
  if s.partIds.all (fun p => s.mode p != .build) then s.modImage (fun i => { i with buildLeft := true, badPowerUps := 0 }) else s

/-- Every check has passed: what BUILD has found stands in State, and the partition enters RESTORE (R353, R509). -/
def State.buildDone (s : State) (p : Nat) (rep : BuildRep) : State :=
  let recs := s.courseRecs p
  let chans := (recs.map (fun c => courseChannels c.2)).flatten
  let cs := s.fitMeta p (recs.map (fun c => (c.1, makeCourse c.2 rep)))
  let s := chans.foldl (fun s c => s.setChannel c (dimmsOf rep c)) s
  let s := s.modStore p (fun S => { S with
    courses := cs.1, metaFrames := (cs.1.map (fun c => c.2.metaFrames)).sum, metaBytes := s.metaBytesOf p (cs.1.map (fun c => c.2.frames)).sum,
    brickCount := s.brickCount p, out := [], dataRate := (s.rateOf p ((s.populated p rep).map (dimmsOf rep))).getD 0 })
  let bad := (rep.settings.filter (fun x => (s.partDies p).contains (PhyId.die x.1) && s.untrained rep x)).map (fun x => (x.1, x.2.eye))
  let s := (s.setPhys p rep).spareAtBuild p rep
  let s := ((s.unitsAtBuild p).retireFailed p bad rep).retireFrames p
  let s := s.setFlash p rep
  let ports := (List.range 16).filter (fun i => s.partHasPort p i)
  let s := ports.foldl (fun s i => (List.range (s.breakouts p i)).foldl (fun s b =>
    if rep.portsUp.contains (i, b) then s.linkUp i b else { s with links := aset s.links (i, b) LinkSt.reset }) s) s
  let s := s.scheduleJoins p
  (s.enterRestore p .stepsDone).modImage (fun i => { i with gen := i.gen + 1 })

/-- Every training step and the drain measurement have ended (R269, R353): a failing check sends the partition to SERVICE (R509). -/
def execBuildDone (t : Nat) (part : Nat) (rep : BuildRep) (s : State) : Host.Outcome State Fault Refusal :=
  run t s (fun s =>
    if s.pkg != .on || s.mode part != .build || !s.live part then s
    else
      let rep := s.judged rep
      (match s.buildCheck part rep with
      | some e => s.buildFails part e
      | none => s.buildDone part rep).noteBuildLeft)

/-- A step of BUILD fails (R509, R529 row): what the DIMMs, the NAND or the image's checks give, or the step itself. -/
def execBuildFail (t : Nat) (part : Nat) (why : BuildFail) (rep : BuildRep) (s : State) : Host.Outcome State Fault Refusal :=
  run t s (fun s =>
    if s.pkg != .on || s.mode part != .build || !s.live part then s
    else (s.buildFails part (match s.buildCheck part (s.judged rep) with | some e => e | none => why)).noteBuildLeft)

/-! ### The image commands (R558-R563) -/

/-- IMAGE_LOAD (R558): checked, stored in the copy not in use, and, with APPLY, applied under R560. -/
def execImageLoad (t : Nat) (c : CmdRef) (len : BitVec 32) (flags : BitVec 2) (img : Image) (s : State) : Host.Outcome State Fault Refusal :=
  run t s (fun s => s.pkgCmd c 0x104 false [] (fun s =>
    match s.checkFull len.toNat img true with
    | .inl e => (s.imageRefused e).finishWith c 0x104 .refused e.code [] false
    | .inr recs =>
      let new := storedOf img recs
      let apply := flags.getLsbD 0
      let changed := (s.changedParts new.records).filter (fun p => s.hasPart p)
      if s.pkg != .on || (apply && !changed.all (fun p => s.mode p == .service || s.mode p == .build)) then s.finish c 0x104 .mode
      else if s.image.busy then s.finish c 0x104 .busy
      else
        let s := s.storeFull new (flags.getLsbD 1)
        if apply then ((s.modImage (fun i => { i with busy := true, applying := some new.records })).startRunning c 0x104 .image).tryApply
        else s.finish c 0x104 .ok))

/-- IMAGE_PATCH (R558, R561): checked, stored on the chain of the copy in use, applied at one stamp. -/
def execImagePatch (t : Nat) (c : CmdRef) (len : BitVec 32) (img : Image) (s : State) : Host.Outcome State Fault Refusal :=
  run t s (fun s => s.pkgCmd c 0x105 false [] (fun s =>
    let k := match s.image.inUse with | some k => k | none => 2
    let copy := match s.image.copies[k]? with
      | some x => x
      | none => { gen := 0, full := none, patches := [], committed := false, failed := false, raiseFloor := false }
    match s.checkPatch copy s.image.eff len.toNat img true with
    | .inl e => (s.imageRefused e).finishWith c 0x105 .refused e.code [] false
    | .inr recs =>
      let p := storedOf img recs
      let named := if p.records.any (fun r => packageType r.typ) then s.partIds else (p.records.map (·.part)).eraseDups
      if s.pkg != .on || named.any (fun q => s.mode q == .restore || s.mode q == .drain) then s.finish c 0x105 .mode
      else if s.image.busy then s.finish c 0x105 .busy
      else
        let copy' : ImageCopy := { copy with patches := copy.patches ++ [p] }
        let s := s.modImage (fun i => { i with copies := modNth i.copies k (fun _ => copy'), chain := copy'.chain, effSeq := p.seq })
        ((s.adopt (patched s.image.eff p.records)).log .imageApplied srcSvc (values [p.seq])).finishCfg c 0x105 .ok))

end Sys2Proof.Machine
end

