-- ==== Sys2Proof/Machine/Operands.lean ====
section
/-! DEFINITION. The operand forms of the commands of the control ports and the mailbox: the fields of a descriptor and their places (R719, R720, R733). -/
namespace Sys2Proof.Machine
open Sys2Proof

/-- Fields of a command's PARAMS in the order of its rule: widths in bits, and byte strings (R719). -/
inductive Fld where
  | bits (n : Nat)
  | str (n : Nat)
  deriving DecidableEq, Repr

/-- The fields of a command, or none for an opcode that R733 does not list. A SLOT takes 16 bits, so that BAD_SLOT can name one above 4,095. -/
def cmdFields (op : Nat) : Option (List Fld) :=
  match op with
  | 0x0001 => some []
  | 0x0101 => some [.bits 4, .bits 1]
  | 0x0102 => some [.bits 4]
  | 0x0103 => some [.bits 2, .bits 3]
  | 0x0104 => some [.bits 64, .bits 32, .bits 2]
  | 0x0105 => some [.bits 64, .bits 32]
  | 0x0106 => some [.bits 64]
  | 0x0107 => some [.bits 2, .bits 2]
  | 0x0108 => some [.bits 2]
  | 0x0201 => some [.bits 2, .bits 6, .bits 12, .bits 16, .bits 1, .bits 4, .str 16, .str 16]
  | 0x0202 => some [.bits 2, .bits 12]
  | 0x0203 => some [.bits 2, .bits 4, .bits 3, .bits 3, .bits 12, .bits 6, .bits 7, .bits 24, .bits 24, .bits 16, .str 6, .str 16]
  | 0x0204 => some [.bits 2, .bits 24]
  | 0x0205 => some [.bits 2, .bits 4, .bits 5, .bits 1, .bits 12, .bits 12, .bits 64, .bits 64, .bits 28, .bits 8, .bits 32, .bits 64]
  | 0x0206 => some [.bits 2, .bits 32]
  | 0x0301 => some [.bits 2, .bits 16, .bits 1, .bits 64]
  | 0x0302 => some [.bits 2, .bits 16, .bits 1, .bits 64, .bits 6]
  | 0x0303 => some [.bits 2, .bits 16]
  | 0x0304 => some [.bits 64]
  | 0x0305 => some [.bits 2, .bits 1, .bits 64]
  | 0x0306 => some [.bits 4, .bits 3, .bits 2, .bits 32]
  | 0x0307 => some [.bits 4, .bits 3, .bits 1, .bits 64, .bits 2, .bits 32, .str 12, .bits 64, .bits 64]
  | 0x0308 => some [.bits 4, .bits 3, .bits 2]
  | 0x0309 => some [.bits 4, .bits 3, .bits 1, .bits 64, .bits 2]
  | 0x030A => some [.bits 4, .bits 3, .bits 16, .bits 64]
  | 0x030B => some [.bits 2, .bits 1, .bits 12, .bits 64, .bits 64]
  | 0x030C => some [.bits 64, .bits 32]
  | 0x030D | 0x030E | 0x030F => some [.bits 64]
  | 0x0310 => some [.bits 64, .bits 32, .bits 1]
  | 0x0311 => some [.bits 2]
  | 0x0401 => some [.bits 2, .bits 12, .bits 28, .bits 24, .bits 2, .bits 16]
  | 0x0402 => some [.bits 2, .bits 20]
  | 0x0403 => some [.bits 2, .bits 20, .bits 32, .bits 32, .bits 16, .bits 2]
  | 0x0404 => some [.bits 2, .bits 20, .bits 2, .bits 1]
  | 0x0405 => some [.bits 2, .bits 12, .bits 9, .bits 64]
  | 0x0406 | 0x0407 => some [.bits 2, .bits 8]
  | 0x0501 => some [.bits 2, .bits 2, .bits 2, .bits 4, .bits 28, .bits 28, .bits 6, .bits 64]
  | 0x0502 => some [.bits 2, .bits 1, .bits 32, .bits 16]
  | 0x0503 => some [.bits 2, .bits 28, .bits 9, .bits 1]
  | 0x0601 => some [.bits 1]
  | 0x0602 => some [.bits 32, .bits 16, .bits 64]
  | 0x0603 => some [.bits 1, .bits 7]
  | 0x0604 => some [.bits 64]
  | _ => none

/-- Bytes that a field of n bits takes (R719). -/
def fldBytes (n : Nat) : Nat := if n ≤ 8 then 1 else if n ≤ 16 then 2 else if n ≤ 32 then 4 else 8

/-- Offset and size of a field that starts at or after `at_` (R719). -/
def Fld.place (f : Fld) (at_ : Nat) : Nat × Nat :=
  match f with
  | .bits n => let b := fldBytes n; (ceilDiv at_ b * b, b)
  | .str n => (ceilDiv at_ 4 * 4, n)

/-- Whether a descriptor's bytes hold only what its fields allow, from an offset on: every reserved byte zero, every field within its width (R720). -/
def fieldsFit (d : List Byte) : List Fld → Nat → Bool
  | [], at_ => allZero (d.drop at_)
  | f :: fs, at_ =>
    let pl := f.place at_
    allZero (slice d at_ (pl.1 - at_)) && (match f with | .bits n => decide (leAt d pl.1 pl.2 < 2 ^ n) | .str _ => true) && fieldsFit d fs (pl.1 + pl.2)

/-- The failure of a descriptor that R720 refuses before its command starts. -/
def descFault (d : List Byte) : Option Status :=
  match cmdFields (leAt d 0 2) with
  | none => some .badOpcode
  | some fs => if leAt d 2 1 < 2 && leAt d 3 1 == 0 && fieldsFit d fs 8 then none else some .badField

end Sys2Proof.Machine
end

