-- ==== Sys2Proof/Machine/Remote.lean ====
section
/-! DEFINITION. The remote-access family (03, 04): request packets, congestion, connections, acceptance, placement, responses. -/
namespace Sys2Proof.Machine
open Sys2Proof

/-! ### What follows an operation's end -/

/-- Operations admitted under an old generation of a window that are still in the table (R128). -/
def State.oldOps (s : State) (p idx : Nat) : List Op :=
  match aget (s.remote p).windows idx with
  | some w => (s.remote p).ops.filter (fun o => o.win == idx && o.gen != w.gen && o.farFrom.isNone && o.kind != .status)
  | none => []

/-- Ends the REVOKE_WINDOWs whose windows no old operation holds open any more (R128, R129, R391): a forced one not on the cycle of its forcing. -/
def State.finishRevokes (s : State) (p : Nat) : State :=
  let ready := (s.remote p).windows.filter (fun e => e.2.revoking.isSome && (s.oldOps p e.1).isEmpty && e.2.forced != some s.now &&
    s.running.all (fun r => !(r.op == .revoke p e.1) || r.mseq == 0 || decide (r.mseq ≤ (s.twin p).confirmed) || !(s.twin p).mirrors))
  ready.foldl (fun s e =>
    (s.modRemote p (fun r => { r with windows := aupd r.windows e.1 (fun w => { w with revoking := none, forced := none }) })).endRunning
      (· == .revoke p e.1) (if e.2.forced.isSome then .forced else .ok) [] true) s

/-- FLUSHes of far streams whose points are reached answer (R178, R473). -/
def State.farFlushes (s : State) (p : Nat) : State :=
  ((s.remote p).ops.filter (fun o => o.farFrom.isSome && o.kind.farOp == 7)).foldl (fun s o => s.endFlush p o (s.flushPoint p o)) s

/-- CLOSEs whose streams have no accepted write left are answered (R478). -/
def State.farCloses (s : State) (p : Nat) : State :=
  let ready := (s.fabric p).farStreams.filter (fun e => e.2.closing.isSome && (s.remote p).ops.all (fun o => !(o.farFrom == some e.1.1 && o.qpn == e.1.2)))
  ready.foldl (fun s e =>
    (s.modFabric p (fun F => { F with farStreams := adel F.farStreams e.1 })).farAnswer p e.1.1 8 0 e.1.2 (e.2.closing.getD 0) 0 0 []) s

/-- What a backing partition has to report of its far streams. -/
def State.settleFar (s : State) (p : Nat) : State := (s.farFlushes p).farCloses p

/-- The twin's stream worked off, far requests that may now go, reads that can now be served, and revocations that can now complete. -/
def State.settle (s : State) (p : Nat) : State := (((((s.twinSettle p).forwardHeld p).serveReads p).settleFar p).finishRevokes p).clearLosts p

/-! ### Request packets -/

/-- A packet as its row takes it: an opcode that is not the row's own is one outside R84. -/
def asRow (ok : BitVec 8 → Bool) (p : Pkt) : Pkt := if ok p.op then p else { p with op := 0xFF }

/-- A request packet received and decided, and what its decision lets follow. -/
def State.receiveSettle (s : State) (r : Req) : State :=
  s.frameIn r.pkt.dport r.pkt.brk r.pkt.tag (fun s =>
    let s := s.receive r
    match s.partOfDie (qpnDie r.pkt.dqpn) with
    | some p => s.settle p
    | none => s)

/-- RDMA WRITE First, Middle, Last, Only (R116). -/
def execRdmaWrite (t : Nat) (p : Pkt) (s : State) : Host.Outcome State Fault Refusal :=
  run t s (fun s => s.receiveSettle { pkt := asRow (fun o => o == 6 || o == 7 || o == 8 || o == 0x0A) p, imm := none, cmp := 0, swp := 0 })

/-- RDMA WRITE Last or Only with Immediate (R156, R160-R164). -/
def execRdmaWriteWithImmediate (t : Nat) (p : Pkt) (imm : BitVec 32) (s : State) : Host.Outcome State Fault Refusal :=
  run t s (fun s => s.receiveSettle { pkt := asRow (fun o => o == 9 || o == 0x0B) p, imm := some imm, cmp := 0, swp := 0 })

/-- RDMA READ Request (R145). -/
def execRdmaReadRequest (t : Nat) (p : Pkt) (s : State) : Host.Outcome State Fault Refusal :=
  run t s (fun s => s.receiveSettle { pkt := asRow (· == 0x0C) p, imm := none, cmp := 0, swp := 0 })

/-- COMPARE SWAP (R797). -/
def execCompareSwap (t : Nat) (p : Pkt) (cmp swp : BitVec 64) (s : State) : Host.Outcome State Fault Refusal :=
  run t s (fun s => s.receiveSettle { pkt := asRow (· == 0x13) p, imm := none, cmp := cmp, swp := swp })

/-- FETCH ADD (R797). -/
def execFetchAdd (t : Nat) (p : Pkt) (add : BitVec 64) (s : State) : Host.Outcome State Fault Refusal :=
  run t s (fun s => s.receiveSettle { pkt := asRow (· == 0x14) p, imm := none, cmp := add, swp := 0 })

/-- ATOMIC WRITE (R168). -/
def execAtomicWrite (t : Nat) (p : Pkt) (s : State) : Host.Outcome State Fault Refusal :=
  run t s (fun s => s.receiveSettle { pkt := asRow (· == 0x1D) p, imm := none, cmp := 0, swp := 0 })

/-- FLUSH (R165, R166). -/
def execFlush (t : Nat) (p : Pkt) (sel : BitVec 4) (bits : BitVec 2) (s : State) : Host.Outcome State Fault Refusal :=
  run t s (fun s => s.receiveSettle { pkt := asRow (· == 0x1C) p, imm := none, cmp := sel.setWidth 64, swp := bits.setWidth 64 })

/-- SEND First, Middle, Last, Only (R132-R134). -/
def execSend (t : Nat) (p : Pkt) (s : State) : Host.Outcome State Fault Refusal :=
  run t s (fun s => s.receiveSettle { pkt := asRow isSend p, imm := none, cmp := 0, swp := 0 })

/-! ### Congestion (R139-R141) -/

/-- RATE after a CNP: halved if four or more came in the last 100 µs, else three quarters, and never below 100 Mb/s (R140). RATE is held in whole Mb/s, and what a division
leaves over is cut off, here and in `increaseRate`: the model's choice (log 197). -/
def cnpRate (rate recent : Nat) : Nat := max 100 (if 4 ≤ recent then rate / 2 else rate * 3 / 4)

/-- A CNP for a QP (R140). -/
def execCnp (t : Nat) (f : QpFrame) (s : State) : Host.Outcome State Fault Refusal :=
  run t s (fun s => s.arrive f.arr (fun s => (s.modQp f.qpn (fun c =>
    let times := (c.cnpTimes ++ [s.now]).filter (fun x => decide (s.now < x + 100 * cUs))
    let may := match c.lastDecrease with | some x => decide (x + 20 * cUs ≤ s.now) | none => true
    { c with cnpCount := satInc c.cnpCount, cnpTimes := times, quietSince := s.now, increases := 0,
             rate := if may then cnpRate c.rate times.length else c.rate, lastDecrease := if may then some s.now else c.lastDecrease })).repace f.qpn))

/-- RATE after a quiet interval (R140): the normal increase, or the fast one after ten in a row, up to the line rate. -/
def increaseRate (rate increases line : Nat) : Nat :=
  min line (if 10 ≤ increases then rate + rate / 8 else rate + max (rate / 32) 200)

/-- 40 µs have passed without a CNP (R140, R141). -/
def execRateIncrease (t : Nat) (qpn : BitVec 24) (s : State) : Host.Outcome State Fault Refusal :=
  timer t s [.cnp qpn] (fun s => s.onQp qpn (fun c p s =>
    if due s c.quietSince (40 * cUs) then
      (s.modQp qpn (fun c => { c with rate := increaseRate c.rate c.increases (s.lineRate p (2 * qpnDie qpn + c.port)), increases := c.increases + 1,
                                      quietSince := c.quietSince + 40 * cUs })).repace qpn
    else s))

/-! ### Connections (R91-R106) -/

/-- Whether the private data of a REQ has the form of R91. -/
def credentialForm (b : List Byte) : Bool :=
  b.length == 92 && beAt b 0 2 == 0xA8C1 && beAt b 2 1 == 1 && decide (beAt b 3 1 < 4) && decide (beAt b 4 2 < 4096) && beAt b 6 2 == 0 && allZero (b.drop 24)

/-- The slot interval at the connection rate, in 2^-16 ns (R96, R548). -/
def State.slotStep (s : State) (p : Nat) : Nat := 1000000000 * 65536 / s.field 0xC p 0 0 2 2048

/-- Whether the slot that begins at a time, in units of 2^-16 ns, is unpromised and follows the last one used: no promised slot lies within one step of it (R96, R97). -/
def Admission.open_ (a : Admission) (step at_ : Nat) : Bool :=
  decide (a.nextSlot ≤ at_) && a.promised.all (fun x => decide (at_ + step ≤ x.2) || decide (x.2 + step ≤ at_))

/-- The first unpromised slot from a time on: then, or at the end of a promised or used one (R97). -/
def Admission.first (a : Admission) (step from_ : Nat) : Nat :=
  let ends := ([from_, a.nextSlot] ++ a.promised.map (fun x => x.2 + step)).filter (fun x => decide (from_ ≤ x) && a.open_ step x)
  ends.foldl min ((from_ :: a.nextSlot :: a.promised.map (fun x => x.2 + step)).foldl max 0)

/-- A promise to a requester, known by its address and QPN (log 190): the next unpromised slot from a time on; one that had a promise releases it, for any other to use or be
promised, and gets a slot at the end of the queue (R97, R98). The retry-at time is the slot's, rounded up to a nanosecond (log 198). -/
def State.promise (s : State) (p : Nat) (who : BitVec 128 × BitVec 24) (fromNs : Nat) : Nat × State :=
  let a := (s.remote p).admission
  let had := ahas a.promised who
  let a := { a with promised := adel a.promised who }
  let from_ := fromNs * 65536
  let slot := a.first (s.slotStep p) (if had then a.promised.foldl (fun m x => max m (x.2 + s.slotStep p)) (max from_ a.nextSlot) else from_)
  (ceilDiv slot 65536, s.modRemote p (fun r => { r with admission := { a with promised := aset a.promised who slot } }))

/-- The additional rejection information of a REJ (R94). -/
def rejInfo (cause retry : Nat) : List Byte := natBE 2 0xA8C1 ++ natBE 1 cause ++ natBE 1 0 ++ natBE 8 retry ++ natBE 4 0

/-- Sends a rejection: CM REJ reason 28 with a cause and a retry-at time (R94). -/
def State.rej (s : State) (r : CmReq) (cause retry : Nat) : State := s.sendCmTo r.dport r.brk r.qpn (.rej 28 (rejInfo cause retry))

/-- A REQ's credential has failed: counted against the tenant that it names, authorised or not (R92). -/
def State.badCredential (s : State) (p tenant : Nat) : State :=
  if ahas (s.remote p).tenants tenant then
    s.modRemote p (fun x => { x with tenants := aupd x.tenants tenant (fun T => { T with badCredentials := T.badCredentials + 1 }) })
  else s.tcount p "BAD_CREDENTIAL" tenant

/-! Addresses (R88, R394) -/

/-- The VLAN tag under which a port and breakout carry a fabric address, or a service address where `svc` is set (R88, R549, R550). -/
def State.addrVlan (s : State) (p port brk : Nat) (addr : BitVec 128) (svc : Bool) : Option (BitVec 16) :=
  let r := s.recD (if svc then 10 else 9) p 0
  let base := if svc then 32 else 96 + 16 * leAt r 30 1
  ((List.range (leAt r (if svc then 3 else 31) 1)).find? (fun i =>
    leAt r (base + 24 * i) 1 == port && leAt r (base + 24 * i + 1) 1 == brk && beAt r (base + 24 * i + 8) 16 == addr.toNat)).map
      (fun i => BitVec.ofNat 16 (leAt r (base + 24 * i + 2) 2))

/-- The tag under which a REQ finds its address on the port that it arrives on, and whether that is a service address: a frame with another VLAN number does not reach the
address (R88, log 199). -/
def State.reqAddr (s : State) (p : Nat) (r : CmReq) : Option (BitVec 16 × Bool) :=
  let ok (v : BitVec 16) : Bool := v.toNat % 4096 == r.vlan.toNat % 4096
  match s.addrVlan p r.dport r.brk r.dst true with
  | some v => if ok v then some (v, true) else none
  | none =>
    match s.addrVlan p r.dport r.brk r.dst false with
    | some v => if ok v then some (v, false) else none
    | none => none

/-- The encoding of a path MTU; what is not supported is answered with 4,096 (R85, R103). -/
def pmtuCode (n : Nat) : BitVec 3 := if n == 256 then 1 else if n == 512 then 2 else if n == 1024 then 3 else if n == 2048 then 4 else 5

/-- A new context (R99, R103, R106). -/
def newQp (s : State) (p d slot : Nat) (st : QpState) (twinned : Bool) (policy : BitVec 2) (pmtu : BitVec 3) (tenant : Nat) (dest epsn : BitVec 24)
    (ip : BitVec 128) (mac : BitVec 48) (vlan : BitVec 16) (dscp : BitVec 6) (respRes port brk : Nat) : Qp :=
  { state := st, twinned := twinned, policy := policy, pmtu := pmtu, tenant := tenant, qpn := mkQpn d ((s.rd d).gen slot) slot, dest := dest, epsn := epsn,
    msn := 0, ip := ip, mac := mac, vlan := vlan, dscp := dscp, respRes := respRes, port := port, brk := brk, errCause := 0, errStamp := 0,
    rate := s.lineRate p (2 * d + port), cnpCount := 0, cur := none, saved := [], lastAcc := none, unacked := 0, oldestUnacked := none, gapNaked := false,
    repAt := if st == .connecting then some s.now else none, repResends := 0, repWait := none, closingAt := none, timewaitAt := none, drepPending := false,
    lastCnpSent := none, cnpTimes := [], lastDecrease := none, quietSince := s.now, increases := 0, paceAt := 0, gapSince := none, fetchSince := none,
    fatalAt := none }

/-- Writes a context into its slot. -/
def State.putQp (s : State) (c : Qp) : State :=
  s.modRd (qpnDie c.qpn) (fun r => { r with qps := aset r.qps (qpnSlot c.qpn) c })

/-- The REP of a CONNECTING QP (R99). -/
def State.sendRep (s : State) (q : BitVec 24) : State :=
  match s.qp? q with
  | some c => (s.sendCm q (.rep c.epsn c.respRes c.policy (mtuBytes c.pmtu))).modQp q (fun c => { c with repAt := some s.now, repWait := none })
  | none => s

/-- A REQ that has passed its credential and taken its admission slot (R93, R99, R402): its context takes the tag of the address it names, and at least one responder
resource (R103, log 199). -/
def State.connect (s : State) (p : Nat) (r : CmReq) (tenant : Nat) (cls : TClass) (vlan : BitVec 16) (svc : Bool) : State :=
  let d := r.dport / 2
  match s.freeSlot p d svc with
  | some slot =>
    if cls.qpLimit ≤ s.tenantQps p tenant then s.rej r 0x04 0
    else
      let f := beAt r.priv 3 1
      let policy : BitVec 2 := BitVec.ofNat 2 (if f == 3 then cls.policy else f)
      let c := newQp s p d slot .connecting svc policy (pmtuCode r.pmtu) tenant r.qpn r.psn r.ip r.mac vlan r.dscp (min 64 (max 1 r.respRes)) (r.dport % 2) r.brk
      let s := s.putQp c
      if svc && (s.twin p).mirrors then
        let n := (s.twin p).nextMseq
        (s.mirror p 0x0C (qpBytes c)).modQp c.qpn (fun c => { c with repWait := some n })
      else s.sendRep c.qpn
  | none => s.rej r 0x04 0

/-- A REQ in SERVE or SOLO, its causes in the order of R794. -/
def State.reqServing (s : State) (p : Nat) (r : CmReq) (vlan : BitVec 16) (svc : Bool) : State :=
  let tenant := beAt r.priv 4 2 % 4096
  let who := (r.ip, r.qpn)
  if r.transport != 0 then s.rej r 0x05 0
  else
    match aget (s.remote p).tenants tenant with
    | none => (s.badCredential p tenant).rej r 0x03 0
    | some T =>
      if !credentialForm r.priv || slice r.priv 8 16 != T.token then (s.badCredential p tenant).rej r 0x03 0
      else
        let a := (s.remote p).admission
        let now := fab s * 65536
        let mine := aget a.promised who
        let ok := match mine with | some x => decide (x ≤ now) | none => a.open_ (s.slotStep p) now
        if ok then
          let s := s.modRemote p (fun x => { x with admission :=
            { nextSlot := if mine.isSome then a.nextSlot else now + s.slotStep p, promised := adel a.promised who } })
          match s.tclass? p T.cls with
          | some c => s.connect p r tenant c vlan svc
          | none => (s.badCredential p tenant).rej r 0x03 0
        else
          let x := s.promise p who (fab s)
          x.2.rej r 0x02 x.1

/-- A CM REQ (R88, R91-R99): for an address of the port that it arrives on; one for a service address is the lead's to answer (R402). -/
def execCmReq (t : Nat) (r : CmReq) (s : State) : Host.Outcome State Fault Refusal :=
  run t s (fun s => s.frameIn r.dport r.brk r.tag (fun s =>
    match s.partOfDie (r.dport / 2) with
    | none => s
    | some p =>
      match s.reqAddr p r with
      | none => s
      | some (vlan, svc) =>
      if s.pkg != .on || !s.partHasPort p r.dport || (svc && !((s.twin p).lead)) then s
      else
        match s.mode p with
        | .build | .restore =>
          let x := s.promise p (r.ip, r.qpn) (fab s + 500000000)
          x.2.rej r 0x01 x.1
        | .service => s.rej r 0x06 0
        | .drain => s
        | .serve | .solo => s.reqServing p r vlan svc))

/-- A QP reaches TIMEWAIT: DESTROY_QP of it completes (R104). -/
def State.toTimewait (s : State) (p : Nat) (q : BitVec 24) : State :=
  (s.modQp q (fun c => { c with state := .timewait, timewaitAt := some s.now, drepPending := false, closingAt := none })).endRunning
    (· == .destroyQp p q.toNat) .ok [] false

/-- Whether every admitted operation of a QP has ended. -/
def State.idle (s : State) (p : Nat) (q : BitVec 24) : Bool := (s.remote p).ops.all (fun o => o.qpn != q || o.farFrom.isSome || o.kind == .status)

/-- An RTU (R104). In DRAIN, CM messages are dropped (R95). -/
def execCmRtu (t : Nat) (f : QpFrame) (s : State) : Host.Outcome State Fault Refusal :=
  run t s (fun s => s.arrive f.arr (fun s => s.onQp f.qpn (fun c p s =>
    if s.mode p == .drain || c.state != .connecting then s else s.modQp f.qpn (fun c => { c with state := .ready }))))

/-- A DREQ (R104). -/
def execCmDreq (t : Nat) (f : QpFrame) (s : State) : Host.Outcome State Fault Refusal :=
  run t s (fun s => s.arrive f.arr (fun s => s.onQp f.qpn (fun c p s =>
    if s.mode p == .drain then s
    else
      match c.state with
      | .connecting => (s.sendCm f.qpn .drep).toTimewait p f.qpn
      | .ready =>
        if s.idle p f.qpn then (s.sendCm f.qpn .drep).toTimewait p f.qpn
        else s.modQp f.qpn (fun c => { c with state := .closing, drepPending := true, closingAt := some s.now })
      | .closing => if c.drepPending then s else (s.sendCm f.qpn .drep).toTimewait p f.qpn
      | .timewait => s.sendCm f.qpn .drep
      | .free | .error => s)))

/-- A DREP (R104). -/
def execCmDrep (t : Nat) (f : QpFrame) (s : State) : Host.Outcome State Fault Refusal :=
  run t s (fun s => s.arrive f.arr (fun s => s.onQp f.qpn (fun c p s => if s.mode p == .drain || c.state != .closing then s else s.toTimewait p f.qpn)))

/-- 20 ms have passed since the REP without an RTU or a request (R100). -/
def execRepResend (t : Nat) (qpn : BitVec 24) (s : State) : Host.Outcome State Fault Refusal :=
  timer t s [.request qpn, .rtu qpn] (fun s => s.onQp qpn (fun c p s =>
    match c.repAt with
    | some x =>
      if c.state != .connecting || c.repWait.isSome || !due s x (20 * cMs) then s
      else if c.repResends < 3 then (s.sendRep qpn).modQp qpn (fun c => { c with repResends := c.repResends + 1 })
      else (s.freeQp qpn).endRunning (· == .destroyQp p qpn.toNat) .ok [] false
    | none => s))

/-- 2 s have passed in CLOSING without a DREP, the device's own still pending or not (R104). -/
def execClosingTimeout (t : Nat) (qpn : BitVec 24) (s : State) : Host.Outcome State Fault Refusal :=
  timer t s [.drep qpn] (fun s => s.onQp qpn (fun c p s =>
    match c.closingAt with
    | some x => if c.state == .closing && due s x (2 * cS) then s.toTimewait p qpn else s
    | none => s))

/-- 1 s has passed in TIMEWAIT (R104). -/
def execTimewaitExpiry (t : Nat) (qpn : BitVec 24) (s : State) : Host.Outcome State Fault Refusal :=
  run t s (fun s => s.onQp qpn (fun c _ s =>
    match c.timewaitAt with
    | some x => if c.state == .timewait && due s x cS then s.freeQp qpn else s
    | none => s))

/-- 2 µs have passed since the oldest unacknowledged accepted packet (R118). -/
def execAckCoalesce (t : Nat) (qpn : BitVec 24) (s : State) : Host.Outcome State Fault Refusal :=
  timer t s [.request qpn] (fun s => s.onQp qpn (fun c p s =>
    match c.oldestUnacked with
    | some x => if due s x (2 * cUs) then s.ackNow p qpn else s
    | none => s))

/-! ### The budget (R146-R153) -/

/-- The oldest waiting packet of a die accepted, if its die's credit covers it or the home's pages are its to take (R150). -/
def State.serveDie (s : State) (p d : Nat) : State :=
  match s.waiting p d with
  | [] => s
  | o :: _ =>
    let s := s.acceptHead p d
    if o.atomic then s.tryPlace p o.id else s

/-- The budget lets a waiting packet in (R150). -/
def execBudgetAccept (t : Nat) (part die : Nat) (s : State) : Host.Outcome State Fault Refusal :=
  run t s (fun s => if s.hasPart part then ((s.trimCredit part die).serveDie part die).settle part else s)

/-- A waiting packet discarded before its acceptance (R152, R358, R476): counted, its QP rewound; of a far stream, the later requests that are neither accepted nor
answered are discarded with it, and the serving partition hears of each (R796). Requests still on their way come to be applied: the model's choice (log 200). -/
def State.discard (s : State) (p : Nat) (o : Op) (cause : Nat) : State :=
  let s := s.causeCount o.die cause
  match o.farFrom with
  | some dev =>
    ((s.remote p).ops.filter (fun x => x.sameQp o && decide (o.id ≤ x.id) && (x.accepted.isNone || !x.writes))).foldl (fun s x =>
      (s.endOp p x.id).farAnswer p dev x.kind.farOp 5 x.qpn x.msgLen 0 0 []) s
  | none =>
    if o.mirrored then (s.endOp p o.id).modRd o.die (fun r => { r with immDiscarded := r.immDiscarded + 1 }) else
    let s := s.rewind p o
    match s.qp? o.qpn with
    | some c => if c.twinned then s.fetchGap p c (o.psn + 1) else s
    | none => s

/-- A packet has waited 64 ms: accepted if the budget frees a page on this cycle, else discarded (R152, R49). -/
def execBudgetWait (t : Nat) (part die : Nat) (s : State) : Host.Outcome State Fault Refusal :=
  timer t s [.credit part die] (fun s =>
    match s.waiting part die with
    | [] => s
    | o :: _ =>
      if due s o.decided (64 * cMs) then
        let s := s.serveDie part die
        match s.op? part o.id with
        | some o => if o.accepted.isSome then s.settle part else (s.discard part o 0x07).settle part
        | none => s.settle part
      else s)

/-! ### Placement, FLUSH and the flush of an errored QP -/

/-- Placement of an accepted operation once all that it waits for has come (R142). -/
def execPlacement (t : Nat) (part op : Nat) (s : State) : Host.Outcome State Fault Refusal :=
  run t s (fun s =>
    match s.op? part op with
    | some _ => (s.tryPlace part op).settle part
    | none => s)

/-- A FLUSH whose point is reached answers (R165, R170-R175). -/
def execFlushResponse (t : Nat) (qpn psn : BitVec 24) (s : State) : Host.Outcome State Fault Refusal :=
  run t s (fun s =>
    match s.partOfDie (qpnDie qpn) with
    | some p =>
      match (s.remote p).ops.find? (fun o => o.qpn == qpn && o.psn == psn && o.farFrom.isNone && o.farTo.isNone && (match o.kind with | .flush _ _ _ => true | _ => false)) with
      | some f => (s.endFlush p f (s.flushPoint p f)).settle p
      | none => s
    | none => s)

/-- Whether a far QP's CLOSE has been answered, or FAR_TIMEOUT has passed since it (R478). -/
def State.closeSettled (s : State) (p : Nat) (q : BitVec 24) : Bool :=
  match aget (s.fabric p).farSent (q, 0) with
  | some e => decide (e.firstAt + s.farTimeout p ≤ fab s)
  | none => true

/-- Forwarded requests of a QP whose stream has been closed, or that have drawn no answer in time: they end without one (R478). -/
def State.endFar (s : State) (p : Nat) (q : BitVec 24) : State :=
  ((s.remote p).ops.filter (fun o => o.qpn == q && o.farTo.isSome)).foldl (fun s o => s.endOp p o.id) s

/-- The flush of a QP is complete (R124), or a pending DREP may go (R104). -/
def execQpFlushComplete (t : Nat) (qpn : BitVec 24) (s : State) : Host.Outcome State Fault Refusal :=
  run t s (fun s => s.onQp qpn (fun c p s =>
    let s := if c.state == .error && s.closeSettled p qpn then s.endFar p qpn else s
    if c.state == .error && s.idle p qpn && s.closeSettled p qpn then
      ((s.modFabric p (fun F => { F with farSent := F.farSent.filter (fun e => e.1.1 != qpn), farNext := adel F.farNext qpn })).sendCm qpn .dreq).modQp qpn
        (fun c => { c with state := .closing, closingAt := some s.now })
    else if c.state == .closing && c.drepPending && s.idle p qpn then (s.sendCm qpn .drep).toTimewait p qpn
    else s))

/-! ### Service messages (R132-R136) -/

/-- The window of a STATUS_KEY where every check passes (R136): the key, the READ right, and 64 aligned bytes inside the window. -/
def State.statusWin (s : State) (p tenant : Nat) (key : BitVec 32) (va : Nat) : Option (Nat × Win) :=
  match s.keyCheck p tenant key with
  | .inr (i, w) =>
    if w.rights.getLsbD 0 && !w.far && va % 64 == 0 && decide (w.baseVa ≤ va) && decide (va - w.baseVa + 64 ≤ w.length) then some (i, w) else none
  | .inl _ => none

/-- Steward 0 takes a tenant's oldest message from its queue (R132, R136). A message that is malformed and not authorised too is answered with BAD_FORMAT, by the model's
choice (log 201). -/
def execServiceMsgDequeue (t : Nat) (part tenant : Nat) (s : State) : Host.Outcome State Fault Refusal :=
  run t s (fun s =>
    match agetD (s.remote part).svcQueue tenant [] with
    | [] => s
    | m :: rest =>
      let s := s.modRemote part (fun r => { r with svcQueue := aset r.svcQueue tenant rest })
      let b := m.bytes
      let key : BitVec 32 := BitVec.ofNat 32 (beAt b 8 4)
      let va := beAt b 12 8
      let typ := beAt b 3 1
      if (s.statusWin part tenant key va).isNone then s.badStatus part
      else
        let auth := match aget (s.remote part).tenants tenant with | some T => T.hostHampers | none => false
        let early :=
          if typ == 0 || 3 < typ || !allZero (slice b 20 12) then some 2
          else if !auth then some 1 else none
        s.modRemote part (fun r => { r with svcWork := r.svcWork ++
          [{ tenant := tenant, qpn := m.qpn, typ := typ, tag := beAt b 6 2, key := key, va := va, body := b.drop 32, early := early }] }))

/-- The record of a message's outcome, queued at the budget home (R135, R147): bytes 12-63 from `res`. -/
def State.queueStatus (s : State) (p : Nat) (w : SvcWork) (status : Nat) (res : List Byte) : State :=
  let rec_ := natLE 2 w.tag ++ natLE 1 w.typ ++ natLE 1 status ++ natLE 8 (fab s) ++ (res ++ fill 52 0).take 52
  s.modRemote p (fun r => { r with statusRecs := r.statusRecs ++ [{ tenant := w.tenant, key := w.key, va := w.va, bytes := rec_ }] })

/-- The oldest status record is charged at the budget home and placed (R135, R136, R147). -/
def execStatusRecordPlace (t : Nat) (part : Nat) (s : State) : Host.Outcome State Fault Refusal :=
  run t s (fun s =>
    match (s.remote part).statusRecs with
    | [] => s
    | x :: rest =>
      match s.statusWin part x.tenant x.key x.va with
      | none => (s.modRemote part (fun r => { r with statusRecs := rest })).badStatus part
      | some (i, w) =>
        if (s.remote part).budget.homeFree == 0 then s
        else
          let id := (s.remote part).nextOp
          let o : Op :=
            { id := id, die := s.homeDie part, qpn := 0, psn := 0, kind := .status, tenant := x.tenant, win := i, gen := w.gen, profile := s.winProfile part w,
              addr := w.addr x.va, len := 64, data := x.bytes, msn := 0, msgLen := 64, last := true, decided := s.now, accepted := some s.now, charged := [],
              ring := none, beforeMsn := 0, beforeCur := none, direct := [], stalledAt := none, farTo := none, sseq := none, mirrored := false,
              farFrom := none, silent := true, duplicate := false, keys := none, ringDue := false, scope := [], merged := [], captured := [] }
          let s := s.modRemote part (fun r => { r with statusRecs := rest, nextOp := id + 1, ops := r.ops ++ [o],
                                                       budget := { r.budget with homeFree := r.budget.homeFree - 1, charged := r.budget.charged + 1 } })
          (s.tryPlace part id).settle part)

/-! ### Revocation (R125-R131) -/

/-- 100 ms after the last revoke stamp, operations of the old generation still stand that do not end on this very cycle (R129, R49): their QPs enter ERROR, or, where they are already closing, are settled as if they
had. The record has room for two QPs beside the index and names the first two, which is the model's choice (R686, log 202). -/
def execRevokeForced (t : Nat) (part idx : Nat) (s : State) : Host.Outcome State Fault Refusal :=
  run t s (fun s =>
    match aget (s.remote part).windows idx with
    | some w =>
      match w.revoking with
      | some x =>
        let old := (s.oldOps part idx).filter (fun o => !s.sooner (.opEnds part o.id))
        if w.forced.isSome || old.isEmpty || !due s x (100 * cMs) then s
        else
          let qs := (old.map (·.qpn)).eraseDups
          let s := s.modRemote part (fun r => { r with windows := aupd r.windows idx (fun w => { w with forced := some s.now }) })
          let s := qs.foldl (fun s q => match s.qp? q with | some c => (s.qpError part q c.epsn 0x21).settleQp part q | none => s) s
          (s.log .revokeForced (srcPart part) (values ([idx] ++ (qs.take 2).map (·.toNat)))).settle part
      | none => s
    | none => s)

end Sys2Proof.Machine
end

