-- ==== Sys2Proof/Machine/SealOps.lean ====
section
/-! DEFINITION. SEAL and OPEN of the seal engine under a partition's TWIN_WRAP key (R586, R588, R589, R591). -/
namespace Sys2Proof.Machine
open Sys2Proof

/-- The nonce of a SEAL (R588): device, partition, and the package-wide counter. -/
def sealNonce (device part counter : Nat) : List Byte := natBE 12 ((device * 4 + part) * 2 ^ 82 + counter)

/-- SEAL (R586, R588): the end of each block of 65,536 counter values is recorded before its first value is used. None without a key. -/
def State.sealFor (s : State) (p : Nat) (aad data : List Byte) : Option (List Byte × List Byte) × State :=
  match aget s.sec.sys (6 + p) with
  | none => (none, s)
  | some key =>
    let s := if s.sec.sealNext == s.sec.sealEnd then
        let e := s.sec.sealEnd + 65536
        (s.addAnchor 6 e).modSec (fun x => { x with sealEnd := e })
      else s
    let nonce := sealNonce (s.device p) p s.sec.sealNext
    (some (nonce, gcmSeal key nonce aad data), s.modSec (fun x => { x with sealNext := x.sealNext + 1 }))

/-- OPEN (R586, R589): the plaintext, or a failure counted. -/
def State.openFor (s : State) (p : Nat) (aad nonce blob : List Byte) : Option (List Byte) × State :=
  match (match aget s.sec.sys (6 + p) with | some key => gcmOpen key nonce aad blob | none => none) with
  | some d => (some d, s)
  | none => (none, s.modSec (fun x => { x with sealFails := x.sealFails + 1 }))

/-- ERASE_KEY's effect (R568, R582, R585): both halves zeroised on every die, the erase stamps, every record zeroised, a running REKEY of the slot
stopped. The binding goes with the key (R569). -/
def State.eraseKey (s : State) (p i : Nat) : State :=
  let s := s.endRunning (fun l => match l with | .rekey q j _ => q == p && j == i | _ => false) .aborted [] false
  let s := (s.partDies p).foldl (fun s d => s.modRd d (fun r => { r with eraseStamps := aset r.eraseStamps i s.now })) s
  (s.zeroKey i none).modSec (fun x => { x with slots := aupd x.slots i (fun k => { KeySlot.reset with loadCount := k.loadCount, lastLoad := k.lastLoad, lastErase := fab s }) })

end Sys2Proof.Machine
end

