-- ==== Sys2Proof/Machine/TwinMsg.lean ====
section
/-! DEFINITION. Twin operation behind its messages (10): tables and contexts that the lead gives the follower (R389, R390, R402, R432), bricks copied (R430,
R431), leaving and regaining the peer (R413, R424, R425), pairing and unpairing (R387-R392). -/
namespace Sys2Proof.Machine
open Sys2Proof

/-! ### TABLE_SYNC (R389, R390, R591) -/

/-- Where the system slots begin among the slot numbers of a TABLE_SYNC (log 41). -/
def sysSlot (n : Nat) : Nat := 65536 + n

/-- The additional authenticated data of a sealed key (R591). -/
def State.syncAad (s : State) (p slot : Nat) : List Byte := natLE 4 (s.group p) ++ natLE 4 (s.twin p).epoch ++ natLE 4 slot

def Win.toSync (w : Win) (i : Nat) : WinSync :=
  { index := i, baseVa := w.baseVa, length := w.length, gen := w.gen, firstBrick := w.firstBrick, tenant := w.tenant, profile := w.profile, rights := w.rights,
    valid := w.valid, far := if w.far then some w.farDevice else none, ring := w.ring.map (fun r => (r.key, r.va, r.order, r.next)) }

def winOfSync (x : WinSync) : Win :=
  { baseVa := x.baseVa, length := x.length, gen := x.gen, firstBrick := x.firstBrick, tenant := x.tenant, profile := x.profile, rights := x.rights,
    farDevice := x.far.getD 0, valid := x.valid, far := x.far.isSome, ring := x.ring.map (fun r => { key := r.1, va := r.2.1, order := r.2.2.1, next := r.2.2.2 }),
    revoking := none, forced := none, retired := false }

def Tenant.toSync (T : Tenant) (t : Nat) : TenSync :=
  { tenant := t, cls := T.cls, slot := T.slot, token := T.token, hostHampers := T.hostHampers, far := T.farDevices }

/-- One key sealed for the twin (R591). -/
def State.sealKey (s : State) (p slot half : Nat) (current : Bool) (key : List Byte) : List KeySync × State :=
  match s.sealFor p (s.syncAad p slot) key with
  | (some x, s) => ([{ slot := slot, half := half, current := current, nonce := x.1, sealed := x.2 }], s)
  | (none, s) => ([], s)

/-- Several keys sealed, in order. -/
def State.sealKeys (s : State) (p : Nat) (l : List (Nat × Nat × Bool × List Byte)) : List KeySync × State :=
  l.foldl (fun acc x => let r := acc.2.sealKey p x.1 x.2.1 x.2.2.1 x.2.2.2; (acc.1 ++ r.1, r.2)) ([], s)

/-- The keys of a tenant slot that hold something: its current half, and while it is rekeyed the other. -/
def KeySlot.parts (k : KeySlot) (i : Nat) : List (Nat × Nat × Bool × List Byte) :=
  if k.state == .empty then []
  else
    (i, k.currentHalf, true, k.half k.currentHalf) ::
      (if k.state == .rekeying then [(i, 1 - k.currentHalf, false, k.half (1 - k.currentHalf))] else [])

/-- Everything that the follower takes from the lead (R389). The check key and H are sealed like the tenants' keys. -/
def State.wholeTables (s : State) (p : Nat) : TableSync × State :=
  let ck := (s.remote p).checkKey.getD (0, 1)
  let keys := [(sysSlot (2 + p), 0, true, natLE 8 ck.1 ++ natLE 8 ck.2), (sysSlot (14 + p), 0, true, s.digestKey p)] ++
    ((s.sec.slots.filter (fun e => e.2.part == some p)).map (fun e => e.2.parts e.1)).flatten
  let r := s.sealKeys p keys
  ({ windows := (s.remote p).windows.map (fun e => e.2.toSync e.1), tenants := (s.remote p).tenants.map (fun e => e.2.toSync e.1),
     keys := r.1, whole := true }, r.2)

/-- The body of a TABLE_SYNC message as this model lays it out (log 42). -/
def tableBytes (b : TableSync) : List Byte :=
  natBE 1 (b2n b.whole) ++ natBE 4 b.windows.length ++ natBE 4 b.tenants.length ++ natBE 4 b.keys.length ++
  (b.windows.map (fun w => natBE 4 w.index ++ natBE 8 w.baseVa ++ natBE 8 w.length ++ natBE 1 w.gen ++ natBE 4 w.firstBrick ++ natBE 2 w.tenant ++
    natBE 1 w.profile ++ natBE 1 w.rights.toNat ++ natBE 1 (b2n w.valid) ++ natBE 2 (w.far.getD 0xFFFF) ++
    (match w.ring with | some r => natBE 4 r.1.toNat ++ natBE 8 r.2.1 ++ natBE 1 r.2.2.1 ++ natBE 8 r.2.2.2 | none => fill 21 0))).flatten ++
  (b.tenants.map (fun t => natBE 2 t.tenant ++ natBE 1 t.cls ++ natBE 2 t.slot ++ t.token ++ natBE 1 (b2n t.hostHampers) ++ natBE 1 t.far.length ++
    (t.far.map (natBE 2)).flatten)).flatten ++
  (b.keys.map (fun k => natBE 4 k.slot ++ natBE 1 k.half ++ natBE 1 (b2n k.current) ++ natBE 2 k.sealed.length ++ k.nonce ++ k.sealed)).flatten

/-- Every key of a TABLE_SYNC opened, or none where one fails (R591). -/
def State.openAll (s : State) (p : Nat) (ks : List KeySync) : Option (List (KeySync × List Byte)) × State :=
  ks.foldl (fun acc k =>
    match acc.1 with
    | none => acc
    | some l =>
      if k.sealed.isEmpty then (some (l ++ [(k, [])]), acc.2)
      else
        match acc.2.openFor p (s.syncAad p k.slot) k.nonce k.sealed with
        | (some d, s) => (some (l ++ [(k, d)]), s)
        | (none, s) => (none, s)) (if s.engine then some [] else none, s)

/-- A tenant slot or system slot takes a key that has been opened (R570, R591). -/
def State.takeKey (s : State) (p : Nat) (x : KeySync × List Byte) : State :=
  let k := x.1
  if k.slot == sysSlot (2 + p) then (s.programKey k.slot 0 x.2).modRemote p (fun r => { r with checkKey := some (leAt x.2 0 8, leAt x.2 8 8) })
  else if 65536 ≤ k.slot then (s.programKey k.slot 0 x.2).modSec (fun q => { q with sys := aset q.sys (k.slot - 65536) x.2 })
  else if x.2.isEmpty then s.eraseKey p k.slot
  else
    let y := s.slot k.slot
    let s := if k.current && y.state == .rekeying && y.currentHalf != k.half then s.zeroKey k.slot (some (1 - k.half)) else s
    (s.programKey k.slot k.half x.2).modSec (fun q => { q with slots := amod q.slots k.slot KeySlot.reset (fun y =>
      { y with state := if k.current then (if y.state == .rekeying && y.currentHalf != k.half then .active else if y.state == .empty then .active else y.state) else .rekeying,
               currentHalf := if k.current then k.half else y.currentHalf,
               half0 := if k.half == 0 then x.2 else if k.current && y.state == .rekeying && y.currentHalf != k.half then [] else y.half0,
               half1 := if k.half == 1 then x.2 else if k.current && y.state == .rekeying && y.currentHalf != k.half then [] else y.half1,
               loadCount := y.loadCount + 1, lastLoad := fab s, part := some p,
               sweep := if k.current then none else some { newHalf := k.half, rate := 1, silent := true } }) })

/-- Bricks that a window covers: its first, and their count (R108). -/
def Win.bricks (w : Win) : Nat := ceilDiv (w.length + w.baseVa % 2097152) 2097152
def Win.covers (w : Win) (b : Nat) : Bool := decide (w.firstBrick ≤ b) && decide (b < w.firstBrick + w.bricks)

/-- A window entry put into every die's replica: a generation ahead of the one held begins a revocation and sets the revoke stamps (R125, R391); a
window of a TWIN level sets the MIRROR bit of the bricks it covers (R171). -/
def State.takeWindow (s : State) (p : Nat) (x : WinSync) : State :=
  let w := winOfSync x
  let old := aget (s.remote p).windows x.index
  let revoked := match old with | some o => o.valid && o.gen != x.gen | none => false
  let s := s.modRemote p (fun r => { r with windows := aset r.windows x.index { w with revoking := if revoked then some s.now else none } })
  let s := if (s.winProfile p w).durability == 0 || !x.valid || w.far then s
    else
      let new := ((s.store p).bricks.filter (fun e => w.covers e.1 && !e.2.mirror)).map (·.1)
      new.foldl (fun s b => (s.modBrick p b (fun B => { B with mirror := true })).track p 3 (b / 512)) s
  let s := (s.partDies p).foldl (fun s d => s.modRd d (fun r => { r with
    replica := aset r.replica x.index x.gen, revokeStamps := if revoked then aset r.revokeStamps x.index s.now else r.revokeStamps })) s
  (if x.ring.isSome then s.track p 5 (x.index / 128) else s).track p 4 (x.index / 128)

/-- A tenant's authorisation as the lead has it (R389, R735). -/
def State.takeTenant (s : State) (p : Nat) (x : TenSync) : State :=
  let s := if ahas (s.remote p).tenants x.tenant then s
    else match s.freeMeter p with
      | some i => s.takeMeter p x.tenant i
      | none => s
  let reserve := match s.tclass? p x.cls with | some c => c.reserve | none => 0
  let m := agetD (s.meterSt p).index x.tenant 0
  let base : Tenant :=
    { cls := x.cls, slot := x.slot, token := [], hostHampers := false, farDevices := [], reserve := reserve, meter := m, badCredentials := 0, degradedFlush := 0 }
  let take (T : Tenant) : Tenant := { T with cls := x.cls, slot := x.slot, token := x.token, hostHampers := x.hostHampers, farDevices := x.far }
  let s := (s.modRemote p (fun r => { r with tenants := amod r.tenants x.tenant base take })).programKey (authName p x.tenant) 0 x.token
  if x.slot == 0xFFFF then s
  else s.modSec (fun q => { q with slots := amod q.slots x.slot KeySlot.reset (fun k => { k with tenant := some x.tenant }) })

/-- The tables of a TABLE_SYNC put into effect (R389, R390, R748). -/
def State.takeTables (s : State) (p : Nat) (b : TableSync) (keys : List (KeySync × List Byte)) : State :=
  let s := if b.whole then
      (s.modRemote p (fun r => { r with windows := [],
                                        tenants := r.tenants.filter (fun e => b.tenants.any (fun t => t.tenant == e.1)) })).modSec
        (fun q => { q with slots := q.slots.filter (fun e => e.2.part != some p) })
    else s
  let s := keys.foldl (fun s k => s.takeKey p k) s
  let s := b.tenants.foldl (fun s t => s.takeTenant p t) s
  let s := b.windows.foldl (fun s w => s.takeWindow p w) s
  { s with configGen := s.configGen + 1 }

/-- The same change, whatever nonces its keys were sealed under. -/
def sameTables (a b : TableSync) : Bool :=
  a.windows == b.windows && a.tenants == b.tenants && a.keys.map (fun k => (k.slot, k.half, k.sealed.isEmpty)) == b.keys.map (fun k => (k.slot, k.half, k.sealed.isEmpty))

/-- Commands that the lead had to order complete as its TABLE_SYNC carries them back (R390). -/
def State.finishCarried (s : State) (p : Nat) (b : TableSync) : State :=
  match s.running.find? (fun r => match r.op with | .carried q x _ => q == p && sameTables x b | _ => false) with
  | some r => match r.op with
    | .carried q x res => s.endRunning (· == .carried q x res) .ok res true
    | _ => s
  | none => s

/-- A REKEY issued on this twin completes once its slot is ACTIVE again under the new half (R390, R578). -/
def State.finishRekeys (s : State) (p : Nat) : State :=
  s.endRunning (fun l => match l with | .rekey q i h => q == p && (s.slot i).state == .active && (s.slot i).currentHalf == h | _ => false) .ok [] true

/-- Commands that await the twin's confirmation complete once it has come, or once the peer takes no part (R390). -/
def State.finishTwinned (s : State) (p : Nat) : State :=
  let T := s.twin p
  (s.running.filter (fun r => match r.op with | .twinned q _ _ => q == p && (decide (r.mseq ≤ T.confirmed) || !T.mirrors) | _ => false)).foldl (fun s r =>
    { s with running := s.running.filter (fun x => x != r) }.finishWith r.cmd r.opcode .ok 0 (match r.op with | .twinned _ res _ => res | _ => [])
      (match r.op with | .twinned _ _ cfg => cfg | _ => false)) s

/-- A change of the tables on a paired partition reaches the twin (R390): the result's MSEQ, or 0 where nothing is sent. -/
def State.shareTables (s : State) (p : Nat) (windows : List WinSync) (tenants : List TenSync) (keys : List (Nat × Nat × Bool × List Byte)) (erased : List Nat) :
    Nat × TableSync × State :=
  let r := s.sealKeys p (if (s.twin p).mirrors then keys else [])
  let b : TableSync := { windows := windows, tenants := tenants, keys := r.1 ++ erased.map (fun i => { slot := i, half := 0, current := true, nonce := [], sealed := [] }),
                         whole := false }
  if (r.2.twin p).mirrors then
    let n := (r.2.twin p).nextMseq
    (n, b, r.2.mirror p 0x0B (tableBytes b))
  else (0, b, r.2)

/-- TABLE_SYNC received (R389-R391, R591): on a lead a change that the follower has carried to it, ordered and sent back. -/
def State.tableSyncIn (s : State) (p : Nat) (b : TableSync) : State :=
  match s.openAll p b.keys with
  | (none, s) => (s.report p 1).log .sealFail (srcPart p) (values [])
  | (some keys, s) =>
    let T := s.twin p
    if T.lead then
      if b.whole then s
      else (s.takeTables p b keys).mirror p 0x0B (tableBytes b)
    else
      let s := if b.whole then
          s.modTwin p (fun T => { T with resync := true, resyncDone := false, copySet := [], unitsIn := [], stream := [], replicas := [], held := [], kept := [],
                                         digest := { DigestSt.reset with lastMatched := T.digest.lastMatched }, unsent := [] })
        else s
      ((s.takeTables p b keys).finishCarried p b).finishRekeys p

/-! ### QP contexts (R402, R432) -/

/-- Builds a twinned QP's context from the lead's (R402). -/
def State.adoptQp (s : State) (p : Nat) (q : QpCtx) (st : QpState) : State :=
  let d := qpnDie q.qpn
  let slot := qpnSlot q.qpn
  if !(s.partDies p).contains d then s
  else
    let c := newQp s p d slot st true q.policy q.pmtu q.tenant q.dest q.epsn q.ip q.mac q.vlan q.dscp q.respRes q.port q.brk
    s.modRd d (fun r => { r with qps := aset r.qps slot { c with qpn := q.qpn, msn := q.msn, repAt := none }, gens := aset r.gens slot (qpnGen q.qpn) })

/-- QP_STATE (R432): the context adopted; what lies below its EPSN is discarded, with the packets kept at or below it. -/
def State.qpStateIn (s : State) (p : Nat) (q : QpCtx) : State :=
  let gone := (s.remote p).ops.filter (fun o => o.qpn == q.qpn && o.farFrom.isNone && decide (psnDiff o.psn q.epsn < 0))
  let s := gone.foldl (fun s o => (s.release p (if o.accepted.isSome then o.charged.length + b2n o.ringDue - o.merged.length else 0)).endOp p o.id) s
  (s.adoptQp p q (if q.ready then .ready else .connecting)).modTwin p (fun T =>
    { T with kept := T.kept.filter (fun k => k.1 != q.qpn || decide (0 < psnDiff k.2.pkt.psn q.epsn)) })

/-- Twinned QPs of a partition. -/
def State.twinQps (s : State) (p : Nat) : List Qp := (((s.partDies p).map (fun d => (s.rd d).qps.map (·.2))).flatten).filter (·.twinned)

/-! ### Resynchronisation (R428-R435) -/

/-- The bricks that a resynchronisation copies (R428-R430). -/
def State.copyBricks (s : State) (p : Nat) : List Nat :=
  let T := s.twin p
  let all := ((s.store p).bricks.filter (fun e => e.2.mirror)).map (·.1)
  let l := if T.wholeResync || !T.mapsHeld then all else (T.copySet ++ T.mapA ++ T.mapB).eraseDups.filter all.contains
  l.mergeSort (· ≤ ·)

/-- The BRICK_DATA of one unit (R431), its pages as they stand at this point of the order. -/
def State.brickData (s : State) (p b u : Nat) (B : Brick) : List Byte :=
  let gs := (List.range 4).map (fun i => 4 * u + i)
  natBE 4 b ++ natBE 2 u ++ natBE 1 (gs.zipIdx.foldl (fun m x => m + b2n (B.valid.getLsbD x.1) * 2 ^ x.2) 0) ++
    natBE 1 (gs.zipIdx.foldl (fun m x => m + pageHalf B x.1 * 2 ^ x.2) 0) ++
    (if u == 0 then natBE 1 B.placement ++ natBE 1 B.keyHalf ++ natBE 2 B.cursor ++ natBE 2 B.tenant else []) ++
    ((gs.filter (fun g => B.valid.getLsbD g)).map (fun g => s.pageBytes p b g)).flatten

/-- Every unit of a brick sent. -/
def State.sendBrick (s : State) (p b : Nat) : State :=
  match (s.store p).brick? b with
  | some B => (List.range 128).foldl (fun s u => s.mirror p 0x0E (s.brickData p b u B)) s
  | none => s

/-- The lead resynchronises its follower (R430), whole within one step (log 43): a new numbering, the tables and contexts, the bricks, RESYNC_END. -/
def State.startResync (s : State) (p : Nat) : State :=
  let copy := s.copyBricks p
  let s := s.modTwin p (fun T =>
    { T with resync := true, resyncDone := false, endSeq := none, copySet := copy, mapA := [], mapB := [], mapsHeld := T.mapsHeld, mseqNext := 1, sent := 0, confirmed := 0,
             backlog := [], delivered := 0, beyond := [], startTime := none, confirmSent := 0, confirmDue := false, unsent := [], unsentSince := none, stream := [],
             replicas := [], pageWaits := [], kept := [], reported := T.reported.filter (fun r => r != 4) })
  let t := s.wholeTables p
  let s := t.2.mirror p 0x0B (tableBytes t.1)
  let s := (s.twinQps p).foldl (fun s c => s.mirror p 0x0D (qpBytes c)) s
  let s := copy.foldl (fun s b => s.sendBrick p b) s
  let n := (s.twin p).nextMseq
  let s := s.mirror p 0x0F []
  (s.modTwin p (fun T => { T with endSeq := some n, digest := { DigestSt.reset with lastMatched := T.digest.lastMatched } })).modRemote p (fun r =>
    { r with unconfirmed := r.unconfirmed.map (fun u => if u.mseq == noMseq then { u with mseq := n } else u) })

/-- BRICK_DATA on the follower (R431): the brick made non-resident with its first unit, each unit programmed as a write-back. -/
def State.brickDataIn (s : State) (p : Nat) (x : BrickBody) : State :=
  if s.brickCount p ≤ x.brick || 128 ≤ x.unit then s
  else
    let first := !(s.twin p).copySet.contains x.brick
    let s := s.modTwin p (fun T => { T with copySet := if first then T.copySet ++ [x.brick] else T.copySet })
    let s := match x.tracked with
      | some (pl, kh, cur, ten) =>
        let s := if (s.store p).resident x.brick then s.dropFrame p x.brick false else s
        (s.modStore p (fun S => { S with
          bricks := amod S.bricks x.brick { res := none, pin := false, mirror := true, placement := pl, keyHalf := kh, cursor := cur, tenant := ten, age := 0, accessed := none, valid := 0,
                                            object := 0, evicting := false, evictFor := none, evacuating := false, anyCourse := false }
            (fun B => { B with mirror := true, placement := pl, keyHalf := kh, cursor := cur, tenant := ten, valid := 0 }),
          pages := S.pages.filter (fun e => e.1.1 != x.brick) })).track p 3 (x.brick / 512)
      | none => if first && (s.store p).resident x.brick then s.dropFrame p x.brick false else s
    let pend := (s.twin p).stream.filter (fun e => match s.entryPage p e.2 with | some y => y.1 == x.brick && y.2 / 4 == x.unit | none => false)
    let s := pend.foldl (fun s e => s.skipEntry p e.2) s
    let s := s.modTwin p (fun T => { T with stream := T.stream.filter (fun e => !pend.contains e), unitsIn := T.unitsIn ++ [(x.brick, x.unit)] })
    match (match s.takeProgram p .openWrite false none with | some r => some r | none => s.takeProgram p .openWrite true none) with
    | none => s
    | some (pl, s) =>
      let has (i : Nat) : Bool := x.valid.getD i false
      let place (i : Nat) : Nat := ((List.range i).filter has).length
      let cws : List Codeword := (List.range 4).map (fun i =>
        { brick := x.brick, page := 4 * x.unit + i, keyHalf := x.keyHalf.getD i 0, valid := has i, seq := pl.2.2.2,
          data := if has i then Memory.writeN [] 0 (x.pages.getD (place i) []) else [] })
      let s := (s.mapUnit p x.brick x.unit pl.2.2.1 cws).modBrick p x.brick (fun B => { B with
        valid := (List.range 4).foldl (fun v i => if has i then v ||| BitVec.ofNat 512 (2 ^ (4 * x.unit + i)) else v &&& ~~~(BitVec.ofNat 512 (2 ^ (4 * x.unit + i)))) B.valid })
      (((List.range 4).filter has).foldl (fun s i => s.unlist p x.brick (4 * x.unit + i)) s).meterUnit p x.brick 9

/-! ### Pairing's end -/

/-- TWIN_PAIR completes: a lease held, the resynchronisation ended, the partition in SERVE (R387). -/
def State.checkPair (s : State) (p : Nat) : State :=
  let T := s.twin p
  match T.pairing with
  | some _ =>
    if T.role != .fenced && T.tExp.isSome && T.resyncDone && s.mode p == .serve then
      (s.modTwin p (fun T => { T with pairing := none, resync := false, resyncDone := false })).endRunning (· == .twinPair p) .ok [] true
    else s
  | none => s

/-- The frames of the change maps given back, and the pairing gone; the maps that stand serve a later RESUME (log 44). -/
def State.endPairing (s : State) (p : Nat) : State :=
  s.modTwin p (fun T => { TwinP.reset with mapA := T.mapA, mapB := T.mapB, curA := T.curA, mapsHeld := T.mapsHeld, wholeResync := T.wholeResync,
                                           replicaNext := T.replicaNext, badTags := T.badTags })

/-- Whether a twin's own release counts as acknowledged (R392). -/
def State.released (s : State) (p : Nat) : Bool :=
  let T := s.twin p
  T.releasedAck || (match T.tExp with | some x => decide (x ≤ fab s) | none => true)

/-- TWIN_UNPAIR completes on both twins (R392); the peer's release is taken with its confirmation of the notice, with its own notice, or with a lost
link (log 45). -/
def State.finishUnpair (s : State) (p : Nat) : State :=
  let T := s.twin p
  match T.unpairing with
  | none => s
  | some c =>
    if s.released p && (T.peerUnpaired || decide (T.unpairSeq ≤ T.confirmed) || T.paths.all (fun x => !x.up)) then
      let s := s.endPairing p
      let s : State := match c with
        | some _ => s.endRunning (fun l => l == .twinUnpair p) .ok [] true
        | none => s
      ((s.endRunning (fun l => l == .twinPair p) .aborted [] false).settle p).exitRestore p
    else s

/-- A twin unpairs (R392): it stops answering, tells its peer, and releases its lease. -/
def State.unpair (s : State) (p : Nat) (c : Option CmdRef) : State :=
  let T := s.twin p
  if !T.paired || T.unpairing.isSome then s
  else
    let n := T.nextMseq
    let s := s.fenceNotice p 6
    ((s.toArbiter p 5 6 0).modTwin p (fun T => { T with unpairing := some c, unpairSeq := n, releasing := some (fab s), releasedAck := false, pairing := none })).finishUnpair p

/-! ### Without the peer (R413, R424, R425) -/

/-- Pages awaited from a peer that will not send them: rebuilt or lost here (R205, R221). -/
def State.dropFetches (s : State) (p : Nat) : State :=
  let l := (s.twin p).pageReqs
  l.foldl (fun s x =>
    if ((s.store p).page x.1 x.2).held then ((s.modPage p x.1 x.2 (fun P => { P with held := false })).rebuildPage p x.1 x.2).afterRebuild p x.1 x.2 else s)
    (s.modTwin p (fun T => { T with pageReqs := [] }))

/-- PSN gaps of twinned QPs that no peer will fill: the lead answers them with the NAK (R120, R405). -/
def State.nakGaps (s : State) (p : Nat) : State :=
  (s.twinQps p).foldl (fun s c =>
    if c.gapSince.isSome && (s.twin p).lead && !c.gapNaked then (s.reply p c.qpn s.now c.epsn (.nak 0x60)).modQp c.qpn (fun c => { c with gapNaked := true, fetchSince := none })
    else s) s

/-- What a twin that serves alone does at once: waiting REPs leave (R402), commands and revocations complete (R390), gaps are answered. -/
def State.onAlone (s : State) (p : Nat) : State :=
  let s := s.modTwin p (fun T => { T with unsent := [], unsentSince := none, backlog := [] })
  let s := (s.twinQps p).foldl (fun s c => if c.repWait.isSome then s.sendRep c.qpn else s) s
  (((s.nakGaps p).dropFetches p).finishTwinned p).settle p

/-- The lead enters SOLO (R417, R421, R509): the arbiter or the follower's notice says that the peer is fenced. -/
def State.enterSolo (s : State) (p : Nat) (c : Cause) : State :=
  let s := s.modTwin p (fun T => { T with peerFenced := true, solo := true, resync := false, endSeq := none })
  let s := s.modRemote p (fun r => { r with unconfirmed := r.unconfirmed.map (fun u => if u.mseq == 0 then { u with mseq := noMseq } else u) })
  (match s.mode p with
    | .serve => s.setMode p .solo c
    | .restore => s.exitRestore p
    | _ => s).onAlone p

/-- A follower becomes free-running (R424): held and new mirrored writes are placed in its own order; replicas that have come are placed. -/
def State.freeRun (s : State) (p : Nat) : State :=
  let T := s.twin p
  if !(T.paired && T.role == .follower) || T.freeRunning then s
  else
    let s := s.modTwin p (fun T => { T with freeRunning := true, held := [], stream := T.stream.filter (fun x => x.2.kind == .replica), resync := false,
                                            digest := { T.digest with theirs := [] } })
    let s := ((s.remote p).ops.filter (fun o => o.writes && o.accepted.isSome)).foldl (fun s o => s.tryPlace p o.id) s
    (s.nakGaps p).settle p

/-- Promotion (R425): LEAD and SOLO; held reads are answered, and under LEAD_ONLY every twinned QP is acknowledged up to EPSN - 1. -/
def State.promote (s : State) (p epoch : Nat) : State :=
  let s := s.freeRun p
  let s := s.modTwin p (fun T =>
    { T with role := .lead, epoch := epoch, epochSeen := epoch, freeRunning := false, solo := true, peerFenced := true, resync := false, resyncDone := false, mseqNext := 1, sent := 0,
             confirmed := 0, backlog := [], reported := [], splitWrites := 0, unsent := [], unsentSince := none, stream := [], replicas := [], held := [], kept := [] })
  let s := match s.mode p with
    | .serve => s.setMode p .solo .promoted
    | .restore => s.exitRestore p
    | _ => s
  let carried := s.running.filter (fun r => match r.op with | .carried q _ _ => q == p | _ => false)
  let s := carried.foldl (fun s r => match r.op with
    | .carried _ b _ => (match s.openAll p b.keys with
      | (some ks, s) => (s.takeTables p b ks).finishCarried p b
      | (none, s) => s)
    | _ => s) s
  let s := s.onAlone p
  (s.twinQps p).foldl (fun s c => if c.policy == 2 && c.state == .ready then s.reply p c.qpn s.now (c.epsn - 1) (.ack c.msn) else s) s

end Sys2Proof.Machine
end

