-- ==== Sys2Proof/Machine/ServiceOps.lean ====
section
/-! DEFINITION. What the service die's events share: the sequence table (R616-R618), boot (R603, R604, R674, R678, R683), read-out protection (R675-R678),
debug scopes (R611, R615), refused blobs (R590), and what a reset of the service die leaves (R697). -/
namespace Sys2Proof.Machine
open Sys2Proof

/-! ### Read-out protection (R671, R675-R678) -/

/-- The read-out protection level (R678: ROP1 until step 4 of a lowering). -/
def State.ropLevel (s : State) : Nat := s.anchor 1

/-- Every partition in SERVICE. -/
def State.allService (s : State) : Bool := s.pkg == .on && s.partIds.all (fun p => s.mode p == .service)

/-- Opened debug scopes close (R615); key RAM that a scope had zeroised is loaded again (R611). -/
def State.closeScopes (s : State) : State := s.modSec (fun x => { x with scopes := [], scopeDies := 0, scopeExpiry := none, keyRamLost := [] })

/-- The dies that a mask of scope 1 or 3 names. -/
def State.maskDies (s : State) (mask : Nat) : List Nat := (List.range s.dieCount).filter (bit mask)

/-- Whether scopes may open: those marked SERVICE need every partition that holds an affected die in SERVICE (R611). -/
def State.scopesMayOpen (s : State) (scopes mask : Nat) : Bool :=
  let ps := if bit scopes 2 then s.partIds
    else if bit scopes 1 || bit scopes 3 then s.partIds.filter (fun p => (s.partDies p).any (fun d => bit mask d)) else []
  ps.all (fun p => s.mode p == .service)

/-- The effect of opening scopes (R611): scopes 1 and 3 zeroise the key RAM of their dies, scope 3 loses their pantry, scope 2 stops the engines. -/
def State.openScopes (s : State) (scopes mask : Nat) (expiry : Option Nat) : State :=
  let lost := if bit scopes 1 || bit scopes 3 then s.maskDies mask else []
  let s := s.modSec (fun x => { x with scopes := (List.range 4).filter (bit scopes), scopeDies := mask, scopeExpiry := expiry, keyRamLost := lost,
                                       enginesOff := x.enginesOff || bit scopes 2 })
  if bit scopes 3 then (s.maskDies mask).foldl (fun s d => s.modRd d (fun r => { RemoteD.reset with startGen := r.startGen })) s else s

/-- Regions that a lowering erases (R668): first sector and count. -/
def erasedRegions : List (Nat × Nat) := [(400, 64), (464, 64), (528, 64), (592, 16), (608, 16), (624, 64), (944, 256), (1200, 360)]

/-- Whether a region of the NV store holds a structure; one that holds none passes its margin blank-check and is skipped (R677). -/
def State.regionHolds (s : State) (first : Nat) : Bool :=
  match first with
  | 400 => match s.image.copies[0]? with | some c => c.full.isSome | none => false
  | 464 => match s.image.copies[1]? with | some c => c.full.isSome | none => false
  | 528 => !s.sec.slots.isEmpty || !s.sec.sys.isEmpty || s.parts.any (fun e => !e.2.remote.tenants.isEmpty)
  | 592 => !s.storeNv.spare.isEmpty || !s.storeNv.marks.isEmpty
  | 608 => !s.storeNv.lost.isEmpty
  | 624 => !s.storeNv.phySettings.isEmpty
  | 944 => !s.storeNv.objects.isEmpty
  | _ => s.parts.any (fun e => !e.2.meters.evidence.isEmpty)

/-- What the NV store holds of a partition without the erased regions. -/
def Part.erased (P : Part) : Part :=
  { P with remote := { P.remote with tenants := [] }, meters := { P.meters with evidence := [], evSeq := 0, prevRoot := [] } }

/-- Steps 2 to 5 of a lowering to ROP0 (R526, R607, R668, R677). -/
def State.lowerRop (s : State) : State :=
  let s := (erasedRegions.filter (fun r => s.regionHolds r.1)).foldl (fun s r => s.nvEraseAll r.1 r.2 3) s
  let s := (s.nvEraseAll 6 2 3).modNv (fun n => { n with optionSector := 0, optionUsed := 0 })
  let s := s.writeOption (fun o => { o with vendorDebug := false, logCompat := false, logFrozen := false, ownerHash := [] })
  let c : ImageCopy := { gen := 0, full := none, patches := [], committed := false, failed := false, raiseFloor := false }
  let s : State := { s with
    image := { s.image with copies := [c, c] },
    sec := { s.sec with slots := [], keyRecs := [], sys := [], macsec := [] },
    storeNv := { s.storeNv with spare := [], marks := [], lost := [], phySettings := [], objects := [] },
    parts := s.parts.map (fun e => (e.1, e.2.erased)), stowed := s.stowed.map (fun e => (e.1, e.2.erased)) }
  let s := (s.partIds.foldl (fun s p => s.newCheckKey p) s).stowedKeys
  let lvl := s.ropLevel
  (s.addAnchor 1 0).log .ropChange srcSvc (values [lvl, 0])

/-! ### Firmware copies (R601, R602, R605, R668) -/

/-- Bytes of a copy of a TARGET, and its first sector (R668). -/
def fwRegion (target : Nat) : Nat := if target == 0 then 4194304 else 8388608
def fwSector (target copy : Nat) : Nat := if target == 0 then 16 + 64 * copy else 144 + 128 * copy

/-- The copy of a TARGET that is not in use. -/
def State.otherCopy (s : State) (target : Nat) : Nat := 1 - (if target == 0 then s.svc.runningSvc else s.svc.runningStew)

/-- The checks of R601 on an image of R602. `sigOk` is the engine's verdict on key and signature: the key is the vendor's of that KEY_INDEX, and the signature
verifies under it. -/
def State.fwOk (s : State) (fw : Signed) : Bool :=
  let b := fw.bytes
  let target := leAt b 4 1
  let key := leAt b 5 1
  let code := b.drop 8192
  fw.sigOk && decide (8192 ≤ b.length) && leAt b 0 4 == 0x46575247 && decide (target ≤ 1) && decide (key ≤ 3) && decide (leAt b 6 1 < 16) && !bit (leAt b 6 1) key &&
  leAt b 7 1 == 0 && leAt b 12 4 == code.length && decide (b.length ≤ fwRegion target) && allZero (slice b 7299 893) && slice b 16 64 == sha3 code &&
  !bit (s.anchor 2) key && decide (s.anchor (3 + target) ≤ leAt b 8 4)

/-- Whether firmware may be loaded (R605): COLD, the boot ROM, or every partition in SERVICE. -/
def State.fwMode (s : State) : Bool := s.pkg == .cold || s.svc.fwStatus == 1 || s.allService

def FwCopy.blank : FwCopy := { committed := false, seq := 0, digest := [], bytes := [], bootOk := false, failed := false, resets := 0, raiseFloor := false }

def State.setCopy (s : State) (target copy : Nat) (c : FwCopy) : State :=
  s.modNv (fun n => if target == 0 then { n with svcFw := n.svcFw.set copy c } else { n with stewFw := n.stewFw.set copy c })

/-- The copy not in use is erased for a load (R605, R668, R704). -/
def State.eraseCopy (s : State) (target : Nat) : State :=
  let k := s.otherCopy target
  (s.nvEraseAll (fwSector target k) (fwRegion target / 65536) 4).setCopy target k FwCopy.blank

/-- A checked image is committed (R605). -/
def State.commitFw (s : State) (b : List Byte) (raise : Bool) : State :=
  let target := leAt b 4 1
  (s.setCopy target (s.otherCopy target)
    { FwCopy.blank with committed := true, seq := leAt b 8 4, digest := slice b 16 64, bytes := b, raiseFloor := raise }).log .fwLoaded srcSvc (values [target, leAt b 8 4])

/-! ### Refused blobs (R590) -/

/-- Whether the engine refuses blobs from the control port. -/
def State.refusing (s : State) : Bool := match s.sec.unwrapRefuseUntil with | some c => decide (s.now < c) | none => false

/-- Sixteen failures within 1 s begin a refusal of 1 s, with one record; a refusal whose second is over ends. -/
def State.burstCheck (s : State) : State :=
  let s := match s.sec.unwrapRefuseUntil with
    | some c => if c ≤ s.now then s.modSec (fun x => { x with unwrapRefuseUntil := none }) else s
    | none => s
  let n := (s.sec.unwrapFails.filter (fun c => decide (s.now < c + cS))).length
  if s.sec.unwrapRefuseUntil.isNone && 16 ≤ n then
    (s.modSec (fun x => { x with unwrapFails := [], unwrapRefuseUntil := some (s.now + cS) })).log .unwrapBurst srcSvc (values [])
  else s

/-- A key from a blob under IMPORT (R586, R589, R590): none where the engine refuses it or its integrity check fails. -/
def State.unwrapBlob (s : State) (blob : List Byte) : Option (List Byte) × State :=
  let s := s.burstCheck
  if s.refusing then (none, s)
  else
    match (match aget s.sec.sys 1 with | some k => kwUnwrap k blob | none => none) with
    | some k => (some k, s)
    | none =>
      (none, (s.modSec (fun x => { x with unwrapFails := x.unwrapFails.filter (fun c => decide (s.now < c + cS)) ++ [s.now], sealFails := x.sealFails + 1 })).burstCheck)

/-! ### Reset and boot of the service die -/

/-- The volatile part of the service die goes: the sideband and the TAP, the log's counts of suppressed events, refusals and challenges. -/
def State.svcReset (s : State) : State :=
  let s := s.modSvc (fun v => { v with
    booted := false, sideband := { Sideband.reset with staticAddr := v.sideband.staticAddr }, tap := Service.reset.tap, stewards := [],
    log := { v.log with second := [], suppressed := [] }, watchdog := Service.reset.watchdog })
  { (s.modSec (fun x => { x with challenge := none, unwrapFails := [], unwrapRefuseUntil := none })).closeScopes with running := [], heldEnds := [] }

/-- The standby rails have collapsed under a running service die: the package is off in hardware, and the sequencer and the pins start over (R517, R789). -/
def State.standbyLost (s : State) : State :=
  let s := s.hardOff .off
  let s := s.svcReset
  let s := s.modSvc (fun v => { v with seq := { Sequencer.reset with coldSince := s.now }, brownOut := false })
  (s.modPins (fun p => { Pins.reset with pwrReq := p.pwrReq, pwrReqSince := s.now, pwrFail := p.pwrFail, pwrFailSince := s.now, holdupOk := p.holdupOk, holdupSince := s.now,
                                         chainUpIn := p.chainUpIn, chainDnIn := p.chainDnIn, ethRefclk := p.ethRefclk, pcieRefclk := p.pcieRefclk })).modTherm
    (fun _ => { Thermal.reset with lastUpdate := s.now, ambientAt := s.now })

/-- ANCHOR_SEQ of the last record of a TYPE. -/
def Nv.lastSeq (n : Nv) (typ : Nat) : Nat := match (n.anchors.filter (fun a => a.typ == typ)).getLast? with | some a => a.seq | none => 0

/-- Whether a lowering has begun and not programmed its ROP anchor (R678). -/
def Nv.lowering (n : Nv) : Bool := decide (n.lastSeq 1 < n.lastSeq 7)

/-- Step 3 of the boot: the option area, and the sequence table in it (R603, R617, R673, R674). -/
def State.loadOptions (s : State) : State :=
  let s := match s.svc.nv.option with
    | some _ => s
    | none => (s.log .optionDefault srcSvc (values [])).writeOption (fun o => o)
  let o := s.svc.nv.opt
  let s := s.modSb (fun b => { b with staticAddr := o.i3cAddr })
  match s.tableOf o with
  | some t => s.modSvc (fun v => { v with seqTable := some t, fwStatus := 0 })
  | none => (s.modSvc (fun v => { v with seqTable := none, fwStatus := 2 })).log .seqTableBad srcSvc (values [])

/-- The seal engine at boot: SEAL's counter from its last recorded end, the DRBG reseeded, STORAGE drawn where there is none (R570, R588, R592, R593). -/
def State.startEngines (s : State) : State :=
  let e := s.anchor 6
  let s := s.modSec (fun x => { x with sealNext := e, sealEnd := e, drbgStopped := false })
  if ahas s.sec.sys 0 then s
  else
    let k := State.drawBytes 32 s
    k.2.modSec (fun x => { x with sys := aset x.sys 0 k.1 })

/-- Partitions whose latest drain was cut before its DRAIN_DONE was committed (R46). -/
def State.cutDrains (s : State) : List Nat := ((s.parts ++ s.stowed).filter (fun e => e.2.store.drain.cut)).map (·.1)

/-- The boot records which drain records lack their commit marker (R46). -/
def State.logCuts (s : State) : State :=
  let clear (e : Nat × Part) : Nat × Part := (e.1, { e.2 with store := { e.2.store with drain := { e.2.store.drain with cut := false } } })
  let s := s.cutDrains.foldl (fun s p => s.log .drainCut (srcPart p) (values [])) s
  { s with parts := s.parts.map clear, stowed := s.stowed.map clear }

/-- The boot of the service die (R603, R604, R674, R678, R683, R690, R697). -/
def State.boot (s : State) : State :=
  let s := s.modSvc (fun v => { v with booted := true, bootAt := s.now, watchdog := { lastRestart := s.now, recovery := false } })
  let s := s.modLog (fun l => { l with bucket := 1048576 * 1000000000, bucketAt := logTime s })
  let s := s.recoverErases
  match s.fwChoice 0 with
  | none => s.modSvc (fun v => { v with fwStatus := 1 })
  | some k =>
    let s := s.modSvc (fun v => { v with runningSvc := k })
    let s := if s.svc.nv.lowering then s.lowerRop else s
    let s := s.loadOptions.startEngines
    let s := if s.cutDrains.isEmpty then s else s.logCuts
    if s.svc.nv.watchdogDue then (s.modNv (fun n => { n with watchdogDue := false })).log .watchdog srcSvc (values []) else s

end Sys2Proof.Machine
end

