-- ==== Sys2Proof/Machine/ControlOps.lean ====
section
/-! DEFINITION. What the control port's events share (18, 19): rings and their stops, the layout and classes of descriptors (R718-R720, R726, R733), fetching and
the journal (R716, R725, R749), completions (R721-R724), resets of a port (R714, R757). -/
namespace Sys2Proof.Machine
open Sys2Proof

/-! ### When a port answers (R712) -/

/-- A control port exists while the controller rails are up, from step 7 of the power-up. -/
def State.portExists (s : State) (i : Nat) : Bool :=
  decide (i < 2) && (s.pkg == .on || s.pkg == .seqDown || (s.pkg == .seqUp && s.svc.seq.pllLocked))

/-- It is reached 100 ms after the later of step 7 and PERST_N's deassertion. -/
def State.portOpen (s : State) (i : Nat) : Bool :=
  s.portExists i && due s s.svc.seq.portsAt (100 * cMs) &&
  (match s.port? i with | some p => !p.perst && due s p.perstHighAt (100 * cMs) | none => false)

/-- An access that reaches the port shows that its link is up and its function in D0 (log 58). -/
def State.reach (s : State) (i : Nat) : State := s.modPort i (fun p => { p with linkUp := true, linkDownSince := none, d3hot := false })

/-- The effect of an access to BAR0 through a port that answers; nothing where it does not. -/
def State.access (s : State) (i : Nat) (f : State → State) : State := if s.portOpen i then f (s.reach i) else s

/-! ### Rings (R715, R717, R722-R724, R763) -/

def CtlPort.ring (p : CtlPort) : RingId → RingSt
  | .cmd => p.cmd | .cpl => p.cpl | .evt => p.evt

def CtlPort.modRing (p : CtlPort) (r : RingId) (f : RingSt → RingSt) : CtlPort :=
  match r with
  | .cmd => { p with cmd := f p.cmd } | .cpl => { p with cpl := f p.cpl } | .evt => { p with evt := f p.evt }

def State.modRing (s : State) (i : Nat) (r : RingId) (f : RingSt → RingSt) : State := s.modPort i (fun p => p.modRing r f)

/-- The journal entry of a running command by its TAG. -/
def CtlPort.entry? (p : CtlPort) (tag : BitVec 32) : Option JEntry := p.journal.find? (fun e => e.tag == tag && e.status == .running)

/-- The journal entry of a JSEQ changed. -/
def CtlPort.modEntry (p : CtlPort) (jseq : Nat) (f : JEntry → JEntry) : CtlPort :=
  { p with journal := p.journal.map (fun e => if e.jseq == jseq then f e else e) }

/-- JOURNAL_DONE of a command whose completion is not written (R724, R741). -/
def State.journalDone (s : State) (e : Ended) (jseq : Nat) : State := s.event 4 (natLE 4 e.tag.toNat ++ natLE 8 jseq ++ natLE 1 e.status.code)

/-- The JSEQ under which the journal holds an ended command. -/
def CtlPort.jseqOf (p : CtlPort) (e : Ended) : Nat :=
  match (p.journal.filter (fun j => j.tag == e.tag && j.opcode == e.opcode && j.status != .running && !j.written)).getLast? with | some j => j.jseq | none => 0

/-- A ring stops (R717, R724, R763): a cause other than DISABLED sets RING_STOPPED; completions held for the completion ring go to the journal alone. -/
def State.stopRing (s : State) (i : Nat) (r : RingId) (c : RingCause) : State :=
  let held := match s.port? i with | some p => if r == RingId.cpl then p.unwritten else [] | none => []
  let s := s.modRing i r (fun x => { x with stopped := true, cause := c, enable := x.enable && c != .disabled && c != .reset && c != .badSize })
  let s := if r == RingId.cpl then s.modPort i (fun p => { p with unwritten := [], unsignalled := 0, oldestUnsignalled := none }) else s
  let s := held.foldl (fun s e => s.journalDone e (match s.port? i with | some p => p.jseqOf e | none => 0)) s
  if c == .disabled then s else s.intPort i .ringStopped

/-- The completion vector is raised, and its triggers start over (R723). -/
def State.raiseCpl (s : State) (i : Nat) : State := (s.raiseVector i 0).modPort i (fun p => { p with unsignalled := 0, oldestUnsignalled := none })

/-- A completion written at CPL_TAIL, with its triggers of the vector (R722, R723, R749). -/
def State.writeCpl (s : State) (i : Nat) (e : Ended) : State :=
  match s.port? i with
  | none => s
  | some p =>
    let j := p.jseqOf e
    let s := (s.send (.completion i p.cpl.tail p.cpl.phase e)).modPort i (fun p =>
      { p.modEntry j (fun x => { x with written := true }) with
        cpl := p.cpl.push, unsignalled := p.unsignalled + 1,
        oldestUnsignalled := match p.oldestUnsignalled with | some c => some c | none => some s.now })
    if e.irq || (p.cplIntCount != 0 && p.cplIntCount ≤ p.unsignalled + 1) then s.raiseCpl i else s

/-- Completions that waited for a slot, as far as slots reach (R722). -/
def State.drainCpl : Nat → State → Nat → State
  | 0, s, _ => s
  | n + 1, s, i =>
    match s.port? i with
    | none => s
    | some p =>
      match p.unwritten with
      | [] => s
      | e :: rest => if !p.cpl.active || p.cpl.full then s else State.drainCpl n ((s.modPort i (fun p => { p with unwritten := rest })).writeCpl i e) i

/-! ### Descriptors (R716, R718-R720, R733) -/

/-- The classes of R733. -/
inductive CmdClass where
  | none | package | mode | tenant | window | object | repair
  deriving DecidableEq, Repr

def cmdClass (op : Nat) : CmdClass :=
  match op with
  | 0x0103 | 0x0107 | 0x0108 => .mode
  | 0x0201 | 0x0202 | 0x0203 | 0x0204 | 0x0301 | 0x0302 | 0x0303 | 0x0305 | 0x0306 | 0x0307 | 0x0308 | 0x0309 | 0x030A => .tenant
  | 0x0205 | 0x0206 => .window
  | 0x0401 | 0x0402 | 0x0403 | 0x0404 | 0x0405 | 0x0406 | 0x0407 => .object
  | 0x0501 | 0x0502 | 0x0503 => .repair
  | 0x0001 | 0x030B | 0x030C => .none
  | _ => .package

/-- Commands of order S (R726, R733). -/
def cmdSerial (op : Nat) : Bool :=
  match op with
  | 0x0103 | 0x0107 | 0x0203 | 0x0204 | 0x0302 | 0x030A | 0x030B | 0x030C | 0x0001 | 0x0403 | 0x0404 | 0x0405 | 0x0406 | 0x0407 | 0x0501 | 0x0502 => false
  | _ => true

/-- The partition that a descriptor's command names: its PARTITION field, or the one that holds its port (R733). -/
def State.cmdPart (s : State) (d : List Byte) : Option Nat :=
  let op := leAt d 0 2
  if op == 0x0306 || op == 0x0307 || op == 0x0308 || op == 0x0309 || op == 0x030A then s.partIds.find? (fun p => s.partHasPort p (leAt d 8 1))
  else if cmdClass op == .package || cmdClass op == .none then none
  else some (leAt d 8 1)

/-! ### Fetching (R716, R722, R725, R749) -/

/-- Commands of a port that run: fetched and not ended. -/
def CtlPort.runningCount (p : CtlPort) : Nat := (p.journal.filter (fun e => e.status == .running)).length

/-- The journal entry of a descriptor as it is fetched. -/
def jEntryOf (d : List Byte) (jseq fabNow now : Nat) : JEntry :=
  { desc := d, tag := BitVec.ofNat 32 (leAt d 4 4), opcode := leAt d 0 2, status := .running, detail := 0, result := [], jseq := jseq, fetched := fabNow, completed := none,
    written := false, at_ := now, started := none }

/-- Fetches one descriptor: CMD_HEAD advances past it, and the journal, which holds the last 4,096, records it. -/
def CtlPort.fetchOne (p : CtlPort) (d : List Byte) (rest : List (List Byte)) (fabNow now : Nat) : CtlPort :=
  let js := p.journal ++ [jEntryOf d (p.jseq + 1) fabNow now]
  { p with posted := rest, jseq := p.jseq + 1, journal := js.drop (js.length - 4096), cmd := { p.cmd with head := (p.cmd.head + 1) % p.cmd.size } }

/-- Fetches posted descriptors in slot order, while fewer than 64 commands run and fewer than 64 completions wait. -/
def State.fetch : Nat → State → Nat → State
  | 0, s, _ => s
  | n + 1, s, i =>
    match s.port? i with
    | none => s
    | some p =>
      match p.posted with
      | [] => s
      | d :: rest =>
        if !p.cmd.active || 64 ≤ p.runningCount || 64 ≤ p.unwritten.length then s
        else State.fetch n (s.modPort i (fun p => p.fetchOne d rest (fab s) s.now)) i

/-- A ring holds at most 4,095 descriptors, so one round fetches all that may be. -/
def State.pumpFetch (s : State) (i : Nat) : State := s.fetch (match s.port? i with | some p => p.posted.length | none => 0) i

/-! ### Starting (R726) -/

/-- A running command's class and partition, with what orders it: port, fetch cycle, JSEQ. -/
structure Waiter where
  port : Nat
  entry : JEntry
  deriving DecidableEq, Repr

/-- Whether one fetch was decided before another: on one cycle the die 0 port's first (R51, R726). -/
def Waiter.before (a b : Waiter) : Bool :=
  decide (a.entry.at_ < b.entry.at_) || (a.entry.at_ == b.entry.at_ && (decide (a.port < b.port) || (a.port == b.port && decide (a.entry.jseq < b.entry.jseq))))

/-- Every command of both ports that has not ended. -/
def State.waiters (s : State) : List Waiter :=
  (s.ports.zipIdx.map (fun x => (x.1.journal.filter (fun e => e.status == .running)).map (fun e => { port := x.2, entry := e }))).flatten

/-- Whether a command may start (R726). -/
def State.mayStart (s : State) (w : Waiter) : Bool :=
  let cls := cmdClass w.entry.opcode
  if cls == .none then true
  else
    let earlier := s.waiters.filter (fun v => cmdClass v.entry.opcode == cls && s.cmdPart v.entry.desc == s.cmdPart w.entry.desc && v.before w)
    earlier.all (fun v => v.entry.started.isSome) && (!cmdSerial w.entry.opcode || earlier.all (fun v => !cmdSerial v.entry.opcode))

/-! ### Resets of a port (R714, R757) -/

/-- The port's BAR0 registers at their reset values; its journal, its commands and its endpoint's link stay. -/
def CtlPort.resetRegs (p : CtlPort) : CtlPort :=
  { CtlPort.reset with
    linkUp := p.linkUp, linkDownSince := p.linkDownSince, busMaster := p.busMaster, busMasterClearSince := p.busMasterClearSince, perst := p.perst,
    perstHighAt := p.perstHighAt, d3hot := p.d3hot, journal := p.journal, jseq := p.jseq, ended := p.ended, eseq := p.eseq, unsupported := p.unsupported,
    msixEnable := p.msixEnable }

/-- The three rings stop, the event ring first, so that nothing is written into it any more. -/
def State.stopRings (s : State) (i : Nat) (c : RingCause) : State :=
  let s := ((s.stopRing i .evt c).stopRing i .cpl c).stopRing i .cmd c
  s.modPort i (fun p => { p with posted := [] })

/-- A function level reset (R714, R757, R763). -/
def State.functionReset (s : State) (i : Nat) : State := (s.stopRings i .reset).modPort i CtlPort.resetRegs

/-- A control port's link goes down (R730). -/
def State.portLinkDown (s : State) (i : Nat) : State :=
  (s.stopRings i .reset).modPort i (fun p => { p with linkUp := false, linkDownSince := match p.linkDownSince with | some c => some c | none => some s.now })

/-! ### The test multiplexer (R675, R710, R758) -/

/-- Writes the package's selection over a path (0 JTAG, 1 and 2 the ports), and both ports' copies read it. Of the writes of one service-die cycle the one over the
higher path stands. -/
def State.selectTmux (s : State) (path v : Nat) : State :=
  if s.svc.pins.tmuxAt.1 / 4 == s.now / 4 && path < s.svc.pins.tmuxAt.2 then s
  else
    (s.modPins (fun p => { p with tmuxGroup := v % 16, tmuxDie := v / 16 % 8, tmuxAt := (s.now, path) })) |>.modPort 0 (fun p => { p with tmuxSelect := BitVec.ofNat 32 (v % 128) })
      |>.modPort 1 (fun p => { p with tmuxSelect := BitVec.ofNat 32 (v % 128) })

/-- The group that the pins carry: 0 where R675 does not open the selection at the level in force. -/
def State.tmuxDriven (s : State) : Nat :=
  let g := s.svc.pins.tmuxGroup
  if 10 < g then 0
  else if s.ropLevel == 0 then g
  else if s.ropLevel == 1 && s.sec.scopes.contains 0 then g
  else 0

/-! ### A DEBUG_UNLOCK and a raise of read-out protection on one service-die cycle (R615) -/

/-- Whether a token or blob presents the current challenge. -/
def State.presents (s : State) (b : List Byte) (off : Nat) : Bool := s.sec.challenge == some (slice b off 64)

/-- Whether a raise of read-out protection waits in the queue for the service-die cycle of the decision: it is decided first, and the token is refused (R615). -/
def State.raiseWaits (s : State) : Bool :=
  (s.pending.takeWhile (fun c => decide (c.cycle / 4 ≤ s.now / 4))).any (fun c => match c with
    | .ropSet _ c n => decide (s.ropLevel < n.toNat) && n != 3 && s.ownsAll c && decide (c.nvFails < 2)
    | _ => false)

/-- A raise refuses the token of a DEBUG_UNLOCK that waits for the same service-die cycle: the challenge that it will present is consumed (R612, R615). -/
def State.refuseUnlock (s : State) : State :=
  if (s.pending.takeWhile (fun c => decide (c.cycle / 4 ≤ s.now / 4))).any (fun c => match c with
      | .debugUnlock _ _ tok => s.presents tok.bytes 16
      | _ => false)
  then s.modSec (fun x => { x with challenge := none }) else s

end Sys2Proof.Machine
end

