-- ==== Sys2Proof/Machine/WinOps.lean ====
section
/-! DEFINITION. Windows: how one is opened and revoked (R56, R107-R112, R125-R131, R160, R171, R576, R737, R738), and how a command on a paired
partition reaches both twins (R390). -/
namespace Sys2Proof.Machine
open Sys2Proof

/-! ### Commands on both twins (R390) -/

/-- A command whose tables have changed here: it completes at once, or once the twin has confirmed the change under its message. -/
def State.finishShared (s : State) (p : Nat) (c : CmdRef) (op mseq : Nat) (result : List Byte) : State :=
  if mseq == 0 then s.finishCfg c op .ok result
  else { s with running := s.running ++ [{ cmd := c, opcode := op, op := .twinned p result true, since := s.now, mseq := mseq }] }

/-- A follower does not apply a change itself: the lead orders it and sends it back (R390). -/
def State.carries (s : State) (p : Nat) : Bool := (s.twin p).paired && !(s.twin p).lead && (s.twin p).mirrors

/-- A change of windows or tenants, without keys: carried to the lead, or applied here and sent to the follower (R390). -/
def State.shareChange (s : State) (p : Nat) (c : CmdRef) (op : Nat) (ws : List WinSync) (ts : List TenSync) (result : List Byte) (apply : State → State) : State :=
  let r := s.shareTables p ws ts [] []
  if s.carries p then r.2.2.startRunning c op (.carried p r.2.1 result)
  else (apply r.2.2).finishShared p c op r.1 result

/-! ### Opening (R107-R112, R737) -/

/-- The window that a request asks for, at a generation. -/
def winOfReq (r : WinReq) (gen : Nat) : Win :=
  { baseVa := r.baseVa.toNat, length := r.length.toNat, gen := gen, firstBrick := r.firstBrick.toNat, tenant := r.tenant.toNat, profile := r.profile.toNat,
    rights := r.rights, farDevice := if r.far then r.farDevice.toNat else 0, valid := true, far := r.far,
    ring := if r.ringOrder == 0 then none else some { key := r.ringKey, va := r.ringVa.toNat, order := r.ringOrder.toNat, next := 0 },
    revoking := none, forced := none, retired := false }

/-- Whether a byte range's bricks lie below BRICK_COUNT (R56, R108). -/
def State.inBricks (s : State) (p first n : Nat) : Bool := decide (first + n ≤ s.brickCount p)

/-- Whether every brick of a range is allocated to a tenant (R108). -/
def State.allOf (s : State) (p tenant first n : Nat) : Bool :=
  ((s.store p).bricks.filter (fun e => decide (first ≤ e.1) && decide (e.1 < first + n) && e.2.tenant == tenant)).length == n

/-- Whether an index may be given to a window: never used, or its revocation complete, and not retired (R112, R131). A window's revocation has
already advanced its index's generation; an index whose generation has passed 255 is retired. -/
def indexFree : Option Win → Bool
  | none => true
  | some w => !w.valid && w.revoking.isNone && !w.retired && w.gen != 0

/-- The lowest index that may be given to a window. -/
def State.freeIndex (s : State) (p : Nat) : Option Nat :=
  let ws := (s.remote p).windows
  (List.range (min 262144 (ws.length + 1))).find? (fun i => indexFree (aget ws i))

/-- Open windows of a partition (R108). -/
def State.openWindows (s : State) (p : Nat) : List (Nat × Win) := (s.remote p).windows.filter (fun e => e.2.valid)

/-- Whether an open window with the other encipherment setting covers a brick of a window (R576). -/
def State.encipherClash (s : State) (p : Nat) (w : Win) : Bool :=
  (s.openWindows p).any (fun e => !e.2.far && decide (e.2.firstBrick < w.firstBrick + w.bricks) && decide (w.firstBrick < e.2.firstBrick + e.2.bricks) &&
    (s.winProfile p e.2).encipher != (s.winProfile p w).encipher)

/-- Whether a ring is as R160 asks: order 2 to 16, its area 64-byte aligned and wholly in a window of the tenant's own that holds READ. -/
def State.ringOk (s : State) (p : Nat) (w : Win) : Bool :=
  match w.ring with
  | none => true
  | some r =>
    decide (2 ≤ r.order) && decide (r.order ≤ 16) && r.va % 64 == 0 &&
    (match s.keyCheck p w.tenant r.key with
      | .inr (_, v) => v.rights.getLsbD 0 && !v.far && decide (v.baseVa ≤ r.va) && decide (r.va - v.baseVa + 2 ^ r.order * 16 ≤ v.length)
      | .inl _ => false)

/-- Puts a checked window into the lowest free index, and completes the command with its key (R112, R390). -/
def State.openNow (s : State) (p : Nat) (c : CmdRef) (r : WinReq) : State :=
  match s.freeIndex p with
  | none => s.finish c 0x205 .windowLimit
  | some i =>
    let gen := match aget (s.remote p).windows i with | some w => w.gen | none => 1
    let x := (winOfReq r gen).toSync i
    s.shareChange p c 0x205 [x] [] (natLE 4 (mkKey ((s.remote p).checkKey.getD (0, 1)) gen i).toNat) (fun s => s.takeWindow p x)

/-- The far request that probes for a far window (R738). -/
def State.probeOf (s : State) (p : Nat) (r : WinReq) : FarReq :=
  let pr := s.profile p r.profile.toNat
  { op := 8, keystone := pr.keystone, durability := pr.durability, encipher := pr.encipher, prio := pr.prio, tenant := r.tenant.toNat, qpn := 0, sseq := 0,
    addr := r.firstBrick.toNat * 2097152 + r.baseVa.toNat % 2097152, len := r.length.toNat, imm := 0, a := 0, b := 0, data := [] }

/-- OPEN_WINDOW (R737): its failures in the order of the table, then the entry, or the probe of a far window (R738). -/
def execOpenWindow (t : Nat) (c : CmdRef) (part : Nat) (w : WinReq) (s : State) : Host.Outcome State Fault Refusal :=
  run t s (fun s =>
    let x := winOfReq w 0
    let badField := w.rights == 0 || w.length == 0 || decide (2 ^ 49 < w.length.toNat)
    let local_ := !w.far
    s.partCmd c 0x205 part badField
      [(!s.inMode part modesOpen, .mode), ((aget (s.remote part).tenants x.tenant).isNone, .badTenant),
       (local_ && !s.inBricks part x.firstBrick x.bricks, .badRange), (local_ && !s.allOf part x.tenant x.firstBrick x.bricks, .brickOwner),
       (decide (s.windowLimit part ≤ (s.openWindows part).length), .windowLimit), ((s.profile? part x.profile).isNone, .badProfile),
       (local_ && s.encipherClash part x, .encipherConflict), ((s.winProfile part x).durability != 0 && !(s.twin part).paired, .noTwin),
       (!s.ringOk part x, .badRing), (w.far && (s.peer part x.farDevice).state != .joined, .farUnreachable)]
      (fun s =>
        if w.far then
          let s := s.startRunning c 0x205 (.openFar part x.farDevice 0)
          (s.modFabric part (fun F => { F with farProbes := F.farProbes ++ [{ peer := x.farDevice, cmd := c, req := w, firstAt := fab s }] })).fabricSend
            part x.farDevice 5 (farBytes (s.probeOf part w))
        else s.openNow part c w))

/-- The oldest probe of a peer answered, or out of time (R738): the window opens, or the command fails. A command that was aborted in between has
ended already. -/
def State.probeEnds (s : State) (p peer : Nat) (st : Option Status) : State :=
  match (s.fabric p).farProbes.find? (fun x => x.peer == peer) with
  | none => s
  | some x =>
    let mine (r : Running) : Bool := r.op == .openFar p peer 0 && r.cmd == x.cmd
    let s := s.modFabric p (fun F => { F with farProbes := F.farProbes.filter (fun y => y != x) })
    if !s.running.any mine then s
    else
      let s : State := { s with running := s.running.filter (fun r => !mine r) }
      match st with
      | some e => s.finish x.cmd 0x205 e
      | none =>
        if s.windowLimit p ≤ (s.openWindows p).length then s.finish x.cmd 0x205 .windowLimit else s.openNow p x.cmd x.req

/-! ### Revoking (R125-R131) -/

/-- The entry of a window that is revoked: its generation advanced, not VALID (R125). -/
def Win.closed (w : Win) : Win := { w with gen := (w.gen + 1) % 256, valid := false, retired := w.gen == 255 }

/-- REVOKE_WINDOW (R125-R131, R391, R737): the generation advances on every die at once; the command completes when no operation of the old one is left,
on both twins where there are two. -/
def execRevokeWindow (t : Nat) (c : CmdRef) (part : Nat) (key : BitVec 32) (s : State) : Host.Outcome State Fault Refusal :=
  run t s (fun s =>
    let gen := bits key.toNat 31 24
    let idx := bits key.toNat 23 6
    let ck := (s.remote part).checkKey.getD (0, 1)
    let w? := (aget (s.remote part).windows idx).filter (fun w => w.valid && w.gen == gen && check6 ck.1 ck.2 gen idx == bits key.toNat 5 0)
    s.partCmd c 0x206 part false [(!s.inMode part (modesOpen ++ [.drain]), .mode), (w?.isNone, .notOpen)] (fun s =>
      match w? with
      | none => s
      | some w =>
        let x := w.closed.toSync idx
        let r := s.shareTables part [x] [] [] []
        if s.carries part then r.2.2.startRunning c 0x206 (.revoke part idx)
        else
          let s : State := r.2.2.takeWindow part x
          let s : State := { s with running := s.running ++ [{ cmd := c, opcode := 0x206, op := .revoke part idx, since := s.now, mseq := r.1 }] }
          s.settle part))

end Sys2Proof.Machine
end

