-- ==== Sys2Proof/Machine/CmdKeys.lean ====
section
/-! DEFINITION. Key, MACsec, attestation and debug commands (R390, R567-R585, R590, R594-R599, R606, R608-R615, R740). -/
namespace Sys2Proof.Machine
open Sys2Proof

/-! ### Tenant keys (R569, R578-R582, R595) -/

/-- A key that a command brings: drawn from the DRBG, or unwrapped under IMPORT, of a given length; then its effect, or UNWRAP. -/
def State.withKey (s : State) (c : CmdRef) (op len : Nat) (generate : Bool) (blob : List Byte) (k : List Byte → State → State) : State :=
  if generate then let r := State.drawBytes len s; k r.1 r.2
  else
    match s.unwrapBlob blob with
    | (some key, s) => if key.length == len then k key s else s.finish c op .unwrap
    | (none, s) => s.finish c op .unwrap

/-- Whether both halves of an XTS key are the same. -/
def weakKey (key : List Byte) : Bool := key.take 32 == key.drop 32

/-- A key entry as the tables take it here. -/
def keyEntry (slot half : Nat) (current : Bool) (key : List Byte) : KeySync × List Byte := ({ slot := slot, half := half, current := current, nonce := [], sealed := key }, key)

def execLoadKey (t : Nat) (c : CmdRef) (part : Nat) (slot : BitVec 16) (src : BitVec 1) (blob : List Byte) (s : State) : Host.Outcome State Fault Refusal :=
  run t s (fun s =>
    let i := slot.toNat
    s.partCmd c 0x301 part false
      [(!s.inMode part modesOpen, .mode), (!s.engine, .entropy), (decide (4095 < i), .badSlot), ((s.slot i).state != .empty, .slotInUse),
       (src == 1 && !ahas s.sec.sys 1, .noImport)]
      (fun s => s.withKey c 0x301 64 (src == 0) blob (fun key s =>
        if weakKey key then s.finish c 0x301 .weakKey
        else
          let r := s.shareTables part [] [] [(i, 0, true, key)] []
          if s.carries part then r.2.2.startRunning c 0x301 (.carried part r.2.1 [])
          else (r.2.2.takeKey part (keyEntry i 0 true key)).finishShared part c 0x301 r.1 [])))

/-- Whether a slot has been erased on the service-die cycle of the decision (R585). -/
def State.erasedNow (s : State) (p i : Nat) : Bool :=
  (s.slot i).state == .empty && (s.partDies p).any (fun d => match s.die? d with
    | some D => (match aget D.remote.eraseStamps i with | some c => c / 4 == s.now / 4 | none => false)
    | none => false)

/-- REKEY (R578-R582): an ERASE_KEY of the slot on the same service-die cycle is decided first (R585); the new key stands in the other half and the sweep begins; a follower's is carried to the lead. -/
def execRekey (t : Nat) (c : CmdRef) (part : Nat) (slot : BitVec 16) (src : BitVec 1) (blob : List Byte) (rate : BitVec 6) (s : State) : Host.Outcome State Fault Refusal :=
  run t s (fun s =>
    let i := slot.toNat
    let k := s.slot i
    s.partCmd c 0x302 part (rate == 0 || decide (50 < rate.toNat))
      [(!s.inMode part modesServing, .mode), (!s.engine, .entropy), (decide (4095 < i), .badSlot), ((match k.part with | some q => q != part | none => false), .slotPartition),
       (s.soonerSvc (.erase i) || s.erasedNow part i, .notLoaded), (k.state != .active, .notActive), (src == 1 && !ahas s.sec.sys 1, .noImport)]
      (fun s => s.withKey c 0x302 64 (src == 0) blob (fun key s =>
        if weakKey key then s.finish c 0x302 .weakKey
        else
          let h := 1 - k.currentHalf
          let r := s.shareTables part [] [] [(i, h, false, key)] []
          let s := r.2.2.startRunning c 0x302 (.rekey part i h)
          if s.carries part then s
          else (s.takeKey part (keyEntry i h false key)).modSec (fun x =>
            { x with slots := aupd x.slots i (fun y => { y with sweep := some { newHalf := h, rate := rate.toNat, silent := false } }) }))))

/-- ERASE_KEY (R578, R582, R584, R585): every die's halves and every record zeroised at once; it needs no entropy. -/
def execEraseKey (t : Nat) (c : CmdRef) (part : Nat) (slot : BitVec 16) (s : State) : Host.Outcome State Fault Refusal :=
  run t s (fun s =>
    let i := slot.toNat
    let k := s.slot i
    s.partCmd c 0x303 part false
      [(!s.inMode part modesOpen, .mode), (decide (4095 < i), .badSlot), (k.state == .empty, .notLoaded), ((match k.part with | some q => q != part | none => false), .slotPartition)]
      (fun s =>
        let r := s.shareTables part [] [] [] [i]
        if s.carries part then r.2.2.startRunning c 0x303 (.carried part r.2.1 [])
        else (((r.2.2.eraseKey part i).log .keyErased (srcPart part) (values [i])).finishShared part c 0x303 r.1 []).settle part))

/-! ### System keys (R570, R594) -/

def execImportKeySet (t : Nat) (c : CmdRef) (key : List Byte) (s : State) : Host.Outcome State Fault Refusal :=
  run t s (fun s => s.pkgCmd c 0x304 (key.length != 32) [(!s.allService || (s.ropLevel == 2 && ahas s.sec.sys 1), .mode), (!s.engine, .entropy)]
    (fun s => ((s.programKey (65536 + 1) 0 key).modSec (fun x => { x with sys := aset x.sys 1 key })).finish c 0x304 .ok))

def execSystemKeySet (t : Nat) (c : CmdRef) (part : Nat) (which : BitVec 1) (blob : List Byte) (s : State) : Host.Outcome State Fault Refusal :=
  run t s (fun s => s.partCmd c 0x305 part false
    [(s.pkg != .on || s.mode part == .drain, .mode), (!s.engine, .entropy), (!ahas s.sec.sys 1, .noImport)]
    (fun s => s.withKey c 0x305 32 false blob (fun key s =>
      ((s.programKey (65536 + (if which == 0 then 6 else 10) + part) 0 key).modSec (fun x => { x with sys := aset x.sys ((if which == 0 then 6 else 10) + part) key })).finish c 0x305 .ok)))

/-! ### MACsec and EAPOL (R596-R599, R740) -/

/-- The partition that holds a port with a breakout (R733). -/
def State.portPart (s : State) (port brk : Nat) : Option Nat := s.partIds.find? (fun p => s.partHasPort p port && decide (brk < s.breakouts p port))

/-- A command of a port: BAD_FIELD, NOT_OWNER, its own failures; BAD_PORT where no partition holds the port, unless another failure stands for it. -/
def State.portCmd (s : State) (c : CmdRef) (op port brk : Nat) (badField : Bool) (before fails : List (Bool × Status)) (absent : Status) (effect : State → State) : State :=
  let p := s.portPart port brk
  match firstFail ([(badField, .badField), ((match p with | some p => !s.owns c p | none => false), .notOwner)] ++ before ++ [(p.isNone, absent)] ++ fails) with
  | some st => s.finish c op st
  | none => effect s

def execMacsecMode (t : Nat) (c : CmdRef) (port : BitVec 4) (brk : BitVec 3) (mode : BitVec 2) (window : BitVec 32) (s : State) : Host.Outcome State Fault Refusal :=
  run t s (fun s => s.portCmd c 0x306 port.toNat brk.toNat (mode == 3 || decide (2 ^ 30 < window.toNat)) [] [] .badPort
    (fun s => (s.modMac port.toNat brk.toNat (fun m => { m with mode := mode.toNat, window := window.toNat })).finish c 0x306 .ok))

/-- The association of a direction, channel and number; there is one transmit channel (R596). -/
def Assoc.is (a : Assoc) (tx : Bool) (sci : BitVec 64) (an : Nat) : Bool := a.tx == tx && a.an == an && (tx || a.sci == sci)

/-- Whether another association has no room (R596, R597): a ninth receive channel, or a third of one channel; the one of the same number is replaced. -/
def MacPort.full (m : MacPort) (k : MacKey) : Bool :=
  let others := m.assocs.filter (fun a => a.tx == k.tx && !a.is k.tx k.sci k.an.toNat)
  let same := others.filter (fun a => k.tx || a.sci == k.sci)
  decide (2 ≤ same.length) || (!k.tx && same.isEmpty && decide (8 ≤ ((others.map (·.sci)).eraseDups).length))

/-- An association's packet number has come as far as the device reports (R599). -/
def State.pnCheck (s : State) (port brk : Nat) : State :=
  let m := s.macPort port brk
  match m.txAn.bind (fun n => m.assocs.find? (fun a => a.tx && a.an == n)) with
  | some a => if 0xC000000000000000 ≤ a.pn then s.int .macsecPn else s
  | none => s

def execMacsecKey (t : Nat) (c : CmdRef) (port : BitVec 4) (brk : BitVec 3) (k : MacKey) (s : State) : Host.Outcome State Fault Refusal :=
  run t s (fun s =>
    let m := s.macPort port.toNat brk.toNat
    s.portCmd c 0x307 port.toNat brk.toNat (k.salt.length != 12) [(!s.engine, .entropy)] [(m.full k, .scFull), (!ahas s.sec.sys 1, .noImport)] .badPort
      (fun s => s.withKey c 0x307 32 false k.blob (fun key s =>
        let a : Assoc := { tx := k.tx, sci := k.sci, an := k.an.toNat, ssci := k.ssci.toNat, salt := k.salt, pn := k.pn.toNat, key := key }
        ((s.modMac port.toNat brk.toNat (fun m => { m with assocs := m.assocs.filter (fun b => !b.is k.tx k.sci k.an.toNat) ++ [a] })).pnCheck
          port.toNat brk.toNat).finish c 0x307 .ok)))

def execMacsecTxSelect (t : Nat) (c : CmdRef) (port : BitVec 4) (brk : BitVec 3) (an : BitVec 2) (s : State) : Host.Outcome State Fault Refusal :=
  run t s (fun s =>
    let m := s.macPort port.toNat brk.toNat
    s.portCmd c 0x308 port.toNat brk.toNat false [] [(!m.assocs.any (fun a => a.tx && a.an == an.toNat), .notInstalled)] .notInstalled
      (fun s => ((s.modMac port.toNat brk.toNat (fun m => { m with txAn := some an.toNat })).pnCheck port.toNat brk.toNat).finish c 0x308 .ok))

def execMacsecDelete (t : Nat) (c : CmdRef) (port : BitVec 4) (brk : BitVec 3) (dir : BitVec 1) (sci : BitVec 64) (an : BitVec 2) (s : State) : Host.Outcome State Fault Refusal :=
  run t s (fun s =>
    let m := s.macPort port.toNat brk.toNat
    let tx := dir == 1
    let mine (a : Assoc) : Bool := a.tx == tx && a.an == an.toNat && a.sci == sci
    s.portCmd c 0x309 port.toNat brk.toNat false [] [(!m.assocs.any mine, .notInstalled), (tx && m.txAn == some an.toNat, .inUse)] .notInstalled
      (fun s => (s.modMac port.toNat brk.toNat (fun m => { m with assocs := m.assocs.filter (fun a => !mine a) })).finish c 0x309 .ok))

/-- EAPOL_SEND (R740): unprotected whatever the port's mode; the frame leaves at once. -/
def execEapolSend (t : Nat) (c : CmdRef) (port : BitVec 4) (brk : BitVec 3) (len : BitVec 16) (frame : List Byte) (s : State) : Host.Outcome State Fault Refusal :=
  run t s (fun s =>
    let n := len.toNat
    s.portCmd c 0x30A port.toNat brk.toNat (decide (n < 60) || decide (1514 < n) || frame.length != n || beAt frame 12 2 != 0x888E) [] [] .badPort
      (fun s => (s.send (.frame port.toNat brk.toNat frame)).finish c 0x30A .ok))

/-! ### Attestation (R608-R610) -/

def SlotState.code : SlotState → Nat
  | .empty => 0 | .active => 1 | .rekeying => 2

def pad64 (b : List Byte) : List Byte := (b ++ fill 64 0).take 64

/-- Bytes 448 to 511 of an evidence record; what the record holds for a tenant not bound, a partition that does not exist or a partition without a twin is
a free value (log 63). -/
def State.attestTail (s : State) (slot : Bool) (i v : Nat) : List Byte :=
  if slot then
    let k := s.slot i
    natLE 1 k.state.code ++ natLE 1 k.currentHalf ++ fill 2 0 ++ natLE 4 k.loadCount ++ natLE 8 k.lastLoad ++ natLE 8 k.lastErase ++ natLE 2 (k.tenant.getD (v % 65536)) ++ fill 38 0
  else
    ((List.range 4).map (fun p => if s.hasPart p then natLE 1 (s.mode p).code else natLE 1 (v % 256))).flatten ++
      ((List.range 4).map (fun p => if (s.twin p).paired then natLE 2 (s.field 10 p 0 0 2 0) else natLE 2 (v % 65536))).flatten ++ fill 52 0

/-- Bytes 0 to 511 of an evidence record (R610). -/
def State.attestBody (s : State) (part : Nat) (slot : Bool) (i v : Nat) (nonce : List Byte) : List Byte :=
  let fw (l : List FwCopy) (k : Nat) : FwCopy := l.getD k { committed := false, seq := 0, digest := [], bytes := [], bootOk := false, failed := false, resets := 0, raiseFloor := false }
  let a := fw s.svc.nv.svcFw s.svc.runningSvc
  let b := fw s.svc.nv.stewFw s.svc.runningStew
  natLE 4 0x41545354 ++ natLE 1 1 ++ natLE 1 (b2n slot) ++ natLE 1 (if slot then part else 0xFF) ++ natLE 1 s.ropLevel ++ natLE 8 Config.serial.toNat ++ natLE 1 s.dieCount ++
    natLE 1 (s.anchor 2) ++ fill 2 0 ++ natLE 4 a.seq ++ natLE 4 b.seq ++ natLE 8 (s.anchor 5) ++ natLE 8 s.image.gen ++
    natLE 1 (if slot then (s.mode part).code else 0xFF) ++ natLE 1 (match s.time.mode with | .acquiring => 0 | .locked => 1 | .holdover => 2 | .lost => 3) ++
    natLE 2 (if slot then i else 0) ++ natLE 8 (fab s) ++ natLE 8 (s.sec.attestSeq + 1) ++ nonce ++ pad64 a.digest ++ pad64 b.digest ++ pad64 s.image.chain ++
    pad64 s.svc.nv.opt.ownerHash ++ sha3 Config.identityKey ++ s.attestTail slot i v

/-- ATTEST (R609, R610): a signed evidence record of the device or of a key slot. -/
def execAttest (t : Nat) (c : CmdTo) (part : Nat) (kind : BitVec 1) (slot : BitVec 12) (nonce : List Byte) (s : State) : Host.Outcome State Fault Refusal :=
  run t s (fun s =>
    match firstFail [(nonce.length != 64 || c.addr.toNat % 64 != 0, .badField), (!s.hasPart part, .badPartition), (!s.engine, .entropy), (s.pkg != .on, .mode)] with
    | some st => s.finish c.cmd 0x30B st
    | none =>
      let v := s.free
      let b := v.2.attestBody part (kind == 1) slot.toNat v.1 nonce
      ((v.2.modSec (fun x => { x with attestSeq := x.attestSeq + 1 })).send (.dma c.cmd.port c.addr.toNat (b ++ Config.mldsaSign b))).finish c.cmd 0x30B .ok)

/-- ATTEST_CERT (R608, R609): as much of the certificate chain as LENGTH allows. -/
def execAttestCert (t : Nat) (c : CmdTo) (len : BitVec 32) (s : State) : Host.Outcome State Fault Refusal :=
  run t s (fun s => (s.send (.dma c.cmd.port c.addr.toNat (s.svc.nv.certChain.take len.toNat))).finish c.cmd 0x30C .ok)

/-! ### Debug access and the owner (R606, R611-R615) -/

/-- DEBUG_CHALLENGE (R612): 64 bytes from the DRBG, to the host or to the unlock data register. -/
def execDebugChallenge (t : Nat) (c : CmdTo) (s : State) : Host.Outcome State Fault Refusal :=
  run t s (fun s => s.pkgCmd c.cmd 0x30D false [(s.sec.drbgStopped, .entropy)] (fun s =>
    let r := State.drawBytes 64 s
    let s := r.2.modSec (fun x => { x with challenge := some r.1 })
    (if c.cmd.port == 3 then s.modSvc (fun v => { v with tap := { v.tap with instr := 0x21, dr := r.1 } }) else s.send (.dma c.cmd.port c.addr.toNat r.1)).finish c.cmd 0x30D .ok))

/-- A challenge is consumed by the first command that presents it (R612). -/
def State.consume (s : State) (b : List Byte) (off : Nat) : State := if s.presents b off then s.modSec (fun x => { x with challenge := none }) else s

/-- Whether a token's form, signer and scope are as R613 and R614 ask at ROP1. -/
def State.tokenOk (s : State) (tok : Signed) : Bool :=
  let b := tok.bytes
  let o := s.svc.nv.opt
  let scope := leAt b 80 4
  tok.sigOk && !s.sec.enginesOff && s.ropLevel != 2 && b.length == 7315 && leAt b 0 4 == 0x444B544E && leAt b 4 1 == 1 && decide (scope < 16) && leAt b 84 4 == 0 &&
  (match leAt b 5 1 with
   | 0 => leAt b 6 1 == 0 && !o.ownerHash.isEmpty && sha3 (slice b 96 2592) == o.ownerHash
   | 1 => o.vendorDebug && decide (leAt b 6 1 ≤ 3) && !bit (s.anchor 2) (leAt b 6 1) && !bit scope 1 && !bit scope 2
   | _ => false)

/-- DEBUG_UNLOCK (R612-R615): every acceptance and refusal is recorded with scope, signer and SERIAL. -/
def execDebugUnlock (t : Nat) (c : CmdRef) (tok : Signed) (s : State) : Host.Outcome State Fault Refusal :=
  run t s (fun s => s.pkgCmd c 0x30E false [] (fun s =>
    let b := tok.bytes
    let scope := leAt b 80 4
    let mask := leAt b 7 1
    let fail := firstFail
      [(s.raiseWaits || !s.presents b 16 || leAt b 8 8 != Config.serial.toNat, Status.badChallenge), (s.ropLevel != 0 && !s.tokenOk tok, .badSignature), (s.ropLevel == 0, .notNeeded),
       (!s.scopesMayOpen scope mask, .mode)]
    let vs := values [scope, leAt b 5 1, leAt b 8 8]
    let s := s.consume b 16
    let tap (s : State) (ok : Bool) : State := if c.port == 3 then s.modSvc (fun v => { v with tap := { v.tap with instr := 0x20, unlockOk := ok } }) else s
    match fail with
    | some st => (tap (if st == .notNeeded then s else s.log .debugRefused srcSvc vs) false).finish c 0x30E st
    | none => (tap ((s.openScopes scope mask (if leAt b 88 8 == 0 then none else some (leAt b 88 8))).log .debugUnlock srcSvc vs) true).finish c 0x30E .ok))

/-- OWNER_SET (R606, R612): the new owner key hash and VENDOR_DEBUG, signed by the current owner where there is one. -/
def execOwnerSet (t : Nat) (c : CmdRef) (blob : Signed) (s : State) : Host.Outcome State Fault Refusal :=
  run t s (fun s =>
    let b := blob.bytes
    let old := s.svc.nv.opt.ownerHash
    let form := b.length == 7355 && decide (leAt b 128 1 ≤ 1) && allZero (slice b 129 7) && (!old.isEmpty || allZero (b.drop 136))
    let good := old.isEmpty || (blob.sigOk && !s.sec.enginesOff && sha3 (slice b 136 2592) == old)
    s.pkgCmd c 0x30F (!form) [] (fun s =>
      let fail := firstFail [(old.isEmpty && !s.allService, Status.mode), (!s.presents b 64, .badChallenge), (!good, .badSignature)]
      let s := s.consume b 64
      match fail with
      | some st => s.finish c 0x30F st
      | none =>
        let h := slice b 0 64
        let s := s.writeOption (fun o => { o with ownerHash := if allZero h then [] else h, vendorDebug := leAt b 128 1 == 1 })
        (s.log .ownerSet srcSvc (values [])).finish c 0x30F .ok))

end Sys2Proof.Machine
end

