-- ==== Sys2Proof/Machine/HamperOps.lean ====
section
/-! DEFINITION. Hampers (R298-R316): pins, the start and the filling of entries, holds, deadlines and direct windows, posting and cancelling. -/
namespace Sys2Proof.Machine
open Sys2Proof

/-- Bricks of a page range of an object. -/
def Object.bricksOf (o : Object) (first pages : Nat) : List Nat :=
  if pages == 0 then [] else (List.range ((first + pages - 1) / 512 - first / 512 + 1)).map (fun i => o.first + first / 512 + i)

/-- Bricks of an entry's range. -/
def State.entryBricks (s : State) (e : Entry) : List Nat :=
  match aget s.storeNv.objects e.object with
  | some o => o.bricksOf e.first e.pages
  | none => []

/-- Pages of an entry's range as brick and page, in increasing order. -/
def State.entryPages (s : State) (e : Entry) : List (Nat × Nat) :=
  match aget s.storeNv.objects e.object with
  | some o => (List.range e.pages).map (fun i => (o.first + (e.first + i) / 512, (e.first + i) % 512))
  | none => []

/-- Pages of an entry's range that are filled. -/
def State.entryFilled (s : State) (p : Nat) (e : Entry) : Nat :=
  ((s.entryPages e).filter (fun x => ((s.store p).page x.1 x.2).filled && (s.store p).resident x.1)).length

def StoreP.modEntry (S : StoreP) (h i : Nat) (f : Entry → Entry) : StoreP :=
  { S with hampers := aupd S.hampers h (fun x => { x with entries := modNth x.entries i f }) }

def StoreP.entry? (S : StoreP) (h i : Nat) : Option Entry := (aget S.hampers h).bind (fun x => x.entries[i]?)

/-- An entry changes state, at a fabric time that the hamper keeps (R311). -/
def State.setEntry (s : State) (p h i : Nat) (f : Entry → Entry) : State :=
  let now := fab s
  s.modStore p (fun S => { S.modEntry h i f with hampers := aupd (S.modEntry h i f).hampers h (fun x => { x with changed := now }) })

/-- Whether an entry's pins stand (R301, R302). -/
def Entry.pins (e : Entry) : Bool := e.state == .filling || e.state == .held || e.state == .late

/-- Whether an entry has ended (R304). -/
def EntryState.ended (e : EntryState) : Bool := e == .abandoned || e == .done || e == .skipped

/-- Whether a later entry may start behind an entry in this state (R301). -/
def EntryState.passes (e : EntryState) : Bool := e == .held || e.ended

/-- Frames pinned for a tenant: by entries, and its PINNED_DRAM frames (R283). -/
def StoreP.pinned (S : StoreP) (tenant : Nat) : Nat :=
  (S.bricks.filter (fun e => e.2.tenant == tenant && (e.2.pin || (e.2.placement == 1 && e.2.res.isSome)))).length

/-- Clears PIN on bricks that no other FILLING, HELD or LATE entry of the partition covers (R302). -/
def State.releasePins (s : State) (p : Nat) (bs : List Nat) : State :=
  let S := s.store p
  let kept := ((S.hampers.map (fun h => (h.2.entries.filter (·.pins)).map s.entryBricks)).flatten).flatten
  s.modStore p (fun S => { S with bricks := S.bricks.map (fun e => if bs.contains e.1 && !kept.contains e.1 then (e.1, { e.2 with pin := false }) else e) })

/-- A hamper whose entries have all ended frees its number (R304). -/
def State.reapHamper (s : State) (p h : Nat) : State :=
  s.modStore p (fun S => match aget S.hampers h with
    | some x => if x.entries.all (fun e => e.state.ended) then { S with hampers := adel S.hampers h } else S
    | none => S)

/-- A waiting PROMOTE ends with its entry (R298). -/
def State.promoteEnds (s : State) (p h : Nat) (st : Status) : State :=
  (s.endRunning (· == .promote p h true) st [] true).endRunning (· == .promote p h false) st [] false

/-- A frame for a hamper's or a pinned object's fill (R286, R287): given, or an eviction begun for the tenant. -/
def State.frameForFill (s : State) (p b : Nat) : Bool × State :=
  let S := s.store p
  let tenant := S.tenantOf b
  let allowed := s.allowedCourses p b
  let evict (s : State) : State := if S.evictingFor tenant then s else (s.evictOn p (some tenant) allowed).2
  if s.atLimit p tenant then (false, evict s)
  else
    match S.mostFree allowed with
    | some c => (match S.freeFrame c with | some f => (true, s.giveFrame p b c f) | none => (false, evict s))
    | none => (false, evict s)

/-- The first page of an entry that is VALID and not FILLED. -/
def State.nextFill (s : State) (p : Nat) (e : Entry) : Option (Nat × Nat) :=
  (s.entryPages e).find? (fun x => (s.store p).valid x.1 x.2 && !s.listed p x.1 x.2 &&
    !((s.store p).resident x.1 && ((s.store p).page x.1 x.2).filled))

/-- Becoming HELD (R302, R305, R307): when the hold ends, and no direct window stays open for the entry. -/
def State.holdEntry (s : State) (p h i : Nat) (e : Entry) : State :=
  let now := fab s
  let late := e.state == .late || e.deadline == 0
  let stop := if e.holdMs == 0 then none else some ((if late then now else e.deadline) + e.holdMs * 1000000)
  let s := s.setEntry p h i (fun e => { e with state := .held, heldAt := now, holdEnd := stop })
  (s.modStore p (fun S => { S with direct := S.direct.filter (fun w => !(w.hamper == h && w.entry == i && w.ends.isNone)) })).promoteEnds p h .ok

/-- An entry that fills asks for its next unit, one at a time in page order, or is HELD once nothing is left (R301, R303). -/
def State.fillEntry (s : State) (p h i : Nat) : State :=
  match (s.store p).entry? h i with
  | none => s
  | some e =>
    if !(e.state == .filling || e.state == .late) || (s.flash p).reads.any (fun r => r.hamper == some (h, i)) then s
    else
      match s.nextFill p e with
      | none => s.holdEntry p h i e
      | some (b, g) =>
        let r := if (s.store p).resident b then (true, s) else s.frameForFill p b
        if !r.1 then r.2
        else (r.2.startRead p b (g / 4) true none false).modFlash p (fun F =>
          { F with reads := F.reads.map (fun x => if x.brick == b && x.unit == g / 4 then { x with hamper := some (h, i) } else x) })

/-- Whether an entry still waits to pin its bricks: QUEUED, or LATE without them. -/
def State.unpinned (s : State) (p : Nat) (e : Entry) : Bool :=
  e.state == .queued || (e.state == .late && (s.entryBricks e).any (fun b => match (s.store p).brick? b with | some B => !B.pin | none => false))

/-- R301: the hamper's next entry pins its bricks and fills, if those before it let it and the allowance is met. -/
def State.startEntry (s : State) (p h : Nat) : State :=
  match aget (s.store p).hampers h with
  | none => s
  | some x =>
    match x.entries.findIdx? (fun e => s.unpinned p e) with
    | none => s
    | some i =>
      match x.entries[i]? with
      | none => s
      | some e =>
        let S := s.store p
        let bs := s.entryBricks e
        let fresh := bs.filter (fun b => match S.brick? b with | some B => !(B.pin || (B.placement == 1 && B.res.isSome)) | none => false)
        if !(x.entries.take i).all (fun e => e.state.passes) || s.pinLimit p x.tenant < S.pinned x.tenant + fresh.length then s
        else
          let s := bs.foldl (fun s b => (if (match (s.store p).brick? b with | some B => B.evicting | none => false) then s.stopEvict p b else s).modBrick p b
            (fun B => { B with pin := true })) s
          (s.setEntry p h i (fun e => { e with state := if e.state == .queued then .filling else e.state })).fillEntry p h i

/-- Every entry of a partition that fills goes on. -/
def State.fillAll (s : State) (p : Nat) : State :=
  ((s.store p).hampers.map (fun h => (List.range h.2.entries.length).map (fun i => (h.1, i)))).flatten.foldl (fun s x => s.fillEntry p x.1 x.2) s

/-- An entry ends ABANDONED (R302): pins released, the next entry started, a waiting PROMOTE aborted. -/
def State.abandon (s : State) (p h i : Nat) : State :=
  match (s.store p).entry? h i with
  | none => s
  | some e =>
    let s := s.setEntry p h i (fun e => { e with state := .abandoned })
    let s := s.releasePins p (s.entryBricks e)
    let s := s.modFlash p (fun F => { F with reads := F.reads.map (fun r => if r.hamper == some (h, i) then { r with hamper := none } else r) })
    ((s.promoteEnds p h .aborted).startEntry p h).reapHamper p h

/-- R305: an entry's deadline. -/
def State.deadline (s : State) (p h i : Nat) (e : Entry) : State :=
  let wEnd := if e.holdMs != 0 then e.deadline + e.holdMs * 1000000 else e.deadline + 1000000000
  let w : DirectWin := { hamper := h, entry := i, object := e.object, first := e.first, pages := e.pages, ends := if e.persistent then none else some wEnd, dies := [] }
  let s := s.modStore p (fun S => { S with direct := S.direct ++ [w] })
  if e.persistent then s.setEntry p h i (fun e => { e with state := .late }) else s.abandon p h i

/-- A hold ends: DONE, its pins released (R302). -/
def State.endHold (s : State) (p h i : Nat) : State :=
  match (s.store p).entry? h i with
  | none => s
  | some e =>
    let s := s.setEntry p h i (fun e => { e with state := .done, holdEnd := none })
    ((s.releasePins p (s.entryBricks e)).startEntry p h).reapHamper p h

/-- The lowest free hamper number (R310). -/
def StoreP.freeHamper (S : StoreP) : Option Nat := (List.range 64).find? (fun h => !ahas S.hampers h)

/-- HAMPER_LIMIT of a tenant (R283). -/
def State.hamperLimit (s : State) (p tenant : Nat) : Nat :=
  match aget (s.remote p).tenants tenant with
  | some T => (match s.tclass? p T.cls with | some c => c.hamperLimit | none => 0)
  | none => 0

/-- Whether no hamper is free, or the tenant holds its limit (R310). -/
def State.hamperFull (s : State) (p tenant : Nat) : Bool :=
  (s.store p).freeHamper.isNone || decide (s.hamperLimit p tenant ≤ ((s.store p).hampers.filter (fun h => h.2.tenant == tenant)).length)

/-- A registered object of a tenant on a partition. -/
def State.objectOf (s : State) (p tenant n : Nat) : Option Object :=
  match aget s.storeNv.objects n with
  | some o => if o.part == p && o.tenant == tenant && !o.removed && o.freeing.isNone then some o else none
  | none => none

/-- Whether an object's bricks are FLASH_DIRECT (R276: the brick-map entries are the authority). -/
def State.flashDirect (s : State) (p : Nat) (o : Object) : Bool :=
  match (s.store p).brick? o.first with | some B => B.placement == 2 | none => false

/-- R309, R313: whether the entries of a HAMPER_POST are well formed and name objects of the tenant. -/
def State.entriesOk (s : State) (p tenant : Nat) (noDeadline : Bool) : Nat → List HampEntry → Bool
  | _, [] => true
  | last, e :: rest =>
    let d := e.deadline.toNat
    !e.bad && decide (1 ≤ e.pages.toNat) && (noDeadline || d != 0) && (d == 0 || decide (last ≤ d)) &&
    (match s.objectOf p tenant e.object.toNat with
     | some o => decide (e.first.toNat + e.pages.toNat ≤ o.bricks * 512)
     | none => false) && State.entriesOk s p tenant noDeadline (if d == 0 then last else d) rest

/-- Posts a hamper on its lowest free number (R310) and starts what can start. -/
def State.postHamper (s : State) (p tenant : Nat) (byHost : Bool) (es : List HampEntry) : Nat × State :=
  let h := ((s.store p).freeHamper).getD 0
  let mk (e : HampEntry) : Entry :=
    let direct := match s.objectOf p tenant e.object.toNat with | some o => s.flashDirect p o | none => false
    { object := e.object.toNat, persistent := e.persistent, first := e.first.toNat, pages := e.pages.toNat, deadline := e.deadline.toNat,
      holdMs := e.holdMs.toNat, state := if direct then .skipped else .queued, heldAt := 0, holdEnd := none }
  let now := fab s
  (h, (s.modStore p (fun S => { S with hampers := S.hampers ++ [(h, { tenant := tenant, byHost := byHost, entries := es.map mk, changed := now, direct := 0 })] })).reapHamper p h)

/-- Cancels a hamper (R312): entries QUEUED, FILLING or LATE end ABANDONED without a direct window, every hold ends. The count of the former. -/
def State.cancelHamper (s : State) (p h : Nat) : Nat × State :=
  match aget (s.store p).hampers h with
  | none => (0, s)
  | some x =>
    let live (e : Entry) : Bool := e.state == .queued || e.state == .filling || e.state == .late
    let n := (x.entries.filter live).length
    let now := fab s
    let bs := ((x.entries.filter (·.pins)).map s.entryBricks).flatten
    let s := s.modStore p (fun S =>
      { S with hampers := aupd S.hampers h (fun x => { x with changed := now, entries := x.entries.map (fun e =>
                 if live e then { e with state := .abandoned } else if e.state == .held then { e with state := .done, holdEnd := none } else e) }),
               direct := S.direct.filter (fun w => !(w.hamper == h && w.ends.isNone)),
               flash := { S.flash with reads := S.flash.reads.map (fun r => match r.hamper with | some (k, _) => if k == h then { r with hamper := none } else r | none => r) } })
    (n, ((s.releasePins p bs).promoteEnds p h .aborted).reapHamper p h)

/-- The 14 bytes of an entry count by state (R311). -/
def stateCounts (es : List Entry) : List Byte :=
  ([EntryState.queued, .filling, .held, .late, .abandoned, .done, .skipped].map (fun st => natLE 2 (es.filter (fun e => e.state == st)).length)).flatten

/-- Bytes 12 to 63 of a query's result (R311). -/
def State.hamperResult (s : State) (p h : Nat) : List Byte :=
  match aget (s.store p).hampers h with
  | none => natLE 1 h ++ fill 51 0
  | some x =>
    let at_ := (x.entries.findIdx? (fun e => e.state == .queued || e.state == .filling || e.state == .late)).getD x.entries.length
    let filled := match x.entries[at_]? with | some e => s.entryFilled p e | none => 0
    natLE 1 h ++ natLE 1 1 ++ natLE 2 x.entries.length ++ natLE 2 at_ ++ fill 2 0 ++ natLE 4 filled ++ stateCounts x.entries ++ fill 2 0 ++
      natLE 8 x.direct ++ natLE 8 x.changed ++ fill 8 0

/-- The result of a post or a cancel (R311). -/
def countResult (h n : Nat) : List Byte := natLE 1 h ++ fill 1 0 ++ natLE 2 n ++ fill 48 0

end Sys2Proof.Machine
end

