-- ==== Sys2Proof/Machine/Repair.lean ====
section
/-! DEFINITION. Line and page repair (05): corrective writes and their re-reads, rebuilds, the grout cache, parity recomputes, evacuation and
the patrol. -/
namespace Sys2Proof.Machine
open Sys2Proof

/-- The corrective write that is due for a line, unless a placement has been decided since its read (R201, R202). -/
def execCorrectiveWrite (t : Nat) (part : Nat) (fr : Nat × Nat) (page k : Nat) (s : State) : Host.Outcome State Fault Refusal :=
  run t s (fun s =>
    let mine (c : Corrective) : Bool := c.names fr.1 fr.2 page k && c.written.isNone
    match (s.store part).correctives.find? mine with
    | none => s
    | some c =>
      if c.placedSince then s.modStore part (fun S => { S with correctives := S.correctives.filter (fun c => !mine c) })
      else
        s.modStore part (fun S => { S with
          errs := adel S.errs (fr.1, fr.2, page, k),
          correctives := S.correctives.map (fun c => if mine c then { c with written := some s.now } else c) }))

/-- The re-read of a line that a correction or a rebuild has written back: whether the fault is hard, and whether its row enters the spare-row
map (R187, R203). -/
def execCorrectiveReread (t : Nat) (part : Nat) (fr : Nat × Nat) (page k : Nat) (err : List RawErr) (s : State) : Host.Outcome State Fault Refusal :=
  run t s (fun s =>
    let mine (c : Corrective) : Bool := c.names fr.1 fr.2 page k && c.written.isSome
    match (s.store part).correctives.find? mine, (s.store part).framePlace fr.1 fr.2 page k with
    | some c, some pl =>
      let key := (fr.1, fr.2, page, k)
      let s := s.modStore part (fun S => { S with correctives := S.correctives.filter (fun c => !mine c),
                                                  errs := if err.isEmpty then adel S.errs key else aset S.errs key err })
      let l := (s.frameOutcome part fr.1 fr.2 page k).1
      let s := s.lineRead part fr.1 fr.2 page k pl l
      match l with
      | .corrected pos => if pos == c.pos then s.hardFault pl pos else s
      | .flagged =>
        let s := match (s.store part).brickAt fr.1 fr.2 with
          | some b => if ((s.store part).page b page).filled then s.rebuildDue part b [page] else s
          | none => s
        s.addSpareRow pl 1
      | _ => s
    | _, _ => s)

/-- A page that a FLAGGED line sent to its parity home is rebuilt, reloaded, fetched or lost, and what waited for it goes on (R204-R208). -/
def execPageRebuild (t : Nat) (part brick page : Nat) (s : State) : Host.Outcome State Fault Refusal :=
  run t s (fun s => if (s.store part).rebuilds.contains (brick, page) && s.live part then (s.rebuildPage part brick page).afterRebuild part brick page else s)

/-- Whether the event that a write-back of a grout entry names has come (R196): its way is needed, 8 ms have passed, the course's share is more than
75 % full and the entry its oldest, or a scrub or a reconstruction needs the page's parity. -/
def State.groutEvent (s : State) (p b g : Nat) (gr : Grout) : GroutWhy → Bool
  | .age => due s gr.first (8 * cMs)
  | .way => decide (16 ≤ ((s.store p).groutSet b g).length)
  | .share => (match (s.store p).groutHome b g with
    | some (c, C, _, d) => (s.store p).groutCrowded c C d && oldestGrout ((s.store p).groutHeld c C d) == some (b, g)
    | none => false)
  | .need => (s.store p).scrub.isSome || (s.store p).rebuilds.contains (b, g)
  | .uncorrectable => true

/-- A page's grout entry is written back into its parity lines (R196-R198), by DRAIN never (R200); at the age of 8 ms a delta of the same cycle
is decided first (R198). An entry that has become uncorrectable is lost instead (R199; log 185). -/
def execGroutWriteback (t : Nat) (part brick page : Nat) (why : GroutWhy) (s : State) : Host.Outcome State Fault Refusal :=
  run t s (fun s =>
    match ((s.store part).page brick page).grout with
    | none => s
    | some gr =>
      if why == .uncorrectable then s.modStore part (·.loseEntry brick page)
      else if s.mode part == .drain || !s.groutEvent part brick page gr why || (why == .age && s.sooner (.groutBack part brick page)) then s
      else s.groutBack part brick page gr)

/-- Pages of a course whose parity is to be computed anew, by course page index (R199). -/
def StoreP.notCurrent (S : StoreP) (c : Nat) : List Nat :=
  S.pages.filterMap (fun (e : (Nat × Nat) × Page) => if e.2.filled && e.2.poison == 0 && !e.2.current then
    (match S.resOf e.1.1 with | some (c', f) => if c' == c then some (coursePage f e.1.2) else none | none => none) else none)

/-- The parity of a page whose grout entry was lost is computed anew from its data lines, in increasing g, or the page takes R205's fallback
(R199, R200). -/
def execParityRecompute (t : Nat) (part brick page : Nat) (s : State) : Host.Outcome State Fault Refusal :=
  run t s (fun s =>
    let S := s.store part
    let P := S.page brick page
    match S.groutHome brick page with
    | none => s
    | some (c, _, i, _) =>
      if !P.filled || P.poison != 0 || P.current || P.held || (S.notCurrent c).any (fun j => decide (j < i)) then s
      else if (List.range 64).any (fun k => (s.lineOutcome part brick page k).1 == .flagged) then (s.fallback part brick page).afterRebuild part brick page
      else s.recomputeParity part brick page)

/-- The next frame that is to be evacuated (R209-R211). -/
def execEvacuateFrame (t : Nat) (part course frame : Nat) (s : State) : Host.Outcome State Fault Refusal :=
  run t s (fun s =>
    let S := s.store part
    if S.evacuate.head? != some (course, frame) || !s.live part then s
    else if S.courses.any (fun e => !e.2.metaDue.isEmpty) then s.takeMeta part
    else
      match S.bricks.find? (fun e => e.2.res == some (course, frame)) with
      | some e => s.evacuateBrick part e.1
      | none =>
        (s.modStore part (fun S => { S with
          evacuate := S.evacuate.drop 1,
          courses := aupd S.courses course (fun C => { C with retired := if C.retired.contains frame then C.retired else C.retired ++ [frame] }) })).poolCheck part)

/-- The patrol's next line of a course: its position, past frames that have left the pool (R212). -/
def Course.patrolAt (C : Course) (pos : Nat) : Nat :=
  let n := 512 * (64 + C.p)
  let f := pos / n
  if C.retired.contains f then (firstFree C.retired C.retired.length f) * n % max 1 (C.frames * n) else pos

/-- The patrol reads and decodes the next line of a course, of an occupied, free or metadata frame; `err` is what it finds wrong with it (R212). A
FLAGGED line of a FILLED page sends the page to be rebuilt (R205); of another frame it is only counted, for nothing of it is kept (log 181). -/
def execPatrolRead (t : Nat) (part course : Nat) (err : List RawErr) (s : State) : Host.Outcome State Fault Refusal :=
  run t s (fun s =>
    match aget (s.store part).courses course with
    | none => s
    | some C =>
      if !C.inService || C.frames == 0 || !s.live part then s
      else
        let n := 512 * (64 + C.p)
        let pos := C.patrolAt (agetD (s.store part).patrol course 0)
        let f := pos / n
        let g := pos % n / (64 + C.p)
        let k := pos % n % (64 + C.p)
        if s.drainOnly part (placeOf C f g k).die (placeOf C f g k).ch then s
        else
        let s := s.modStore part (fun S => { S with
          patrol := aset S.patrol course ((pos + 1) % (C.frames * n)),
          errs := if err.isEmpty then S.errs else aset S.errs (course, f, g, k) err })
        let l := (s.frameOutcome part course f g k).1
        let s := s.lineRead part course f g k (placeOf C f g k) l
        match (s.store part).brickAt course f with
        | some b => if ((s.store part).page b g).filled && l == .flagged then s.rebuildDue part b [g] else s
        | none => s)

end Sys2Proof.Machine
end

