-- ==== Sys2Proof/Machine/CmdStore.lean ====
section
/-! DEFINITION. Object, hamper and repair commands (R61, R213-R219, R225, R266, R273, R298, R311-R313, R377, R575). -/
namespace Sys2Proof.Machine
open Sys2Proof

/-! ### Objects (R59, R61, R273-R276, R377) -/

/-- The lowest free object record (R275): one that holds neither a registered nor a removed object. -/
def State.freeObject (s : State) : Option Nat :=
  (List.range (min 1048576 (s.storeNv.objects.length + 1))).find? (fun i => !ahas s.storeNv.objects i)

/-- Bricks of a range that are allocated. -/
def StoreP.allocatedIn (S : StoreP) (first n : Nat) : List Nat := (S.bricks.filter (fun e => decide (first ≤ e.1) && decide (e.1 < first + n))).map (·.1)

/-- A brick as its allocation writes it (R59). -/
def newBrick (tenant placement object : Nat) : Brick :=
  { res := none, pin := false, mirror := false, placement := placement, keyHalf := 0, cursor := 512, tenant := tenant, age := 0, accessed := none, valid := 0, object := object,
    evicting := false, evictFor := none, evacuating := false, anyCourse := false }

/-- REGISTER_OBJECT (R273). -/
def execRegisterObject (t : Nat) (c : CmdRef) (part : Nat) (o : ObjReq) (s : State) : Host.Outcome State Fault Refusal :=
  run t s (fun s =>
    let first := o.first.toNat
    let n := o.bricks.toNat
    let mask := o.courses.toNat
    s.partCmd c 0x401 part (n == 0 || decide (8388608 < n) || o.placement == 3)
      [(!s.inMode part modesOpen, .mode), (!s.inBricks part first n, .badRange), (!((s.store part).allocatedIn first n).isEmpty, .inUse),
       ((aget (s.remote part).tenants o.tenant.toNat).isNone, .badTenant),
       (mask != 0 && !(List.range 16).any (fun k => bit mask k && (s.rec? 2 part k).isSome), .badCourse), (s.freeObject.isNone, .tableFull)]
      (fun s =>
        let id := s.freeObject.getD 0
        let x : Object := { part := part, first := first, bricks := n, placement := o.placement.toNat, tenant := o.tenant.toNat, courses := mask, removed := false, freeing := none }
        let s : State := { s with storeNv := { s.storeNv with objects := aset s.storeNv.objects id x } }
        let s := s.modStore part (fun S => { S with bricks := S.bricks ++ (List.range n).map (fun i => (first + i, newBrick x.tenant x.placement id)) })
        let s := (List.range (n / 512 + 2)).foldl (fun s i => if first / 512 + i ≤ (first + n - 1) / 512 then s.track part 3 (first / 512 + i) else s) s
        s.finishCfg c 0x401 .ok (natLE 4 id)))

/-- A registered object of a partition. -/
def State.object? (s : State) (p n : Nat) : Option Object :=
  (aget s.storeNv.objects n).filter (fun o => o.part == p && !o.removed && o.freeing.isNone)

/-- Frees a brick (R61, R225): its entry, VALID bitmap and flash-map entries zeroed, its frame given back, its pages off the lost-page list. -/
def State.freeBrick (s : State) (p b : Nat) : State :=
  let s := s.dropFrame p b false
  let s := s.modStore p (fun S =>
    { S with bricks := adel S.bricks b, pages := S.pages.filter (fun e => e.1.1 != b),
             flash := { S.flash with fmap := S.flash.fmap.filter (fun e => e.1.1 != b), wbs := S.flash.wbs.filter (fun w => w.brick != b),
                                     reads := S.flash.reads.filter (fun r => r.brick != b) } })
  ({ s with storeNv := s.storeNv.unlist (fun l => l.part == p && l.brick == b) } : State).track p 3 (b / 512)

/-- Whether an entry that has not ended names an object. -/
def StoreP.hamperOn (S : StoreP) (obj : Nat) : Bool := S.hampers.any (fun h => h.2.entries.any (fun e => e.object == obj && !e.state.ended))

/-- UNREGISTER_OBJECT (R61, R273, R377): the bricks are freed; the command completes once a checkpoint that starts after this has its footer. -/
def execUnregisterObject (t : Nat) (c : CmdRef) (part : Nat) (obj : BitVec 20) (s : State) : Host.Outcome State Fault Refusal :=
  run t s (fun s =>
    let n := obj.toNat
    let o? := s.object? part n
    s.partCmd c 0x402 part false
      [(o?.isNone, .notRegistered),
       ((match o? with | some o => (s.openWindows part).any (fun e => !e.2.far && decide (e.2.firstBrick < o.first + o.bricks) && decide (o.first < e.2.firstBrick + e.2.bricks)) | none => false), .windowOpen),
       ((s.store part).hamperOn n, .hamperLive)]
      (fun s =>
        match o? with
        | none => s
        | some o =>
          let ck := (s.store part).ckpt
          let s := ((s.store part).allocatedIn o.first o.bricks).foldl (fun s b => s.freeBrick part b) s
          let s : State := { s with storeNv := { s.storeNv with objects := aupd s.storeNv.objects n (fun x => { x with freeing := some (ck.gen + b2n ck.running) }) } }
          ((s.startRunning c 0x402 (.unregister part n)).retryFrames part).settle part))

/-- A placement written into every brick of an object (R276). -/
def State.setPlacement (s : State) (p obj pl : Nat) : State :=
  let bs := ((s.store p).bricks.filter (fun e => e.2.object == obj && e.2.placement != pl)).map (·.1)
  bs.foldl (fun s b => (s.modBrick p b (fun B => { B with placement := pl })).track p 3 (b / 512)) s

/-- PROMOTE (R298, R299). -/
def execPromote (t : Nat) (c : CmdRef) (part : Nat) (obj : BitVec 20) (first pages : BitVec 32) (hold : BitVec 16) (flags : BitVec 2) (s : State) :
    Host.Outcome State Fault Refusal :=
  run t s (fun s =>
    let n := obj.toNat
    let o? := s.object? part n
    let pin := flags.getLsbD 0
    s.partCmd c 0x403 part false
      [(!s.inMode part modesServing, .mode), (o?.isNone, .notRegistered),
       ((match o? with | some o => pages == 0 || decide (o.bricks * 512 < first.toNat + pages.toNat) | none => false), .badRange),
       ((match o? with | some o => s.hamperFull part o.tenant | none => false), .limit),
       ((match o? with | some o => !pin && s.flashDirect part o | none => false), .skipped)]
      (fun s =>
        match o? with
        | none => s
        | some o =>
          let s := if pin then s.setPlacement part n 1 else s
          let e : HampEntry := { object := obj, persistent := false, first := first, pages := pages, deadline := 0, holdMs := hold, bad := false }
          let r := s.postHamper part o.tenant false [e]
          let filled := match (r.2.store part).entry? r.1 0 with | some e => (r.2.nextFill part e).isNone | none => true
          if flags.getLsbD 1 && !filled then r.2.startRunning c 0x403 (.promote part r.1 pin) else r.2.finishWith c 0x403 .ok 0 [] pin))

/-- Every entry that the runtime has posted for an object ends: a hold is over, what has not been HELD is ABANDONED, without a direct window (R298, R302). -/
def State.endRuntimeEntries (s : State) (p obj : Nat) : State :=
  let hs := (s.store p).hampers.filter (fun h => !h.2.byHost && h.2.entries.any (fun e => e.object == obj && !e.state.ended))
  hs.foldl (fun s h =>
    let mine (e : Entry) : Bool := e.object == obj && !e.state.ended
    let bs := ((h.2.entries.filter (fun e => mine e && e.pins)).map s.entryBricks).flatten
    let idx := (h.2.entries.zipIdx.filter (fun x => mine x.1)).map (·.2)
    let now := fab s
    let s := s.modStore p (fun S =>
      { S with hampers := aupd S.hampers h.1 (fun x => { x with changed := now, entries := x.entries.map (fun e =>
                 if mine e then { e with state := if e.state == .held then .done else .abandoned, holdEnd := none } else e) }),
               direct := S.direct.filter (fun w => !(w.hamper == h.1 && idx.contains w.entry)),
               flash := { S.flash with reads := S.flash.reads.map (fun r => match r.hamper with | some (k, i) => if k == h.1 && idx.contains i then { r with hamper := none } else r | none => r) } })
    (((s.releasePins p bs).promoteEnds p h.1 .aborted).startEntry p h.1).reapHamper p h.1) s

/-- DEMOTE (R298): with EVICT it completes once every brick that no host-posted entry pins has given its frame back. -/
def execDemote (t : Nat) (c : CmdRef) (part : Nat) (obj : BitVec 20) (target : BitVec 2) (evict : Bool) (s : State) : Host.Outcome State Fault Refusal :=
  run t s (fun s =>
    let n := obj.toNat
    s.partCmd c 0x404 part false [(!s.inMode part modesServing, .mode), ((s.object? part n).isNone, .notRegistered), (target == 1, .badTarget)]
      (fun s =>
        let s := s.endRuntimeEntries part n
        let s := if target == 3 then s else s.setPlacement part n target.toNat
        let left := if evict then ((s.store part).bricks.filter (fun e => e.2.object == n && e.2.res.isSome && !e.2.pin)).map (·.1) else []
        if left.isEmpty then s.finishCfg c 0x404 .ok
        else (left.foldl (fun s b => s.startEvict part b none) s).startRunning c 0x404 (.demote part n)))

/-! ### Hampers (R309-R313) -/

def execHamperPost (t : Nat) (c : CmdRef) (part : Nat) (tenant : BitVec 12) (count : BitVec 9) (entries : List HampEntry) (s : State) : Host.Outcome State Fault Refusal :=
  run t s (fun s =>
    let n := count.toNat
    s.partCmd c 0x405 part false
      [(!s.inMode part modesServing, .mode), (s.hamperFull part tenant.toNat, .limit),
       (n == 0 || decide (256 < n) || entries.length != n || !s.entriesOk part tenant.toNat true 0 entries, .bodyError)]
      (fun s => let r := s.postHamper part tenant.toNat false entries; r.2.finish c 0x405 .ok (countResult r.1 n)))

def execHamperCancel (t : Nat) (c : CmdRef) (part : Nat) (hamper : BitVec 8) (s : State) : Host.Outcome State Fault Refusal :=
  run t s (fun s => s.partCmd c 0x406 part false [(!ahas (s.store part).hampers hamper.toNat, .bodyError)]
    (fun s => let r := s.cancelHamper part hamper.toNat; r.2.finish c 0x406 .ok (countResult hamper.toNat r.1)))

/-- HAMPER_QUERY is read-only: it needs no ownership (R729). -/
def execHamperQuery (t : Nat) (c : CmdRef) (part : Nat) (hamper : BitVec 8) (s : State) : Host.Outcome State Fault Refusal :=
  run t s (fun s =>
    match firstFail [(!s.hasPart part, .badPartition), (!ahas (s.store part).hampers hamper.toNat, .bodyError)] with
    | some st => s.finish c 0x407 st
    | none => s.finish c 0x407 .ok (s.hamperResult part hamper.toNat))

/-! ### SCRUB (R213-R215, R266) -/

def Scrub.start0 (kind port addr now : Nat) : Scrub :=
  { kind := kind, port := port, addr := addr, start := now, linesRead := 0, corrected := 0, flagged := 0, checked := 0, pagesCorrected := 0, rebuilt := 0, reloaded := 0,
    fetched := 0, lost := 0, recomputed := 0, hard := 0, rows := 0, marks := 0, byPos := [] }

def State.scrubNote (s : State) (p : Nat) (f : Scrub → Scrub) : State := s.modStore p (fun S => { S with scrub := S.scrub.map f })

/-- What one line's reading adds to the counts. -/
def Scrub.line (x : Scrub) : Light → Scrub
  | .corrected pos => { x with corrected := x.corrected + 1, byPos := abump x.byPos pos }
  | .flagged => { x with flagged := x.flagged + 1 }
  | _ => x

/-- What R205 does for a page, counted; a loss counts itself as it is marked. -/
def State.scrubRepair (s : State) (p b g : Nat) (byLight : Bool) : State :=
  let s := s.scrubNote p (fun x =>
    if s.rebuildable p b g then (if byLight then { x with rebuilt := x.rebuilt + 1 } else { x with pagesCorrected := x.pagesCorrected + 1 })
    else if s.cleanCopy p b g then { x with reloaded := x.reloaded + 1 }
    else if s.canFetch p b then { x with fetched := x.fetched + 1 } else x)
  (s.rebuildPage p b g).afterRebuild p b g

/-- One page of an occupied frame: the light code on its lines; for PARITY and FULL a FILLED page's grout entry written back and every column's
syndrome checked (R191, R213, R214). -/
def State.scrubPage (s : State) (p kind b g : Nat) : State :=
  let S := s.store p
  let P := S.page b g
  let s := (S.errLines b g).foldl (fun s k => (s.touchLine p b g k).scrubNote p (fun x => x.line (s.lineOutcome p b g k).1)) s
  if !P.filled || P.poison != 0 || P.held then s
  else if !(s.flaggedLines p b g).isEmpty then s.scrubRepair p b g true
  else if kind == 0 || !P.current then s
  else
    let s := match P.grout with | some gr => s.groutBack p b g gr | none => s
    let s := s.scrubNote p (fun x => { x with checked := x.checked + 1 })
    if ((s.store p).errLines b g).any (fun k => !(s.lineOutcome p b g k).2.isEmpty) then s.scrubRepair p b g false else s

/-- A line of a frame that no brick holds: only one in which an error stands can read other than clean. -/
def State.scrubFree (s : State) (p : Nat) (e : (Nat × Nat × Nat × Nat) × List RawErr) : State :=
  match (s.store p).framePlace e.1.1 e.1.2.1 e.1.2.2.1 e.1.2.2.2 with
  | none => s
  | some pl =>
    let l := (lightDecode false (fill 64 0) (s.markAt pl) e.2).1
    (s.scrubNote p (fun x => x.line l)).lineRead p e.1.1 e.1.2.1 e.1.2.2.1 e.1.2.2.2 pl l

/-- Errors that reading lines of some courses has found. -/
def StoreP.found (S : StoreP) (cs : List Nat) (l : List LineErr) : StoreP :=
  { S with errs := (l.filter (fun e => cs.contains e.course)).foldl (fun m e => if e.err.isEmpty then m else aset m (e.course, e.frame, e.page, e.k) e.err) S.errs }

/-- Frames of a course that hold neither a brick nor metadata: free and retired ones (R213). -/
def StoreP.idle (S : StoreP) (c : Nat) (C : Course) (f : Nat) : Bool :=
  !(S.occupied c).contains f && (C.retired.contains f || (decide (C.metaFrames ≤ f) && !C.taken.contains f))

/-- A retired rank returns (R266): a full calibration has found working settings, and a FULL scrub has found no FLAGGED line in its frames. -/
def State.returnRank (s : State) (p : Nat) (cs : List Nat) (d ch r : Nat) : State :=
  let S := s.store p
  let clean := S.courses.all (fun e => cs.contains e.1 || !e.2.channels.contains (d, ch)) &&
    !S.errs.any (fun e => match S.framePlace e.1.1 e.1.2.1 e.1.2.2.1 e.1.2.2.2 with
      | some pl => (OutUnit.rank d ch r).covers pl && (lightDecode false (fill 64 0) (s.markAt pl) e.2).1 == .flagged
      | none => false)
  if !clean || !(match aget s.phys (.dram d ch r) with | some x => x.works | none => false) then s
  else
    let s : State := { s with storeNv := { s.storeNv with spare := s.storeNv.spare.filter (fun x =>
      !(x.status == .rankRetired && x.die == d && x.ch == ch && x.rank == r)) } }
    let back := match aget (s.dram d).channels ch with | some c => !c.inService && c.exitAt.isNone | none => false
    let s := s.modDram d (fun D => { D with ranks := aset D.ranks (ch, r) { D.rank ch r with retired := false },
                                            channels := if back then aupd D.channels ch (fun c => { c with inService := true }) else D.channels })
    ((s.modStore p (fun S => { S with out := S.out.filter (fun u => u != .rank d ch r && !(back && u == .channel d ch)) })).rejoin p).retryFrames p

/-- FULL's last part (R213): every free and retired frame of the courses written with zero lines and parity, read back and decoded; `back` is what
the read-back finds. Retired ranks may then return (R266). -/
def State.scrubWrite (s : State) (p : Nat) (courses : List Nat) (back : List LineErr) : State :=
  let S := s.store p
  let idle (c f : Nat) : Bool := courses.contains c && (match aget S.courses c with | some C => S.idle c C f | none => false)
  let s := s.modStore p (fun S =>
    ({ S with errs := S.errs.filter (fun e => !idle e.1.1 e.1.2.1),
              correctives := S.correctives.filter (fun x => !idle x.course x.frame) } : StoreP).found courses (back.filter (fun e => idle e.course e.frame)))
  let n := (S.courses.map (fun e => if courses.contains e.1 then ((List.range e.2.frames).filter (idle e.1)).length * 512 * (64 + e.2.p) else 0)).sum
  let s := ((s.store p).errs.filter (fun e => idle e.1.1 e.1.2.1)).foldl (fun s e => s.scrubFree p e) (s.scrubNote p (fun x => { x with linesRead := x.linesRead + n }))
  let ranks := (s.storeNv.spare.filter (fun x => x.status == .rankRetired && (s.partDies p).contains x.die)).map (fun x => (x.die, x.ch, x.rank))
  ranks.foldl (fun s x => s.returnRank p courses x.1 x.2.1 x.2.2) s

/-- SCRUB (R213-R215). The pass over the scope is made as the command starts; the scrub then stands, and ends with its summary at its completion
(log 65). FULL takes no brick range. -/
def execScrub (t : Nat) (c : CmdRef) (part : Nat) (q : ScrubRun) (s : State) : Host.Outcome State Fault Refusal :=
  run t s (fun s =>
    let kind := q.req.kind.toNat
    let scope := if kind == 2 && q.req.scope == 2 then 0 else q.req.scope.toNat
    let first := q.req.first.toNat
    let n := q.req.bricks.toNat
    let S := s.store part
    s.partCmd c 0x501 part (q.req.kind == 3 || q.req.scope == 3 || q.req.rate == 0 || decide (50 < q.req.rate.toNat) || q.req.addr.toNat % 256 != 0)
      [(!s.inMode part modesOpen || (kind == 2 && s.mode part != .service), .mode), (S.scrub.isSome, .busy),
       ((scope == 1 && (aget S.courses q.req.course.toNat).isNone) || (scope == 2 && (n == 0 || !s.inBricks part first n)), .badScope)]
      (fun s =>
        let cs := (S.courses.filter (fun e => scope != 1 || e.1 == q.req.course.toNat)).map (·.1)
        let mine (e : Nat × Brick) : Bool := if scope == 2 then decide (first ≤ e.1) && decide (e.1 < first + n) else (match e.2.res with | some x => cs.contains x.1 | none => false)
        let bs := ((S.bricks.filter (fun e => e.2.res.isSome && mine e))).map (·.1)
        let read := if scope == 2 then (bs.map (fun b => 512 * (64 + S.pOf b))).sum
          else (S.courses.map (fun e => if cs.contains e.1 then (e.2.frames - e.2.retired.length) * 512 * (64 + e.2.p) else 0)).sum
        let s := s.modStore part (fun S => { S.found cs q.found with scrub := some { Scrub.start0 kind c.port q.req.addr.toNat (fab s) with linesRead := read } })
        let used := S.bricks.filterMap (fun e => e.2.res)
        let free := if scope == 2 then [] else (s.store part).errs.filter (fun e => cs.contains e.1.1 && !used.contains (e.1.1, e.1.2.1) &&
          !(match aget S.courses e.1.1 with | some C => C.retired.contains e.1.2.1 | none => true))
        let s := free.foldl (fun s e => s.scrubFree part e) s
        let s := bs.foldl (fun s b => (List.range 512).foldl (fun s g => s.scrubPage part kind b g) s) s
        (if kind == 2 then s.scrubWrite part cs q.back else s).startRunning c 0x501 (.scrub part)))

/-! ### PPR_APPLY (R216-R218) -/

/-- The first entry that an hPPR tries reads IN_PROGRESS while its sequence runs (R218), unless the DRAM reports no resource for it. -/
def SpareRow.begin_ (mask : Nat) : List SpareRow → List SpareRow
  | [] => []
  | r :: rs => if r.toTry mask true then { r with status := .inProgress } :: rs else r :: SpareRow.begin_ mask rs

/-- PPR_APPLY (R218): `outs` are the repairs' outcomes in the map's order; an entry without one counts as without a resource (log 82). The repairs are under way until
the command's completion. -/
def execPprApply (t : Nat) (c : CmdRef) (part : Nat) (kind : BitVec 1) (mask : BitVec 32) (limit : BitVec 16) (outs : List PprOut) (s : State) : Host.Outcome State Fault Refusal :=
  run t s (fun s =>
    let m := mask.toNat
    let hppr := kind == 1
    let chans := s.field 1 part 0 4 4 0
    s.partCmd c 0x502 part false
      [(!s.inMode part [.service], .mode), ((List.range 32).any (fun i => bit m i && !(bit chans i && (s.partDies part).contains (i / 4))), .badChannel)]
      (fun s =>
        let n := (s.storeNv.spare.filter (fun r => r.toTry m hppr)).length
        let os := (outs ++ List.replicate n PprOut.noResource).take (if limit == 0 then n else min n limit.toNat)
        let s : State := if hppr && os.any (fun _ => true) && os.head? != some .noResource then { s with storeNv := { s.storeNv with spare := SpareRow.begin_ m s.storeNv.spare } } else s
        (s.spareUnits part).startRunning c 0x502 (.ppr part hppr m os)))

/-! ### CLEAR_LOST (R225, R575) -/

/-- The encipherment setting of a brick: that of the open windows that cover it, else what the command names (R575). -/
def State.brickSetting (s : State) (p b : Nat) (named : Bool) : Bool :=
  match (s.openWindows p).find? (fun e => !e.2.far && e.2.covers b) with
  | some e => (s.winProfile p e.2).encipher
  | none => named

def execClearLost (t : Nat) (c : CmdRef) (part : Nat) (brick : BitVec 28) (page : BitVec 9) (encipher : Bool) (s : State) : Host.Outcome State Fault Refusal :=
  run t s (fun s =>
    let b := brick.toNat
    let g := page.toNat
    let enc := s.brickSetting part b encipher
    s.partCmd c 0x503 part false
      [(!s.inMode part modesOpen, .mode), (!s.listed part b g, .notListed), (enc && s.keyErased part ((s.store part).tenantOf b), .notLoaded)]
      (fun s => (s.startRunning c 0x503 (.clearLost part b g enc)).clearLosts part))

end Sys2Proof.Machine
end

