-- ==== Sys2Proof/Machine/CmdSys.lean ====
section
/-! DEFINITION. Commands of the package: ownership, modes, time, firmware, read-out protection, the logbook and the option area (R605, R676, R677, R694, R695, R731,
R733, R739). -/
namespace Sys2Proof.Machine
open Sys2Proof

/-- NOP (R733). -/
def execNop (t : Nat) (c : CmdRef) (s : State) : Host.Outcome State Fault Refusal := run t s (fun s => s.finish c 0x001 .ok)

/-! ### Ownership (R729-R731) -/

def claimOwner (port : Nat) : Owner := if port == 0 then .port0 else .port1

/-- The partitions that a mask names. -/
def maskParts (mask : BitVec 4) : List Nat := (List.range 4).filter (fun p => mask.getLsbD p)

/-- PORT_CLAIM and PORT_RELEASE stand outside the owner test of class P: their own rule says what they need (log 61). -/
def execPortClaim (t : Nat) (c : CmdRef) (mask : BitVec 4) (force : Bool) (s : State) : Host.Outcome State Fault Refusal :=
  run t s (fun s =>
    let ps := maskParts mask
    if 2 ≤ c.port then s
    else
      match firstFail [(ps.any (fun p => !s.hasPart p), .badPartition), (!force && ps.any (fun p => !s.owns c p), .notOwner)] with
      | some st => s.finish c 0x101 st
      | none =>
        let s := ps.foldl (fun s p => s.modPart p (fun P => { P with owner := claimOwner c.port })) s
        let s := if force then s.log .portClaimForced srcSvc (values [c.port, 1 - c.port]) else s
        s.finishCfg c 0x101 .ok)

def execPortRelease (t : Nat) (c : CmdRef) (mask : BitVec 4) (s : State) : Host.Outcome State Fault Refusal :=
  run t s (fun s =>
    let ps := maskParts mask
    if 2 ≤ c.port then s
    else if ps.any (fun p => !s.hasPart p) then s.finish c 0x102 .badPartition
    else
      (ps.foldl (fun s p => s.modPart p (fun P => { P with owner := if P.owner == claimOwner c.port then .both else P.owner })) s).finishCfg c 0x102 .ok)

/-! ### Modes and time -/

/-- MODE_REQUEST (R520-R522): the cell of the matrix for its mode, once its checks pass. -/
def execModeRequest (t : Nat) (c : CmdRef) (part : Nat) (target : BitVec 3) (s : State) : Host.Outcome State Fault Refusal :=
  run t s (fun s =>
    let n := target.toNat
    let early := s.mode part == .build || s.mode part == .restore
    s.partCmd c 0x103 part false [(!(n == 4 || n == 6 || n == 7), .badTarget), (s.pkg != .on || (n == 6 && early), .mode)]
      (fun s => s.requestMode part { target := n, cmd := c }))

/-- TIME_SET (R739): the second of the next PPS edge; it completes on that edge. -/
def execTimeSet (t : Nat) (c : CmdRef) (seconds : BitVec 64) (s : State) : Host.Outcome State Fault Refusal :=
  run t s (fun s => s.pkgCmd c 0x106 false [(s.timeSource != 1, .badSource)] (fun s =>
    ({ s with time := { s.time with nextPps := some (seconds.toNat, c) } } : State).startRunning c 0x106 .timeSet))

/-! ### Firmware and read-out protection -/

/-- FW_LOAD over the control port (R605, R704). -/
def execFwLoad (t : Nat) (c : CmdRef) (len : BitVec 32) (flags : BitVec 1) (fw : Signed) (s : State) : Host.Outcome State Fault Refusal :=
  run t s (fun s => s.pkgCmd c 0x310 false
    [(!s.fwMode, .mode), (s.svc.sideband.fwLoad.isSome, .busy), (!s.fwOk fw || fw.bytes.length != len.toNat, .badFirmware)]
    (fun s => ((s.eraseCopy (leAt fw.bytes 4 1)).commitFw fw.bytes (flags == 1)).finish c 0x310 .ok))

/-- ROP_SET (R615, R676, R677): a raise takes effect at once; a lowering needs every partition in SERVICE. From ROP0 to ROP0 nothing changes (log 62). -/
def execRopSet (t : Nat) (c : CmdRef) (target : BitVec 2) (s : State) : Host.Outcome State Fault Refusal :=
  run t s (fun s =>
    let l := s.ropLevel
    let n := target.toNat
    s.pkgCmd c 0x311 (n == 3) [(l == 2 || (l == 1 && n == 1), .permanent), (decide (n < l) && !s.allService, .mode)] (fun s =>
      if n < l then ((s.addAnchor 7 1).lowerRop).finishCfg c 0x311 .ok
      else if n == l then s.finish c 0x311 .ok
      else ((s.refuseUnlock.closeScopes.addAnchor 1 n).log .ropChange srcSvc (values [l, n])).finish c 0x311 .ok))

/-! ### The logbook and the option area (R694, R695) -/

/-- CRC-16/CCITT: polynomial 0x1021 from 0xFFFF, most significant bit first (log 11). -/
def crc16 (bs : List Byte) : Nat :=
  bs.foldl (fun c b => (List.range 8).foldl (fun c _ => if 32768 ≤ c then (c * 2 % 65536) ^^^ 0x1021 else c * 2) (c ^^^ (b.toNat * 256))) 0xFFFF

/-- The bytes of a record in whole granules (R684). -/
def LogRec.bytes (r : LogRec) : List Byte :=
  let head := natLE 2 r.code.code ++ natLE 1 r.payload.length ++ natLE 1 (b2n r.permanent + 2 * b2n r.summary + 4 * b2n r.uptime + 8 * b2n r.overflow) ++
    natLE 2 r.src.code ++ natLE 2 r.rep ++ natLE 4 r.seq ++ natLE 8 r.time
  let b := head ++ natLE 2 (crc16 (head ++ r.payload)) ++ [0, 0x5A] ++ r.payload
  b ++ fill (granules r.payload.length - b.length) 0xFF

/-- LOG_FREEZE (R694, R695). -/
def execLogFreeze (t : Nat) (c : CmdRef) (freeze : Bool) (s : State) : Host.Outcome State Fault Refusal :=
  run t s (fun s => s.pkgCmd c 0x601 false [] (fun s =>
    ((s.writeOption (fun o => { o with logFrozen := freeze })).log .logFreezeChange srcSvc (values [b2n freeze])).finish c 0x601 .ok))

/-- Records from a sequence number on, in LOG_SEQ order, as many as a limit and a space allow. -/
def takeRecords : Nat → Option Nat → List LogRec → List Byte
  | 0, _, _ => []
  | _ + 1, _, [] => []
  | n + 1, room, r :: rs =>
    let b := r.bytes
    match room with
    | none => b ++ takeRecords n none rs
    | some k => if k < b.length then [] else b ++ takeRecords n (some (k - b.length)) rs

/-- LOG_READ (R695, R703): the records go to the host, or to MBX_DATA as far as 4,096 bytes hold whole ones; RESULT names the oldest and the newest. -/
def execLogRead (t : Nat) (c : CmdTo) (first : BitVec 32) (max : BitVec 16) (s : State) : Host.Outcome State Fault Refusal :=
  run t s (fun s =>
    let l := s.svc.log.recs
    let old := l.foldl (fun m r => if m == 0 then r.seq else min m r.seq) 0
    let new := l.foldl (fun m r => Nat.max m r.seq) 0
    let data := takeRecords max.toNat (if c.cmd.port == 2 then some 4096 else none) (l.filter (fun r => decide (first.toNat ≤ r.seq)))
    let s := if c.cmd.port == 2 then s.modSb (fun b => { b with data := Memory.writeN b.data 0 data, resultLen := data.length }) else s.send (.dma c.cmd.port c.addr.toNat data)
    s.finish c.cmd 0x602 .ok (natLE 4 old ++ natLE 4 new))

/-- OPTION_SET (R695). -/
def execOptionSet (t : Nat) (c : CmdRef) (compat : Bool) (addr : BitVec 7) (s : State) : Host.Outcome State Fault Refusal :=
  run t s (fun s => s.pkgCmd c 0x603 false [] (fun s =>
    (s.writeOption (fun o => { o with logCompat := compat, i3cAddr := addr.toNat })).finish c 0x603 .ok))

/-- SEQ_TABLE_SET (R617, R695): the table is taken at the next power-up; a package held in COLD for want of one may ask for power again. -/
def execSeqTableSet (t : Nat) (c : CmdRef) (tab : List Byte) (s : State) : Host.Outcome State Fault Refusal :=
  run t s (fun s => s.pkgCmd c 0x604 false [(!(s.pkg == .cold || s.allService), .mode), ((parseSeqTable tab).isNone, .badTable)] (fun s =>
    let s := s.writeOption (fun o => { o with seqTable := tab })
    let s := if s.svc.fwStatus == 2 then s.modSvc (fun v => { v with fwStatus := 0, seqTable := parseSeqTable tab }) else s
    s.finish c 0x604 .ok))

end Sys2Proof.Machine
end

