-- ==== Sys2Proof/Machine/CmdTenant.lean ====
section
/-! DEFINITION. The tenant and QP commands (R102-R104, R284, R390, R497, R569, R734-R736). -/
namespace Sys2Proof.Machine
open Sys2Proof

/-- Tenants of a partition authorised under a class, a tenant left out. -/
def State.classCount (s : State) (p cls but : Nat) : Nat := ((s.remote p).tenants.filter (fun e => e.2.cls == cls && e.1 != but)).length

/-- The reserves of a partition with a tenant under a class (R284). -/
def State.reservesWith (s : State) (p tenant : Nat) (c : Option TClass) : Nat :=
  (((s.remote p).tenants.filter (fun e => e.1 != tenant)).map (fun e => match s.tclass? p e.2.cls with | some c => c.reserve | none => 0)).sum +
    (match c with | some c => c.reserve | none => 0)

/-- TENANT_AUTHORISE (R569, R595, R734, R735). -/
def execTenantAuthorise (t : Nat) (c : CmdRef) (part : Nat) (a : TenAuth) (s : State) : Host.Outcome State Fault Refusal :=
  run t s (fun s =>
    let tenant := a.tenant.toNat
    let cls := s.tclass? part a.cls.toNat
    let old := aget (s.remote part).tenants tenant
    let named := a.slot != 0xFFFF
    let k := s.slot a.slot.toNat
    let badField := decide (8 < a.far.length) || a.token.length != 16 || (named && decide (4096 ≤ a.slot.toNat))
    s.partCmd c 0x201 part badField
      [(!s.inMode part modesOpen, .mode), (!s.engine, .entropy), (cls.isNone, .badClass),
       ((match cls with | some x => decide (x.maxTenants ≤ s.classCount part a.cls.toNat tenant) | none => false), .tenantLimit),
       (decide (7 * (s.store part).pool < 8 * s.reservesWith part tenant cls), .reserve),
       (named && (match k.tenant with | some x => x != tenant | none => false), .slotBound),
       (named && (match k.part with | some q => q != part | none => false), .slotPartition),
       ((match old with | some T => T.cls != a.cls.toNat | none => false), .inUse), (old.isNone && (s.freeMeter part).isNone, .tableFull)]
      (fun s =>
        let x : TenSync := { tenant := tenant, cls := a.cls.toNat, slot := a.slot.toNat, token := a.token, hostHampers := a.hostHampers, far := a.far.map (·.toNat) }
        s.shareChange part c 0x201 [] [x] [] (fun s => s.takeTenant part x)))

/-- TENANT_WITHDRAW (R497, R734): the authorisation goes, the slot's binding stays (R569), the meter index is held for 24 hours more. -/
def execTenantWithdraw (t : Nat) (c : CmdRef) (part : Nat) (tenant : BitVec 12) (s : State) : Host.Outcome State Fault Refusal :=
  run t s (fun s =>
    let n := tenant.toNat
    s.partCmd c 0x202 part false
      [(!s.inMode part modesOpen, .mode), ((aget (s.remote part).tenants n).isNone, .notAuthorised), ((s.openWindows part).any (fun e => e.2.tenant == n), .windowOpen),
       (decide (0 < s.tenantQps part n), .inUse), ((s.store part).hampers.any (fun h => h.2.tenant == n), .hamperLive)]
      (fun s =>
        let idx := aget (s.meterSt part).index n
        let gone := fab s + 24 * nsHour
        let s := (s.modRemote part (fun r => { r with tenants := adel r.tenants n })).zeroKey (authName part n) none
        let s := match idx with | some i => s.modMeter part (fun m => { m with freeAt := aset m.freeAt i gone }) | none => s
        s.finishCfg c 0x202 .ok))

/-- CREATE_QP (R102, R104, R734, R736). -/
def execCreateQp (t : Nat) (c : CmdRef) (part : Nat) (q : NewQp) (s : State) : Host.Outcome State Fault Refusal :=
  run t s (fun s =>
    let port := q.port.toNat
    let d := port / 2
    let tenant := q.tenant.toNat
    let limit := match s.tenantClass part tenant with | some x => x.qpLimit | none => 0
    let badField := q.respRes == 0 || decide (64 < q.respRes.toNat) || q.pmtu == 0 || decide (5 < q.pmtu.toNat)
    s.partCmd c 0x203 part badField
      [(!s.inMode part modesServing, .mode), (!s.partHasPort part port || decide (s.breakouts part port ≤ q.brk.toNat), .badPort),
       ((aget (s.remote part).tenants tenant).isNone, .notAuthorised),
       ((s.freeSlot part d false).isNone || decide (limit ≤ s.tenantQps part tenant), .qpLimit)]
      (fun s =>
        match s.freeSlot part d false with
        | none => s
        | some slot =>
          let x := newQp s part d slot .ready false 0 q.pmtu tenant q.dest q.epsn q.ip q.mac q.vlan q.dscp q.respRes.toNat (port % 2) q.brk.toNat
          (s.putQp x).finish c 0x203 .ok (natLE 4 x.qpn.toNat)))

/-- DESTROY_QP (R104, R734): a CONNECTING or READY QP closes with a DREQ; the command completes when the QP reaches TIMEWAIT or FREE. -/
def execDestroyQp (t : Nat) (c : CmdRef) (part : Nat) (qpn : BitVec 24) (s : State) : Host.Outcome State Fault Refusal :=
  run t s (fun s =>
    let x? := if (s.partDies part).contains (qpnDie qpn) then s.qp? qpn else none
    s.partCmd c 0x204 part false [(x?.isNone, .noQp)] (fun s =>
      match x? with
      | none => s
      | some x =>
        if x.state == .timewait then s.finish c 0x204 .ok
        else
          let s := s.startRunning c 0x204 (.destroyQp part qpn.toNat)
          if x.state == .connecting || x.state == .ready then
            (s.sendCm qpn .dreq).modQp qpn (fun y => { y with state := .closing, closingAt := some s.now, drepPending := false })
          else s))

end Sys2Proof.Machine
end

