-- ==== Sys2Proof/Machine/Control.lean ====
section
/-! DEFINITION. The control ports' events (18, 19): resets and links, register writes, rings and doorbells, the start and the completion of commands. -/
namespace Sys2Proof.Machine
open Sys2Proof

/-! ### The endpoint (R711-R714, R730, R743, R782) -/

/-- A received EAPOL frame (R743): the next of its port's 256 receive slots takes it, and every event ring announces it. -/
def execEapolRx (t : Nat) (port brk : Nat) (frame : List Byte) (s : State) : Host.Outcome State Fault Refusal :=
  run t s (fun s =>
    if s.pkg != .on || 2 * s.dieCount ≤ port || 2032 < frame.length then s
    else
      let x := agetD s.eapol port (0, [])
      let slots := x.2.filter (fun e => e.slot != x.1) ++ [{ slot := x.1, frame := frame }]
      let s : State := { s with eapol := aset s.eapol port ((x.1 + 1) % 256, slots) }
      s.event 1 (natLE 1 port ++ natLE 1 brk ++ natLE 2 frame.length ++ natLE 2 x.1))

def execFunctionLevelReset (t : Nat) (port : Nat) (s : State) : Host.Outcome State Fault Refusal :=
  run t s (fun s => if s.portExists port then s.functionReset port else s)

def execD3hotEntry (t : Nat) (port : Nat) (s : State) : Host.Outcome State Fault Refusal :=
  run t s (fun s => if s.portExists port then (s.functionReset port).modPort port (fun p => { p with d3hot := true }) else s)

/-- PERST_N changes level: its deassertion starts the 100 ms of R712, its assertion takes the link down (R730). -/
def execPerstN (t : Nat) (port : Nat) (level : Bool) (s : State) : Host.Outcome State Fault Refusal :=
  run t s (fun s =>
    if level then s.modPort port (fun p => if p.perst then { p with perst := false, perstHighAt := s.now } else p)
    else (if s.portExists port then s.portLinkDown port else s).modPort port (fun p => { p with perst := true }))

/-- A port's PCIe link goes down (R730, R782). -/
def execPcieLinkDown (t : Nat) (port : Nat) (why : LinkWhy) (s : State) : Host.Outcome State Fault Refusal :=
  run t s (fun s =>
    let s := match why with
      | .refclk => s.modPins (fun p => { p with pcieRefclk := p.pcieRefclk.set port false })
      | .link => s
    if s.portExists port then s.portLinkDown port else s)

/-- Runs the failure of a running command whose host memory access has failed (R714, R728). -/
def State.dmaFail (s : State) (i : Nat) (tag : BitVec 32) : State :=
  match s.port? i with
  | none => s
  | some p =>
    match p.entry? tag with
    | none => s
    | some e =>
      if p.ended.any (fun x => x.tag == tag) then s
      else
        let s : State := { s with running := s.running.filter (fun r => !(r.cmd.port == i && r.cmd.tag == tag)) }
        s.finish { port := i, tag := tag, irq := bit (leAt e.desc 2 1) 0 } e.opcode .dmaFail

/-- A request of the device fails or is not answered (R714): the command fails, or the ring stops with cause DMA. -/
def execDmaFail (t : Nat) (port : Nat) (what : DmaWhat) (tag : BitVec 32) (s : State) : Host.Outcome State Fault Refusal :=
  run t s (fun s =>
    if !s.portExists port then s
    else
      match what with
      | .descriptor => s.stopRing port .cmd .dma
      | .command => s.dmaFail port tag
      | .completion => s.stopRing port .cpl .dma
      | .event => s.stopRing port .evt .dma)

/-- The owner that a port's number names. -/
def portOwner (i : Nat) : Owner := if i == 0 then .port0 else .port1

/-- A port's link or its Bus Master Enable has been down for 1 s (R730). -/
def execOwnerLost (t : Nat) (port : Nat) (s : State) : Host.Outcome State Fault Refusal :=
  run t s (fun s =>
    match s.port? port with
    | none => s
    | some p =>
      let since (c : Option Nat) : Bool := match c with | some c => due s c cS | none => false
      let mine := s.partIds.filter (fun i => match s.part? i with | some P => P.owner == portOwner port | none => false)
      if !(since p.linkDownSince || (!p.busMaster && since p.busMasterClearSince)) || mine.isEmpty then s
      else
        let s := mine.foldl (fun s i => s.modPart i (fun P => { P with owner := .both })) s
        (s.log .ownerReleased srcSvc (values [port, mine.foldl (fun m i => m + 2 ^ i) 0])).int .ownerLost)

/-- The grout cache of a die is lost: pages whose parity it held back are no longer current (R199). -/
def StoreP.loseGrout (S : StoreP) (die : Nat) : StoreP :=
  (S.pages.filter (fun e => e.2.grout.isSome)).foldl (fun S' e => match S.groutHome e.1.1 e.1.2 with
    | some (_, _, _, d) => if d == die then S'.loseEntry e.1.1 e.1.2 else S'
    | none => S') S

/-- A warm reset of a controller die (R18, R199, R714, R769). -/
def execWarmReset (t : Nat) (die : Nat) (s : State) : Host.Outcome State Fault Refusal :=
  run t s (fun s =>
    if s.pkg == .cold || (s.die? die).isNone then s
    else
      let s := s.modDie die (fun D => { D with
        replays := [], fabricCounters := [], dram := { D.dram with corrected := 0, flagged := 0, lostMerge := 0 },
        remote := { D.remote with causes := [], wrongPort := 0, errReg := 0, immDiscarded := 0, badStatus := 0 } })
      let s := match s.partOfDie die with
        | some p => s.modStore p (fun S => S.loseGrout die)
        | none => s
      if s.portExists die then (s.functionReset die).portLinkDown die else s)

/-! ### Register writes (R15-R17, R713, R752-R764) -/

/-- A write reported through AER as an Unsupported Request. -/
def State.unsupported (s : State) (i : Nat) : State := s.modPort i (fun p => { p with unsupported := p.unsupported + 1 })

def execBar2Write (t : Nat) (port off : Nat) (s : State) : Host.Outcome State Fault Refusal :=
  run t s (fun s => s.access port (fun s => if off < 2 ^ 36 then s.unsupported port else s))

/-- The half of a 64-bit base register that a 32-bit write names. -/
def setBase (old v : Nat) (high : Bool) : Nat := if high then v * 2 ^ 32 + old % 2 ^ 32 else old / 2 ^ 32 * 2 ^ 32 + v / 4096 * 4096

/-- A write of 32 bits to a ring's BASE or SIZE (R715, R762). -/
def RingSt.writeWord (r : RingSt) (o v : Nat) : RingSt :=
  if r.enable then r
  else if o == 0 then { r with base := setBase r.base v false }
  else if o == 4 then { r with base := setBase r.base v true }
  else if o == 8 then { r with log2 := v % 16 }
  else r

/-- A write of 32 bits to the MSI-X table: bit 0 of a vector's control word masks it (R770). -/
def State.writeMsix (s : State) (i o v : Nat) : State :=
  let s := s.modPort i (fun p => { p with msixTable := aset p.msixTable o v })
  let vec := o / 16
  if o % 16 != 12 then s
  else if bit v 0 then s.modPort i (fun p => { p with unmasked := p.unmasked.filter (· != vec) })
  else
    match s.port? i with
    | none => s
    | some p =>
      let pending := p.pendingBits.contains vec
      let s := s.modPort i (fun p => { p with unmasked := if p.unmasked.contains vec then p.unmasked else p.unmasked ++ [vec], pendingBits := p.pendingBits.filter (· != vec) })
      if pending && p.msixEnable then s.send (.vector i vec) else s

/-- A write to CFG_LOCK: the key opens the port's lock, any other value closes it (R756). -/
def State.writeLock (s : State) (i : Nat) (unlock : Bool) : State := s.modPort i (fun p => { p with lockOpen := unlock })

/-- What a command does to a port's lock, if it writes CFG_LOCK. -/
def Instr.lockWrite? (i : Nat) : Instr → Option Bool
  | .cfgLockOpen _ port => if port == i then some true else none
  | .cfgLockClose _ port => if port == i then some false else none
  | _ => none

/-- Whether a port's lock is open for a write decided now: a write to CFG_LOCK on the same cycle comes first (R757). -/
def State.lockNow (s : State) (i : Nat) (p : CtlPort) : Bool :=
  ((s.pending.takeWhile (fun c => decide (c.cycle ≤ s.now))).findSome? (Instr.lockWrite? i)).getD p.lockOpen

/-- A write to TMUX_SELECT (R16, R758): taken while the port's lock is open, else a violation. -/
def State.writeTmux (s : State) (i v : Nat) : State :=
  match s.port? i with
  | none => s
  | some p =>
    if s.lockNow i p then s.selectTmux (i + 1) v
    else if p.violations < 65535 then (s.modPort i (fun p => { p with violations := p.violations + 1 })).intPort i .lockViolation
    else s

/-- A write to INT_STATUS: a 1 clears a bit, unless its event falls on the same cycle (R15, R18). -/
def CtlPort.clearStatus (p : CtlPort) (now : Nat) (mask : BitVec 17) : CtlPort :=
  let kept := (p.intAt.filter (fun e => e.2 == now)).foldl (fun (m : BitVec 17) e => m ||| BitVec.ofNat 17 (2 ^ e.1)) 0
  { p with intStatus := p.intStatus &&& ~~~(mask &&& ~~~kept) }

/-- A write to INT_ENABLE (R761): bits newly enabled whose status is set are signalled. -/
def State.writeEnable (s : State) (i : Nat) (v : BitVec 17) : State :=
  match s.port? i with
  | none => s
  | some p => (s.modPort i (fun p => { p with intEnable := v })).signal i (v &&& ~~~p.intEnable &&& p.intStatus).toNat

/-- ENABLE set (R715, R763): indices 0 and phase 1, or BAD_SIZE. On a ring that is enabled nothing changes. -/
def State.enableRing (s : State) (i : Nat) (ring : RingId) : State :=
  match s.port? i with
  | none => s
  | some p =>
    let r := p.ring ring
    if r.enable then s
    else if 6 ≤ r.log2 && r.log2 ≤ 12 then
      let s := s.modRing i ring (fun r => { r with enable := true, stopped := false, cause := .none, tail := 0, head := 0, phase := true })
      if ring == RingId.cmd then s.modPort i (fun p => { p with posted := [] }) else s
    else s.stopRing i ring .badSize

/-- ENABLE cleared (R724): the ring stops with cause DISABLED; a cause that it has stopped with stays. -/
def State.disableRing (s : State) (i : Nat) (ring : RingId) : State :=
  match s.port? i with
  | none => s
  | some p =>
    let r := p.ring ring
    let s := if !r.enable then s else if r.stopped then s.modRing i ring (fun r => { r with enable := false }) else s.stopRing i ring .disabled
    if ring == RingId.cmd then s.modPort i (fun p => { p with posted := [] }) else s

/-- A write to CMD_TAIL (R716, R717, R763), whose reserved bits count as 0 (R17); `descs` is what the slots from the old tail on hold. -/
def State.writeCmdTail (s : State) (i v : Nat) (descs : List (List Byte)) : State :=
  match s.port? i with
  | none => s
  | some p =>
    let r := p.cmd
    let tail := v % 4096
    if !r.enable then s
    else if r.size ≤ tail then s.stopRing i .cmd .badDoorbell
    else if r.stopped then s
    else
      let n := (tail + r.size - r.tail) % r.size
      (s.modPort i (fun p => { p with cmd := { p.cmd with tail := tail }, posted := p.posted ++ (descs.take n).map (fun d => d.take 64 ++ fill (64 - d.length) 0) })).pumpFetch i

/-- A write to CPL_HEAD returns slots: completions that wait are written, and fetching goes on (R17, R717, R722). -/
def State.writeCplHead (s : State) (i v : Nat) : State :=
  match s.port? i with
  | none => s
  | some p =>
    let head := v % 4096
    if !p.cpl.enable then s
    else if p.cpl.size ≤ head then s.stopRing i .cpl .badDoorbell
    else ((s.modRing i .cpl (fun r => { r with head := head })).drainCpl 64 i).pumpFetch i

/-- A write to EVT_HEAD returns slots, and a count of dropped events is written first (R17, R717, R742, R764). -/
def State.writeEvtHead (s : State) (i v : Nat) : State :=
  match s.port? i with
  | none => s
  | some p =>
    let head := v % 4096
    if !p.evt.enable then s
    else if p.evt.size ≤ head then s.stopRing i .evt .badDoorbell
    else (s.modRing i .evt (fun r => { r with head := head })).writeLost i

/-- A write of 32 bits to a ring's block: BASE, SIZE, CTRL, and the index that the host writes (R762). -/
def State.writeRing (s : State) (i : Nat) (ring : RingId) (o v : Nat) (descs : List (List Byte)) : State :=
  if o == 0x0C then (if bit v 0 then s.enableRing i ring else s.disableRing i ring)
  else
    match ring with
    | .cmd => if o == 0x14 then s.writeCmdTail i v descs else s.modRing i .cmd (fun r => r.writeWord o v)
    | .cpl => if o == 0x18 then s.writeCplHead i v else s.modRing i .cpl (fun r => r.writeWord o v)
    | .evt => if o == 0x18 then s.writeEvtHead i v else s.modRing i .evt (fun r => r.writeWord o v)

/-- A write of 32 bits to any register of BAR0: each field takes it as its access type says, everything else ignores it (R15, R17, R752, R756, R759, R762). -/
def State.writeWord (s : State) (i off v : Nat) (descs : List (List Byte)) : State :=
  if off == 0x1000 then s.writeLock i (v == 0x52454731)
  else if off == 0x1008 then s.modPort i (fun p => { p with apertureSel := BitVec.ofNat 32 v &&& 0xFFFF00F3 })
  else if off == 0x100C then s.writeTmux i v
  else if off == 0x2000 then s.modPort i (fun p => p.clearStatus s.now (BitVec.ofNat 17 v))
  else if off == 0x2004 then s.writeEnable i (BitVec.ofNat 17 v)
  else if 0x2010 ≤ off && off < 0x2024 then
    let k := (off - 0x2010) / 4
    s.modPort i (fun p => { p with intVmap := p.intVmap.set k (if k == 4 then BitVec.ofNat 32 v &&& 0xFF else BitVec.ofNat 32 v) })
  else if 0x3000 ≤ off && off < 0x3040 then s.writeRing i .cmd (off - 0x3000) v descs
  else if off == 0x3060 then s.modPort i (fun p => { p with cplIntCount := v % 256 })
  else if off == 0x3064 then s.modPort i (fun p => { p with cplIntTime := v % 65536 })
  else if 0x3040 ≤ off && off < 0x3080 then s.writeRing i .cpl (off - 0x3040) v descs
  else if 0x3080 ≤ off && off < 0x30C0 then s.writeRing i .evt (off - 0x3080) v descs
  else if 0xF0000 ≤ off && off < 0xF1000 then s.writeMsix i (off - 0xF0000) v
  else s

/-- A write to BAR0 (R753): naturally aligned and of 4 or 8 bytes, or discarded and reported. The low word of 8 bytes is written first. -/
def execRegisterWrite (t : Nat) (port off size : Nat) (v : RegValue) (s : State) : Host.Outcome State Fault Refusal :=
  run t s (fun s => s.access port (fun s =>
    if size == 4 && off % 4 == 0 then s.writeWord port off (v.value.toNat % 2 ^ 32) v.descs
    else if size == 8 && off % 8 == 0 then (s.writeWord port off (v.value.toNat % 2 ^ 32) v.descs).writeWord port (off + 4) (v.value.toNat / 2 ^ 32) v.descs
    else s.unsupported port))

def execCfgLockOpen (t : Nat) (port : Nat) (s : State) : Host.Outcome State Fault Refusal :=
  run t s (fun s => s.access port (fun s => s.writeLock port true))

def execCfgLockClose (t : Nat) (port : Nat) (s : State) : Host.Outcome State Fault Refusal :=
  run t s (fun s => s.access port (fun s => s.writeLock port false))

def execIntStatusClear (t : Nat) (port : Nat) (mask : BitVec 32) (s : State) : Host.Outcome State Fault Refusal :=
  run t s (fun s => s.access port (fun s => s.modPort port (fun p => p.clearStatus s.now (mask.setWidth 17))))

def execIntEnableWrite (t : Nat) (port : Nat) (value : BitVec 32) (s : State) : Host.Outcome State Fault Refusal :=
  run t s (fun s => s.access port (fun s => s.writeEnable port (value.setWidth 17)))

def execTmuxSelectWrite (t : Nat) (port : Nat) (value : BitVec 32) (s : State) : Host.Outcome State Fault Refusal :=
  run t s (fun s => s.access port (fun s => s.writeTmux port value.toNat))

/-- A vector is unmasked (R770): a pending message is sent and its bit cleared. -/
def execMsixUnmask (t : Nat) (port vec : Nat) (s : State) : Host.Outcome State Fault Refusal :=
  run t s (fun s => s.access port (fun s => if vec < 256 then s.writeMsix port (16 * vec + 12) 0 else s))

/-! ### Rings (R715-R717, R722-R724, R762-R764) -/

def execRingEnable (t : Nat) (port : Nat) (ring : RingId) (s : State) : Host.Outcome State Fault Refusal :=
  run t s (fun s => s.access port (fun s => s.enableRing port ring))

def execRingDisable (t : Nat) (port : Nat) (ring : RingId) (s : State) : Host.Outcome State Fault Refusal :=
  run t s (fun s => s.access port (fun s => s.disableRing port ring))

def execCmdTailDoorbell (t : Nat) (port tail : Nat) (descs : List (List Byte)) (s : State) : Host.Outcome State Fault Refusal :=
  run t s (fun s => s.access port (fun s => s.writeCmdTail port tail descs))

def execCplHeadWrite (t : Nat) (port head : Nat) (s : State) : Host.Outcome State Fault Refusal :=
  run t s (fun s => s.access port (fun s => s.writeCplHead port head))

def execEvtHeadWrite (t : Nat) (port head : Nat) (s : State) : Host.Outcome State Fault Refusal :=
  run t s (fun s => s.access port (fun s => s.writeEvtHead port head))

/-- CPL_INT_TIME has passed since the oldest unsignalled completion (R723). -/
def execCompletionIntTimer (t : Nat) (port : Nat) (s : State) : Host.Outcome State Fault Refusal :=
  run t s (fun s =>
    match s.port? port with
    | none => s
    | some p =>
      match p.oldestUnsignalled with
      | some c => if p.cplIntTime != 0 && due s c (p.cplIntTime * cUs) then s.raiseCpl port else s
      | none => s)

/-! ### Commands (R720, R721, R726) -/

/-- The oldest command of a port whose class and order let it start (R726) starts, or fails with what R720 finds in its descriptor. -/
def execCommandStart (t : Nat) (port : Nat) (s : State) : Host.Outcome State Fault Refusal :=
  run t s (fun s =>
    match s.port? port with
    | none => s
    | some p =>
      match p.journal.find? (fun e => e.status == .running && e.started.isNone && s.mayStart { port := port, entry := e }) with
      | none => s
      | some e =>
        let s := s.modPort port (fun p => p.modEntry e.jseq (fun x => { x with started := some s.now }))
        match descFault e.desc with
        | some st => s.finish { port := port, tag := e.tag, irq := bit (leAt e.desc 2 1) 0 } e.opcode st
        | none => s)

/-- Whether a command clears ENABLE of a port's completion ring. -/
def Instr.stopsCpl (i : Nat) : Instr → Bool
  | .ringDisable _ port ring => port == i && ring == .cpl
  | _ => false

/-- Whether the completion ring's ENABLE is cleared on the cycle of a completion: then the clearing comes first (R724). -/
def State.cplStops (s : State) (i : Nat) : Bool := (s.pending.takeWhile (fun c => decide (c.cycle ≤ s.now))).any (Instr.stopsCpl i)

/-- An ended command of a control port: the journal first, then the completion ring, or JOURNAL_DONE (R721, R722, R724, R748, R749). -/
def State.complete (s : State) (i : Nat) (p : CtlPort) (e : Ended) : State :=
  let s : State := if e.cfg && (e.status == .ok || e.status == .forced) then { s with configGen := s.configGen + 1 } else s
  let js := match p.entry? e.tag with | some j => j.jseq | none => 0
  let s := s.modPort i (fun p =>
    { p.modEntry js (fun j => { j with status := e.status, detail := e.detail, result := e.result, completed := some (fab s) }) with
      ended := p.ended.erase e })
  let s := if !p.cpl.active || s.cplStops i then s.journalDone e js
    else if p.cpl.full || !p.unwritten.isEmpty then s.modPort i (fun p => { p with unwritten := p.unwritten ++ [e] })
    else s.writeCpl i e
  s.pumpFetch i

/-- A mailbox command ends (R703): MBX_RESULT and STATUS written, BUSY cleared, DONE set, the IBI raised. -/
def State.completeMbx (s : State) (e : Ended) : State :=
  let s : State := if e.cfg && (e.status == .ok || e.status == .forced) then { s with configGen := s.configGen + 1 } else s
  (s.modSb (fun b => { b with ended := b.ended.erase e, busy := false, doneBit := true, status := e.status.code,
                              result := e.result.take 52 ++ fill (52 - e.result.length) 0 })).ibi 2

/-- A SCRUB or a PPR_APPLY under a port's tag has done its work (R213, R218), or a revocation has nothing left to wait for (R129). -/
def State.endWork (s : State) (port : Nat) (tag : BitVec 32) : State :=
  match s.running.find? (fun r => r.cmd.port == port && r.cmd.tag == tag) with
  | some r => (match r.op with
    | .scrub p => s.endScrub p .ok
    | .ppr p hppr m os => s.endPpr p hppr m os
    | .revoke p _ => s.finishRevokes p
    | _ => s)
  | none => s

/-- Whether a command's completion waits for a tracked page to be written (R373). -/
def State.heldEnd (s : State) (port : Nat) (tag : BitVec 32) : Bool :=
  s.heldEnds.any (fun h => h.1.port == port && h.1.tag == tag && decide (s.trackedAllowance h.2 < (s.store h.2).trackedDirty.length))

/-- A command that has ended is completed (R721, R703), once the tracked pages that it charged have room (R373). -/
def execCommandCompletion (t : Nat) (port : Nat) (tag : BitVec 32) (s : State) : Host.Outcome State Fault Refusal :=
  run t s (fun s =>
    let s := s.endWork port tag
    if s.heldEnd port tag then s
    else
    let s : State := { s with heldEnds := s.heldEnds.filter (fun h => !(h.1.port == port && h.1.tag == tag)) }
    if port == 2 then
      match s.svc.sideband.ended with
      | e :: _ => s.completeMbx e
      | [] => s
    else
      match s.port? port with
      | none => s
      | some p =>
        match p.ended.find? (fun e => e.tag == tag) with
        | some e => s.complete port p e
        | none => s)

end Sys2Proof.Machine
end

