-- ==== Sys2Proof/Machine/FabricPath.lean ====
section
/-! DEFINITION. Paths of the Penquavin fabric: acknowledgement, retransmission, reassembly and congestion control (R439-R460). -/
namespace Sys2Proof.Machine
open Sys2Proof

/-- MIRROR, FAR and PEER packets are reliable (R443). -/
def reliableClass (c : Nat) : Bool := c == 3 || c == 5 || c == 6

/-- Sends what every path of a peer has room for (R460). -/
def State.pumpAll (s : State) (p d : Nat) : State := (s.peer p d).paths.foldl (fun s e => State.pump (e.2.queue.length + 1) s p d e.1) s

/-! ### Acknowledging (R449, R450) -/

/-- A number put into a rising list. -/
def insertNat (n : Nat) : List Nat → List Nat
  | [] => [n]
  | m :: rest => if n ≤ m then n :: m :: rest else m :: insertNat n rest

/-- Ranges of consecutive numbers in a list, rising. -/
def ranges (l : List Nat) : List (Nat × Nat) :=
  (l.foldl (fun acc n => insertNat n acc) []).foldl (fun acc n =>
    match acc.getLast? with
    | some (a, b) => if n == b + 1 then acc.dropLast ++ [(a, n)] else if n ≤ b then acc else acc ++ [(n, n)]
    | none => [(n, n)]) []

/-- The ACK of a path of a peer (R449): its payload, and the counts behind it started again. -/
def State.sendAckOn (s : State) (p d l : Nat) : State :=
  match aget (s.peer p d).rx l with
  | none => s
  | some x =>
    let rs := (ranges x.above).take 8
    let body := natBE 2 l ++ natBE 1 rs.length ++ natBE 1 (min 255 x.ceSinceAck) ++ natBE 4 x.cum ++ natBE 8 x.echo ++
      (rs.map (fun r => natBE 4 r.1 ++ natBE 4 r.2)).flatten
    let s := s.modPeer p d (fun e => { e with rx := aupd e.rx l (fun x => { x with unacked := 0, oldestUnacked := none, ceSinceAck := 0 }) })
    if (s.fabric p).conflict then s else s.fabricOut p d l 2 0 (pqHeader s p 2 0 false false d l 0 0 0 body.length body.length ++ body)

/-- A path's receive record after a packet: CUM, what stands above it, the highest PSEQ's TX_TIME, CE marks (R449). -/
def Path.takeIn (x : Path) (now pseq txTime : Nat) (ce : Bool) : Path :=
  let above := if pseq ≤ x.cum || x.above.contains pseq then x.above else x.above ++ [pseq]
  let run := (List.range above.length).foldl (fun c _ => if above.contains (c + 1) then c + 1 else c) x.cum
  { x with cum := run, above := above.filter (fun n => decide (run < n)), unacked := x.unacked + 1,
           oldestUnacked := match x.oldestUnacked with | some o => some o | none => some now,
           echo := if x.highPseq ≤ pseq then txTime else x.echo, highPseq := max x.highPseq pseq,
           ceSinceAck := x.ceSinceAck + b2n ce, ce := x.ce + b2n ce }

/-- A reliable packet noted on its path, and acknowledged after eight or at once when out of order (R449). -/
def State.noteIn (s : State) (p : Nat) (h : PqHdr) (ce : Bool) : State :=
  let x := agetD (s.peer p h.src).rx h.path Path.reset
  let y := x.takeIn s.now h.pseq h.txTime ce
  let s := s.modPeer p h.src (fun e => { e with rx := aset e.rx h.path y })
  if 8 ≤ y.unacked || h.pseq != x.cum + 1 then s.sendAckOn p h.src h.path else s

/-! ### Reassembly (R453-R457) -/

/-- The die at which a message is reassembled (R453). -/
def State.reasmHome (s : State) (p msg : Nat) : Nat := let ds := s.partDies p; ds.getD (msg % max 1 ds.length) 0

/-- Reassembly granules of 4 KiB in use on a die, and those its pantry has (R453, R545). -/
def State.reasmUsed (s : State) (p d : Nat) : Nat := (((s.fabric p).slots.filter (fun e => e.2.home == d)).map (fun e => ceilDiv e.2.total 4096)).sum
def State.reasmGranules (s : State) (d : Nat) : Nat := 16 * s.field 3 0xFF d 10 2 0

/-- Whether a message of a peer's class is closed: delivered, or timed out (R455). The numbers below the lowest that is not closed are all closed; those
that timed out stay on record. -/
def Peer.closedHow (e : Peer) (cls msg : Nat) : Option Bool :=
  let c := agetD e.closed cls (1, [])
  match aget c.2 msg with
  | some b => some b
  | none => if msg < c.1 then some true else none

/-- A message closed (R455). -/
def Peer.close (e : Peer) (cls msg : Nat) (delivered : Bool) : Peer :=
  let c := agetD e.closed cls (1, [])
  let l := c.2 ++ [(msg, delivered)]
  let low := (List.range l.length).foldl (fun n _ => if ahas l n then n + 1 else n) c.1
  { e with closed := aset e.closed cls (low, l.filter (fun x => decide (low ≤ x.1) || !x.2)) }

/-- RESEND on every UP path (R456). -/
def State.sendResend (s : State) (p d cls msg : Nat) : State :=
  if (s.fabric p).conflict then s
  else (((s.peer p d).paths.filter (fun x => x.2.state == .up)).foldl (fun s x =>
    s.fabricOut p d x.1 3 cls (pqHeader s p 3 cls false false d x.1 0 msg 0 0 0)) s).modPeer p d (fun e => { e with resend := e.resend + 1 })

/-- A message handed to its user (R454): what it says comes to the model as the row of its kind. -/
def State.deliverMsg (s : State) (p src cls msg : Nat) (body : List Byte) : State :=
  s.modFabric p (fun F => { F with inbox := F.inbox ++ [(src, cls, msg, body)] })

/-- A reassembly slot is freed, and stamped with the cycle that decided it (R52). -/
def State.endSlot (s : State) (p : Nat) (key : Nat × Nat × Nat) : State :=
  s.modFabric p (fun F => { F with slots := adel F.slots key, stamps := aset F.stamps key s.now })

/-- A packet of a reliable message at its home, already acknowledged (R454, R455). -/
def State.reassemble (s : State) (p : Nat) (h : PqHdr) (payload : List Byte) : State :=
  let key := (h.src, h.cls, h.msg)
  match (s.peer p h.src).closedHow h.cls h.msg with
  | some true => s.fcount p "DUPLICATE"
  | some false => (s.modPeer p h.src (fun e => { e with late := e.late + 1 })).sendResend p h.src h.cls h.msg
  | none =>
    let x : Slot := agetD (s.fabric p).slots key { total := h.total, count := 0, bitsSet := [], data := [], at_ := s.now, home := s.reasmHome p h.msg, payload := s.pktPayload p, timeout := s.reasmCycles p }
    if x.total != h.total then s.fcount p "MALFORMED"
    else
      let pos := h.off / x.payload
      let y : Slot := if x.bitsSet.contains pos then x
        else { x with count := x.count + payload.length, bitsSet := x.bitsSet ++ [pos], data := Memory.writeN x.data h.off payload }
      if y.count == y.total then
        ((s.endSlot p key).modPeer p h.src (fun e => e.close h.cls h.msg true)).deliverMsg p h.src h.cls h.msg
          (Memory.readN y.data 0 y.total)
      else s.modFabric p (fun F => { F with slots := aset F.slots key y })

/-- Whether an ARBITER packet that a twin receives comes from another device than its arbiter (R480); what a partition receives as arbiter comes from
its twins. -/
def State.wrongArbiter (s : State) (p : Nat) (h : PqHdr) (payload : List Byte) : Bool :=
  h.cls == 4 && (beAt payload 2 1 == 2 || beAt payload 2 1 == 3) &&
    !(h.src == s.field 10 p 0 28 2 0 % 4096 || h.src == s.field 9 p 0 28 2 0 % 4096)

/-- PKT_PAYLOAD of the message that a packet belongs to: of its slot where it has one (R564). -/
def State.payloadOf (s : State) (p : Nat) (h : PqHdr) : Nat :=
  match aget (s.fabric p).slots (h.src, h.cls, h.msg) with
  | some x => x.payload
  | none => s.pktPayload p

/-- Why the receiving die drops a packet (R442, R480), if it does. -/
def State.pqDrop (s : State) (p : Nat) (h : PqHdr) (payload : List Byte) : Option String :=
  if !h.magicOk || h.domain != s.domain p then some "BAD_HEADER"
  else if (h.dst != s.device p && !h.unaddressed) || s.wrongArbiter p h payload then some "MISDIRECTED"
  else if h.total < h.off + payload.length || h.off % s.payloadOf p h != 0 then some "MALFORMED"
  else if (h.cls == 3 || h.cls == 5) && (s.peer p h.src).state != .joined then some "NOT_JOINED"
  else none

/-- Whether a packet is the partition's: at UDP_PORT, to one of its fabric addresses or to ROLL_GROUP (R437). -/
def State.pqOurs (s : State) (p : Nat) (h : PqHdr) : Bool :=
  s.hasPart p && h.udp == s.udpPort p && ((s.fabricAddrs p).contains h.ip || (h.ip != 0 && h.ip.toNat == s.fabricDst p 4096 0))

/-- A DATA packet at a die (R437, R442, R449-R455). -/
def execPenquavinData (t : Nat) (part die : Nat) (h : PqHdr) (payload : List Byte) (ce : Bool) (s : State) : Host.Outcome State Fault Refusal :=
  run t s (fun s => s.arrive h.arr (fun s =>
    if !s.pqOurs part h || !(s.partDies part).contains die then s
    else
      match s.pqDrop part h payload with
      | some why => (s.fcount part why).modDie die (fun D => { D with fabricCounters := abump D.fabricCounters why })
      | none =>
        if !reliableClass h.cls then s.deliverMsg part h.src h.cls h.msg payload
        else
          let home := s.reasmHome part h.msg
          let fresh := ((s.peer part h.src).closedHow h.cls h.msg).isNone && !ahas (s.fabric part).slots (h.src, h.cls, h.msg)
          if fresh && s.reasmGranules home < s.reasmUsed part home + ceilDiv h.total 4096 then
            (s.fcount part "REASM_FULL").modDie home (fun D => { D with fabricCounters := abump D.fabricCounters "REASM_FULL" })
          else (s.noteIn part h ce).reassemble part h payload))

/-! ### What the sender does with an ACK (R451, R458, R459) -/

/-- The window after an ACK (R459); a fractional result is cut to whole bytes. -/
def ackWindow (cwnd payload cwndMax q target acked ce : Nat) (mayDecrease : Bool) : Nat :=
  if 0 < ce || target < q then
    if !mayDecrease then cwnd
    else
      let down := if 0 < ce then cwnd / 2 else max (cwnd / 2) (cwnd * (5 * q - 4 * (q - target)) / (5 * q))
      max payload down
  else min cwndMax (cwnd + payload * acked / max 1 cwnd)

/-- SRTT and RTTVAR after a sample, with gains 1/8 and 1/4; the first sample starts them (R458). -/
def rttAfter (srtt rttvar sample : Nat) : Nat × Nat :=
  if srtt == 0 then (sample, sample / 2)
  else
    let dev := if sample ≤ srtt then srtt - sample else sample - srtt
    ((7 * srtt + sample) / 8, (3 * rttvar + dev) / 4)

/-- Takes a packet's retransmission: the next PSEQ comes as it is sent, at the front of its path's queue (R447, R451). -/
def State.requeue (s : State) (p d l : Nat) (k : TxPkt) : State :=
  let target := if k.cls == 3 then l else ((s.peer p d).bestPath).getD l
  ((s.modPath p d l (fun x => { x with tx := x.tx.filter (fun y => y.pseq != k.pseq), retrans := x.retrans + 1 })).modPath p d target (fun x =>
    { x with queue := k :: x.queue }))

/-- Messages all of whose packets are acknowledged are complete; those that waited for room start (R452). -/
def State.completeSent (s : State) (p d : Nat) : State :=
  let e := s.peer p d
  let live (c m : Nat) : Bool := e.paths.any (fun x => x.2.tx.any (fun k => k.cls == c && k.msg == m) || x.2.queue.any (fun k => k.cls == c && k.msg == m))
  let room := 16384 - (e.sent.filter (fun x => live x.1.1 x.1.2)).length
  let next := e.backlog.take room
  let s := s.modPeer p d (fun e => { e with sent := e.sent.filter (fun x => live x.1.1 x.1.2), backlog := e.backlog.drop room })
  next.foldl (fun s x => s.fabricSendOn p d x.1 x.2.1 x.2.2) s

/-- Whether an ACK covers a PSEQ, and how many PSEQs above one it shows received. -/
def ackCovers (a : PqAck) (n : Nat) : Bool := decide (n ≤ a.cum) || a.sacks.any (fun r => decide (r.1 ≤ n) && decide (n ≤ r.2))
def ackAbove (a : PqAck) (n : Nat) : Nat := (a.cum - n) + (a.sacks.map (fun r => (r.2 + 1) - max r.1 (n + 1))).sum

/-- An ACK (R448, R451, R452, R458, R459). -/
def execPenquavinAck (t : Nat) (part : Nat) (h : PqHdr) (a : PqAck) (s : State) : Host.Outcome State Fault Refusal :=
  run t s (fun s => s.arrive h.arr (fun s =>
    if !s.pqOurs part h then s
    else if (s.pqDrop part { h with off := 0, total := 0, cls := 0 } []).isSome then s.fcount part ((s.pqDrop part { h with off := 0, total := 0, cls := 0 } []).getD "")
    else
      match aget (s.peer part h.src).paths a.path with
      | none => s
      | some x =>
        let now := fab s
        let sample := now - a.echo
        let samples := (x.samples ++ [(now, sample)]).filter (fun y => decide (now ≤ y.1 + 10000000000))
        let base := samples.foldl (fun m y => min m y.2) sample
        let r := rttAfter x.srtt x.rttvar sample
        let acked := x.tx.filter (fun k => ackCovers a k.pseq)
        let may := decide (x.lastDecrease + x.srtt ≤ now)
        let q := sample - base
        let down := may && (decide (0 < a.ce) || decide (x.qTarget < q))
        let cwnd := ackWindow x.cwnd x.payload x.cwndMax q x.qTarget ((acked.map (·.len)).sum) a.ce may
        let s := (s.modPath part h.src a.path (fun x =>
          { x with state := .up, samples := samples, baseRtt := base, srtt := r.1, rttvar := r.2, cwnd := cwnd,
                   lastDecrease := if down then now else x.lastDecrease, lastAck := s.now, tx := x.tx.filter (fun k => !ackCovers a k.pseq) })).modPeer part h.src
            (fun e => { e with lastHeard := now })
        let lost := x.tx.filter (fun k => !ackCovers a k.pseq && decide (3 ≤ ackAbove a k.pseq))
        let s := lost.reverse.foldl (fun s k => s.requeue part h.src a.path k) s
        (s.completeSent part h.src).pumpAll part h.src))

/-- A RESEND: the whole message again under a new MSG_ID (R457); it is dropped where R442 drops it. -/
def execResend (t : Nat) (part : Nat) (h : PqHdr) (s : State) : Host.Outcome State Fault Refusal :=
  run t s (fun s => s.arrive h.arr (fun s =>
    match s.pqOurs part h, s.pqDrop part { h with off := 0, total := 0 } [], aget (s.peer part h.src).sent (h.cls, h.msg) with
    | true, some why, _ => s.fcount part why
    | false, _, _ | _, none, none => s
    | true, none, some (l, body) =>
      let gone (k : TxPkt) : Bool := k.cls == h.cls && k.msg == h.msg
      let s := s.modPeer part h.src (fun e => { e with
        sent := adel e.sent (h.cls, h.msg),
        paths := e.paths.map (fun x => (x.1, { x.2 with tx := x.2.tx.filter (fun k => !gone k), queue := x.2.queue.filter (fun k => !gone k) })) })
      if h.cls == 3 then s.fabricSendOn part h.src l h.cls body else s.fabricSend part h.src h.cls body))

/-! ### Timers of paths -/

/-- 8 µs have passed since the oldest unacknowledged packet (R449). -/
def execAckSend (t : Nat) (part peer path : Nat) (s : State) : Host.Outcome State Fault Refusal :=
  run t s (fun s =>
    match (aget (s.peer part peer).rx path).bind (·.oldestUnacked) with
    | some x => if due s x (8 * cUs) then s.sendAckOn part peer path else s
    | none => s)

/-- The retransmission timeout of a packet after n timeouts, in core cycles (R451). -/
def rto (srtt rttvar n : Nat) : Nat := min 2000000 (max 20000 (srtt + 4 * rttvar) * 2 ^ n) * 8 / 5

/-- A path goes DOWN (R448). -/
def State.pathDown (s : State) (p d l : Nat) : State := s.modPath p d l (fun x => { x with state := .down, probeAt := s.now })

/-- A packet's retransmission timeout (R451, R459): the fourth takes the path DOWN (R448). -/
def execRetransmitTimeout (t : Nat) (part peer path pseq : Nat) (s : State) : Host.Outcome State Fault Refusal :=
  timer t s [.ack part peer path] (fun s =>
    match aget (s.peer part peer).paths path with
    | none => s
    | some x =>
      match x.tx.find? (·.pseq == pseq) with
      | none => s
      | some k =>
        if !due s k.sentAt (rto x.srtt x.rttvar k.timeouts) then s
        else
          let k := { k with timeouts := k.timeouts + 1 }
          let s := s.modPath part peer path (fun x => { x with cwnd := x.payload })
          let s := if 4 ≤ k.timeouts then s.pathDown part peer path else s
          (s.requeue part peer path k).pumpAll part peer)

/-- Packets have been outstanding on a path for 1 ms without an ACK (R448). -/
def execPathDown (t : Nat) (part peer path : Nat) (s : State) : Host.Outcome State Fault Refusal :=
  timer t s [.ack part peer path] (fun s =>
    match aget (s.peer part peer).paths path with
    | none => s
    | some x =>
      match x.tx with
      | [] => s
      | k :: rest =>
        let first := rest.foldl (fun m y => min m y.sentAt) k.sentAt
        if x.state != .down && due s (max x.lastAck first) cMs then s.pathDown part peer path else s)

/-- Every 10 ms a message of length zero goes out on a DOWN path (R448). -/
def execPathProbe (t : Nat) (part peer path : Nat) (s : State) : Host.Outcome State Fault Refusal :=
  run t s (fun s =>
    match aget (s.peer part peer).paths path with
    | none => s
    | some x =>
      if x.state != .down || (s.fabric part).conflict || !due s x.probeAt (10 * cMs) then s
      else
        let msg := agetD (s.peer part peer).nextMsg 6 1
        let k : TxPkt := { pseq := x.nextPseq, cls := 6, msg := msg, off := 0, len := 0, sentAt := s.now, timeouts := 0, body := [], total := 0 }
        let s := (s.modPeer part peer (fun e => { e with nextMsg := aset e.nextMsg 6 (msg + 1) })).modPath part peer path (fun x =>
          { x with tx := x.tx ++ [k], nextPseq := x.nextPseq + 1, probeAt := s.now })
        s.fabricOut part peer path 1 6 (pqHeader s part 1 6 false true peer path k.pseq msg 0 0 0))

/-- A reassembly slot reaches REASM_TIMEOUT (R456). -/
def execReasmTimeout (t : Nat) (part src cls msg : Nat) (s : State) : Host.Outcome State Fault Refusal :=
  timer t s [.fragment part src cls msg] (fun s =>
    match aget (s.fabric part).slots (src, cls, msg) with
    | none => s
    | some x =>
      if !due s x.at_ x.timeout then s
      else
        ((s.endSlot part (src, cls, msg)).modPeer part src (fun e =>
          { e.close cls msg false with reasm := e.reasm + 1 })).sendResend part src cls msg)

end Sys2Proof.Machine
end

