-- ==== Sys2Proof/Machine/Fabric.lean ====
section
/-! DEFINITION. The Penquavin fabric family (11): roll call, joining, far windows, pauses, and address resolution for service addresses (R394). -/
namespace Sys2Proof.Machine
open Sys2Proof

/-! ### Roll call (R463-R466) -/

/-- The periodic ANNOUNCE: every whole second, offset by d × 244,140 ns (R463, R493). -/
def execAnnounceSend (t : Nat) (part : Nat) (s : State) : Host.Outcome State Fault Refusal :=
  run t s (fun s =>
    let off := s.device part * 244140
    let slot (x : Nat) : Nat := (x + 1000000000 - off % 1000000000) / 1000000000
    if s.hasPart part && (s.pkg == .on || s.pkg == .seqDown) && decide (slot (s.fabric part).lastAnnounceOut < slot (fab s)) then
      (s.announce part).modFabric part (fun F => { F with lastAnnounceOut := fab s })
    else s)

/-- Whether a partition keeps its device number against another that announces it (R466). -/
def keepsNumber (mine : Bool) (theirs : Bool) (own other : Nat) : Bool := (mine && !theirs) || (!mine && !theirs && decide (own < other))

/-- Another device announces this partition's number and keeps it (R466): CONFLICT. -/
def State.deviceConflict (s : State) (p : Nat) (a : AnnounceBody) : State :=
  let d := s.device p
  let first := !(s.fabric p).conflict
  let s := (s.modPeer p d (fun e => { e with state := .conflict, mode := a.mode, ident := a.ident, lastAnnounce := fab s, lastHeard := fab s, addrs := a.addrs,
                                             joinedAny := a.joinedAny, emptySince := none })).modFabric p (fun F => { F with conflict := true, joinedAny := false })
  if first then (s.int .deviceConflict).log .deviceConflict (srcPart p) (values [beNat (ident p), a.ident.toNat]) else s

/-- A received ANNOUNCE (R463-R466, R470, R471). -/
def execAnnounce (t : Nat) (part src : Nat) (a : AnnounceBody) (s : State) : Host.Outcome State Fault Refusal :=
  run t s (fun s =>
    if !s.hasPart part || !(s.pkg == .on) then s
    else if src == s.device part then
      if a.ident.toNat == beNat (ident part) || keepsNumber (s.fabric part).joinedAny a.joinedAny (beNat (ident part)) a.ident.toNat then s
      else s.deviceConflict part a
    else
      let new := (s.peer part src).state == .empty
      let s := s.modPeer part src (fun e => { e with
        state := if e.state == .empty then .announced else e.state, mode := a.mode, ident := a.ident, lastAnnounce := fab s, lastHeard := fab s,
        addrs := a.addrs, joinedAny := a.joinedAny, emptySince := none })
      if !new || s.mode part == .build then s
      else if s.outsideSchedule part src then s.joinReq part src
      else if ahas (s.fabric part).schedule src then s
      else (s.nextJoinSlot part src).2)

/-- A peer has been silent for 5 s (R465): its entry becomes EMPTY and its outstanding messages end. -/
def execPeerSilence (t : Nat) (part peer : Nat) (s : State) : Host.Outcome State Fault Refusal :=
  timer t s [.heard part peer] (fun s =>
    let e := s.peer part peer
    if e.state == .empty || fab s < e.lastHeard + 5000000000 then s
    else (s.modPeer part peer (fun e => { Peer.reset with late := e.late, reasm := e.reasm, resend := e.resend, emptySince := some (fab s) })).modFabric part (fun F =>
      { F with slots := F.slots.filter (fun x => x.1.1 != peer) }))

/-- The conflicting peer has been EMPTY for 5 s (R466). -/
def execDeviceConflictRetry (t : Nat) (part peer : Nat) (s : State) : Host.Outcome State Fault Refusal :=
  run t s (fun s =>
    match (s.peer part peer).emptySince with
    | some x => if peer == s.device part && decide (x + 5000000000 ≤ fab s) then s.retryNumber part else s
    | none => s)

/-! ### Joining (R467-R471) -/

/-- A JOIN_REQ is accepted (R468). -/
def State.joinAccept (s : State) (p d : Nat) : State := (s.joinMsg p d 2 (ident p)).joined p d

/-- A JOIN_REQ (R467-R471). -/
def execJoinReq (t : Nat) (part src : Nat) (ident : BitVec 64) (s : State) : Host.Outcome State Fault Refusal :=
  run t s (fun s =>
    if !s.hasPart part || s.pkg == .cold || (s.fabric part).conflict then s
    else
      let e := s.peer part src
      let s := s.modPeer part src (fun e => { e with ident := ident, emptySince := none, lastHeard := if e.state == .empty then fab s else e.lastHeard })
      if s.pkg != .on || s.mode part == .build then
        (s.joinRefuse part src 1 (fab s + 1000000000)).modPeer part src (fun e => { e with state := .pending, slotOrJoin := fab s + 1000000000 })
      else if e.state == .joining then
        (if s.device part < src then s.joinRefuse part src 3 0 else s.joinAccept part src)
      else if s.outsideSchedule part src then s.joinAccept part src
      else
        match aget (s.fabric part).schedule src with
        | some at_ =>
          if at_ ≤ fab s then s.joinAccept part src
          else (s.joinRefuse part src 2 at_).modPeer part src (fun e => { e with state := .pending, slotOrJoin := at_ })
        | none =>
          let x := s.nextJoinSlot part src
          if x.1 ≤ fab s then x.2.joinAccept part src
          else (x.2.joinRefuse part src 2 x.1).modPeer part src (fun e => { e with state := .pending, slotOrJoin := x.1 }))

/-- A JOIN_ACCEPT completes the join that was asked for (R468). -/
def execJoinAccept (t : Nat) (part src : Nat) (ident : BitVec 64) (s : State) : Host.Outcome State Fault Refusal :=
  run t s (fun s => if (s.peer part src).state == .joining then (s.modPeer part src (fun e => { e with ident := ident })).joined part src else s)

/-- A JOIN_REFUSE (R467-R471): CROSSED leaves the way to the other's request; the others name a time to ask again. -/
def execJoinRefuse (t : Nat) (part src cause retryAt : Nat) (s : State) : Host.Outcome State Fault Refusal :=
  run t s (fun s =>
    if (s.peer part src).state != .joining then s
    else s.modPeer part src (fun e => { e with state := .announced, joinSentAt := none, refusedUntil := if cause == 3 then none else some retryAt }))

/-- LEAVE (R468). -/
def execLeave (t : Nat) (part src : Nat) (s : State) : Host.Outcome State Fault Refusal :=
  run t s (fun s =>
    if (s.peer part src).state != .joined then s
    else (s.modPeer part src (fun e => { e with state := .announced, paths := [], rx := [], sent := [], backlog := [] })).modFabric part (fun F =>
      { F with slots := F.slots.filter (fun x => x.1.1 != src) }))

/-- A JOIN_REQ has drawn no answer within 100 ms (R467). -/
def execJoinResend (t : Nat) (part peer : Nat) (s : State) : Host.Outcome State Fault Refusal :=
  timer t s [.joinAnswer part peer] (fun s =>
    match (s.peer part peer).joinSentAt with
    | some x => if (s.peer part peer).state == .joining && decide (x + 100000000 ≤ fab s) then s.joinReq part peer else s
    | none => s)

/-- The slot of an ANNOUNCED peer arrives: the partition asks (R470). -/
def execJoinSlot (t : Nat) (part peer : Nat) (s : State) : Host.Outcome State Fault Refusal :=
  run t s (fun s =>
    match aget (s.fabric part).schedule peer with
    | some at_ => if (s.peer part peer).state == .announced && (s.peer part peer).refusedUntil.isNone && decide (at_ ≤ fab s) then s.joinReq part peer else s
    | none => s)

/-- A slot has gone unused for 1 s (R471). -/
def execJoinSlotRelease (t : Nat) (part peer : Nat) (s : State) : Host.Outcome State Fault Refusal :=
  timer t s [.joinReq part peer] (fun s =>
    match aget (s.fabric part).schedule peer with
    | some at_ => if at_ + 1000000000 ≤ fab s then s.modFabric part (fun F => { F with schedule := adel F.schedule peer }) else s
    | none => s)

/-- The time that a JOIN_REFUSE named is reached (R471). -/
def execJoinRetry (t : Nat) (part peer : Nat) (s : State) : Host.Outcome State Fault Refusal :=
  run t s (fun s =>
    match (s.peer part peer).refusedUntil with
    | some x => if (s.peer part peer).state == .announced && decide (x ≤ fab s) then s.joinReq part peer else s
    | none => s)

/-! ### Far windows: the backing partition (R472-R475, R477, R478) -/

/-- The window index under which a far stream's operations stand: no window has it. -/
def farWin (src : Nat) : Nat := 262144 + src

/-- The bricks of a far request: first, and count. -/
def FarReq.first (r : FarReq) : Nat := r.addr % 2 ^ 52 / 2097152
def FarReq.count (r : FarReq) : Nat := ceilDiv (r.addr % 2097152 + r.len) 2097152

/-- The conditions of R475. -/
def State.farDenied (s : State) (p src : Nat) (r : FarReq) : Bool :=
  (match aget (s.remote p).tenants r.tenant with | some T => !T.farDevices.contains src | none => true) ||
  !s.allOf p r.tenant (FarReq.first r) (FarReq.count r) || (r.encipher && s.keyErased p r.tenant)

/-- What a far request does; a FLUSH of length 0 has the whole stream as its scope (log 195). -/
def farKind (r : FarReq) : Option OpKind :=
  match r.op with
  | 1 => some .write
  | 2 => some (.writeImm r.imm)
  | 3 => some .read
  | 4 => some (.cas r.a r.b)
  | 5 => some (.fadd r.a)
  | 6 => some .atomicWrite
  | 7 => some (.flush (if r.len == 0 then 0 else 1) (r.imm.getLsbD 0) (r.imm.getLsbD 1))
  | _ => none

/-- The operation of a far request, on the die of its stream (R474). -/
def State.farOp (s : State) (p src : Nat) (r : FarReq) (k : OpKind) : Op :=
  let ds := s.partDies p
  let keys := match s.slotOfTenant p r.tenant with
    | some i => some ((s.slot i).half0, (s.slot i).half1)
    | none => none
  { id := (s.remote p).nextOp, die := ds.getD (r.qpn.toNat % max 1 ds.length) 0, qpn := r.qpn, psn := BitVec.ofNat 24 r.sseq, kind := k, tenant := r.tenant,
    win := farWin src, gen := 0,
    profile := { keystone := r.keystone, durability := r.durability, encipher := r.encipher, prio := r.prio },
    addr := r.addr % 2 ^ 52, len := if r.op ≤ 2 then r.data.length else r.len, data := r.data, msn := 0, msgLen := r.sseq, last := true, decided := s.now, accepted := none,
    charged := [], ring := none, beforeMsn := 0, beforeCur := none, direct := [], stalledAt := none, farTo := none, sseq := none, mirrored := false, farFrom := some src,
    silent := false, duplicate := false, keys := keys, ringDue := false, scope := [], merged := [], captured := [] }

/-- A far request in its place in its stream (R177, R475). A die's 2,048 waiting packets bound far writes too: one more is discarded (R149, log 204). -/
def State.farApply (s : State) (p src : Nat) (r : FarReq) : State :=
  let ans (s : State) (res : Nat) : State := s.farAnswer p src r.op res r.qpn r.sseq 0 0 []
  match farKind r with
  | none => s
  | some k =>
    if s.farDenied p src r then ans s 6
    else
      let o := s.withScope p (s.farOp p src r k)
      if o.writes && 2048 ≤ (s.waiting p o.die).length then ans s 5
      else if r.durability == 2 && s.alone p && (o.writes || (r.op == 7 && r.imm.getLsbD 1)) then ans s 9
      else
        let s := s.modRemote p (fun x => { x with ops := x.ops ++ [o], nextOp := o.id + 1 })
        match k with
        | .read => s.tryRead p o
        | .flush _ _ _ => s
        | _ =>
          let s := s.acceptNew p o
          if o.atomic then s.tryPlace p o.id else s

/-- Applies the requests of a stream that have come in SSEQ order (R474). -/
def State.farDrain : Nat → State → Nat → Nat → BitVec 24 → State
  | 0, s, _, _, _ => s
  | n + 1, s, p, src, q =>
    let st := agetD (s.fabric p).farStreams (src, q) { next := 1, waiting := [], closing := none }
    match st.waiting.find? (·.sseq == st.next) with
    | none => s
    | some r =>
      let s := s.modFabric p (fun F => { F with farStreams := aset F.farStreams (src, q) { st with next := st.next + 1, waiting := st.waiting.filter (fun x => x.sseq != st.next) } })
      State.farDrain n (s.farApply p src r) p src q

/-- A FAR request at the backing partition (R472-R475). -/
def execFarRequest (t : Nat) (part src : Nat) (r : FarReq) (s : State) : Host.Outcome State Fault Refusal :=
  run t s (fun s =>
    if !s.hasPart part || (s.peer part src).state != .joined then s
    else
      let st := agetD (s.fabric part).farStreams (src, r.qpn) { next := 1, waiting := [], closing := none }
      if r.sseq < st.next || st.closing.isSome || st.waiting.any (·.sseq == r.sseq) then s
      else if s.pkg != .on || !s.serving part || (s.modeSt part).halted then s.farAnswer part src r.op 8 r.qpn r.sseq 0 0 []
      else
        let st := { st with waiting := st.waiting ++ [r] }
        let s := s.modFabric part (fun F => { F with farStreams := aset F.farStreams (src, r.qpn) st })
        (State.farDrain st.waiting.length s part src r.qpn).settle part)

/-- Bricks that a far window of a TWIN level covers get the MIRROR bit here, where they lie, when the window is probed (R171, R738). -/
def State.mirrorFar (s : State) (p : Nat) (r : FarReq) : State :=
  if r.durability == 0 || !(s.twin p).paired then s
  else
    let new := ((s.store p).bricks.filter (fun e => decide (FarReq.first r ≤ e.1) && decide (e.1 < FarReq.first r + FarReq.count r) && !e.2.mirror)).map (·.1)
    new.foldl (fun s b => (s.modBrick p b (fun B => { B with mirror := true })).track p 3 (b / 512)) s

/-- A CLOSE: of a QP's stream, settled as R122 settles a QP (R478), or a probe for a far window (R738). -/
def execFarClose (t : Nat) (part src : Nat) (r : FarReq) (s : State) : Host.Outcome State Fault Refusal :=
  run t s (fun s =>
    if !s.hasPart part || (s.peer part src).state != .joined then s
    else if r.qpn == 0 then
      if s.inBricks part (FarReq.first r) (FarReq.count r) && !s.farDenied part src r then (s.mirrorFar part r).farAnswer part src 8 0 0 r.sseq 0 0 []
      else s.farAnswer part src 8 6 0 r.sseq 0 0 []
    else
      let keep (o : Op) : Bool := o.writes && o.accepted.isSome
      let gone := ((s.remote part).ops.filter (fun o => o.farFrom == some src && o.qpn == r.qpn && !keep o)).map (·.id)
      let s := gone.foldl (fun s id => s.endOp part id) s
      let s := s.modFabric part (fun F => { F with farStreams := amod F.farStreams (src, r.qpn) { next := 1, waiting := [], closing := none } (fun st =>
        { st with waiting := [], closing := some r.sseq }) })
      s.settle part)

/-! ### Far windows: the serving partition (R176-R179, R476, R477) -/

/-- The ring entry of a keystone whose data the backing partition has placed: placed on this partition, where the ring lies, under the charge that the keystone took with it
(R147, R160-R163). -/
def State.farRing (s : State) (p : Nat) (o : Op) : State :=
  match o.kind with
  | .writeImm _ =>
    if !o.ringDue then s.modRd o.die (fun r => { r with immDiscarded := r.immDiscarded + 1 })
    else
      let id := (s.remote p).nextOp
      let e := { o with id := id, len := 0, data := [], farTo := none, sseq := none, accepted := some s.now, mirrored := true, decided := s.now }
      (s.modRemote p (fun r => { r with ops := r.ops ++ [e], nextOp := id + 1 })).tryPlace p id
  | _ => s

/-- A far write counted as accepted, and acknowledged (R176, R476). -/
def State.farAccepted (s : State) (p : Nat) (o : Op) : State :=
  if o.accepted.isSome || !o.writes then s
  else
    let s := s.modOp p o.id (fun o => { o with accepted := some s.now })
    if o.atomic then s
    else ((s.meter p o.die o.tenant 0 o.data.length).meter p o.die o.tenant 2 1).scheduleAck p o.qpn o.psn o.last

/-- The far request is placed, or its FLUSH's point reached (R178, R476). -/
def State.farPlaced (s : State) (p : Nat) (o : Op) : State :=
  match o.kind with
  | .flush _ _ _ => s.endFlush p o .reached
  | _ => (((s.farAccepted p o).modOp p o.id (fun o => { o with ringDue := false })).endOp p o.id).farRing p o

/-- A piece of an RDMA READ's data; the response goes once all has come (R473, R476). -/
def State.farDataIn (s : State) (p : Nat) (o : Op) (off : Nat) (data : List Byte) : State :=
  let o' := { o with captured := aset o.captured (off, 0) data }
  (s.modOp p o.id (fun _ => o')).farReadEnds p o'

/-- A RESULT for an operation that is still in the table (R476). -/
def State.farResultOp (s : State) (p : Nat) (o : Op) (r : FarRes) : State :=
  match r.result with
  | 0 => s.farAccepted p o
  | 1 => s.farPlaced p o
  | 2 => s.farPlaced p o
  | 3 => s.farDataIn p o r.off r.data
  | 4 => (s.endOp p o.id).atomicReply p o r.original
  | 5 => s.discard p o 0x07
  | 6 => (s.endOp p o.id).qpError p o.qpn o.psn 0x22
  | 7 => (s.endOp p o.id).qpError p o.qpn o.psn 0x30
  | 9 => (s.endOp p o.id).qpError p o.qpn o.psn 0x33
  | _ => s

/-- A FAR answer at the serving partition (R476-R478, R738). -/
def execFarResult (t : Nat) (part src : Nat) (r : FarRes) (s : State) : Host.Outcome State Fault Refusal :=
  run t s (fun s =>
    if !s.hasPart part || (s.peer part src).state != .joined then s
    else if r.op == 8 then
      if r.qpn == 0 then s.probeEnds part src (if r.result == 0 then none else some .farDenied)
      else ((s.modFabric part (fun F => { F with farSent := adel F.farSent (r.qpn, 0) })).endFar part r.qpn).settle part
    else
      let key := (r.qpn, r.sseq)
      let known := match aget (s.fabric part).farSent key with | some e => e.peer == src | none => false
      if r.result == 8 then
        (if known then s.modFabric part (fun F => { F with farSent := aupd F.farSent key (fun e => { e with notServing := some s.now }) }) else s)
      else
        let s := if known then s.modFabric part (fun F => { F with farSent := adel F.farSent key }) else s
        match (s.remote part).ops.find? (fun o => o.qpn == r.qpn && o.sseq == some r.sseq && o.farTo == some src) with
        | some o => ((s.farResultOp part o r).serveDie part o.die).settle part
        | none => s)

/-- 1 ms after NOT_SERVING the request goes out again (R476). -/
def execFarRetry (t : Nat) (part : Nat) (qpn : BitVec 24) (sseq : Nat) (s : State) : Host.Outcome State Fault Refusal :=
  run t s (fun s =>
    match aget (s.fabric part).farSent (qpn, sseq) with
    | none => s
    | some e =>
      match e.notServing with
      | some x =>
        if due s x cMs && decide (fab s < e.firstAt + s.farTimeout part) then
          (s.modFabric part (fun F => { F with farSent := aupd F.farSent (qpn, sseq) (fun e => { e with notServing := none }) })).fabricSend part e.peer 5 (farBytes e.body)
        else s
      | none => s)

/-- FAR_TIMEOUT has passed without a RESULT (R477); for QPN 0, the oldest probe of the partition (R738). -/
def execFarTimeout (t : Nat) (part : Nat) (qpn : BitVec 24) (sseq : Nat) (s : State) : Host.Outcome State Fault Refusal :=
  timer t s [.farResult part qpn sseq] (fun s =>
    if qpn == 0 then
      match (s.fabric part).farProbes with
      | x :: _ => if x.firstAt + s.farTimeout part ≤ fab s then s.probeEnds part x.peer (some .farUnreachable) else s
      | [] => s
    else
      match aget (s.fabric part).farSent (qpn, sseq) with
      | none => s
      | some e =>
        if sseq == 0 || fab s < e.firstAt + s.farTimeout part then s
        else
          let s := (s.modFabric part (fun F => { F with farSent := adel F.farSent (qpn, sseq) })).log .farTimeout (srcPart part) (values [e.peer, qpn.toNat, sseq])
          match s.op? part e.opId with
          | some o => ((s.qpError part qpn o.psn 0x32).endOp part o.id).settle part
          | none => s)

/-! ### Pauses (R462) and service addresses (R394) -/

/-- Bits of IEEE 802.1Qbb pause quanta at the line rate, in core cycles: a quantum is 512 bit times. -/
def quantaCycles (quanta mbps : Nat) : Nat := ceilDiv (quanta * 512 * 1600) (max 1 mbps)

/-- A received pause frame (R462): honoured for every priority; quanta 0 releases it. -/
def execPauseFrame (t : Nat) (port prio quanta : Nat) (s : State) : Host.Outcome State Fault Refusal :=
  run t s (fun s =>
    match s.partOfDie (port / 2) with
    | none => s
    | some _ =>
      if 8 ≤ prio then s
      else
        { s with pfc := amod s.pfc (port, prio) { pausedUntil := none, weAssert := false, lastSent := 0, occupancy := 0 } (fun x =>
            { x with pausedUntil := if quanta == 0 then none else some (s.now + quantaCycles quanta 800000) }) })

/-- Whether a priority of a port has PFC enabled (R461, R549). -/
def State.pfcOn (s : State) (p prio : Nat) : Bool := (List.range 4).any (fun g => s.field 9 p 0 (80 + 4 * g) 1 8 == prio && s.field 9 p 0 (82 + 4 * g) 1 0 == 1)

/-- Bytes of a port's 4 MiB ingress buffer that a PFC-enabled priority has: its group's sixteenths, or an equal share (R462, R549). -/
def State.pfcShare (s : State) (p prio : Nat) : Nat :=
  let on := (List.range 4).filter (fun g => s.field 9 p 0 (82 + 4 * g) 1 0 == 1)
  match on.find? (fun g => s.field 9 p 0 (80 + 4 * g) 1 8 == prio) with
  | some g =>
    let share := s.field 9 p 0 (83 + 4 * g) 1 0
    if share == 0 then 4194304 / max 1 on.length else 4194304 * share / 16
  | none => 0

/-- The port looks at the ingress buffer of a priority, so many bytes of which stand filled (log 49): above 3/4 of its share it pauses the priority, below 1/2 it
releases it, and while paused it repeats the pause every 100 µs (R462). -/
def execPauseRepeat (t : Nat) (port : Nat) (f : PfcFill) (s : State) : Host.Outcome State Fault Refusal :=
  run t s (fun s =>
    match s.partOfDie (port / 2) with
    | none => s
    | some p =>
      let x := agetD s.pfc (port, f.prio) { pausedUntil := none, weAssert := false, lastSent := 0, occupancy := 0 }
      let share := s.pfcShare p f.prio
      let put (assert : Bool) (sent : Nat) : State := { s with pfc := aset s.pfc (port, f.prio) { x with weAssert := assert, lastSent := sent, occupancy := f.occupancy } }
      if !s.pfcOn p f.prio then s
      else if x.weAssert && decide (f.occupancy * 2 < share) then (put false s.now).send (.pause port f.prio 0)
      else if (!x.weAssert && decide (share * 3 < f.occupancy * 4)) || (x.weAssert && due s x.lastSent (100 * cUs)) then (put true s.now).send (.pause port f.prio 0xFFFF)
      else put x.weAssert x.lastSent)

/-- An ARP request or Neighbour Solicitation: a partition answers for the addresses of its ports (R88), and the lead for a service address, with the group MAC address
(R394). -/
def execArpRequest (t : Nat) (f : ArpFrame) (addr : BitVec 128) (s : State) : Host.Outcome State Fault Refusal :=
  run t s (fun s => s.arrive f.arr (fun s =>
    let r := s.recD 10 f.part 0
    let svc := (List.range (leAt r 3 1)).any (fun i => beAt r (32 + 24 * i + 8) 16 == addr.toNat)
    let T := s.twin f.part
    if s.pkg != .on || s.portsOut f.part then s
    else if svc then (if T.lead && T.unpairing.isNone then s.sendOn f.arr.port f.arr.brk (.arp f.part addr (some (beAt r 8 6))) else s)
    else if (s.fabricAddrs f.part).contains addr then s.sendOn f.arr.port f.arr.brk (.arp f.part addr none)
    else s))

end Sys2Proof.Machine
end

