-- ==== Sys2Proof/Machine/FlashTier.lean ====
section
/-! DEFINITION. The flash tier's own work (08): write-backs, relocation, read disturb, wear levelling, erases, retired LUNs; and the erase of
object-table sectors (R275). -/
namespace Sys2Proof.Machine
open Sys2Proof

/-- A DIRTY unit is written back into the group whose turn it is (R328-R330), in the order of R151 and R244; one that a FLAGGED line keeps from being read is rebuilt
first (R205). -/
def execWriteBack (t : Nat) (part brick unit group : Nat) (s : State) : Host.Outcome State Fault Refusal :=
  run t s (fun s =>
    let S := s.store part
    if !S.resident brick || (S.dirtyIn brick unit).isEmpty || S.flash.inFlight brick unit || !s.mayProgram part || !s.wbFirst part brick unit ||
       (S.flash.nextUnit .openWrite false none).map (·.1) != some group then s
    else if !(s.flaggedIn part brick unit).isEmpty then s.rebuildDue part brick (s.flaggedIn part brick unit)
    else
      match s.takeIn part group .openWrite with
      | some (pl, s) => (s.beginWriteBack part brick unit .writeBack pl).shareCheck part
      | none => s)

/-- What follows a write-back's end for its brick: an eviction or an evacuation goes on (R209, R293). -/
def State.afterWriteBack (s : State) (p b : Nat) : State :=
  match (s.store p).brick? b with
  | some B => if B.evacuating then s.evacuateBrick p b else if B.evicting then s.evictStep p b else s
  | none => s

/-- A failed program goes once more into another group, and on into further ones (R331); in DRAIN it is given up (R366). -/
def State.reprogram (s : State) (p group : Nat) (w : WriteBack) : State :=
  let keep (x : WriteBack) : Bool := !(x.brick == w.brick && x.unit == w.unit && x.loc == w.loc)
  let s := s.modFlash p (fun F => { F with wbs := F.wbs.filter keep })
  let giveUp (s : State) : State := w.dirty.foldl (fun s g => s.pageUnwritten p w.brick g) s
  if s.mode p == .drain then giveUp s
  else
    let take := match (if group == w.group then none else s.takeIn p group .openWrite) with
      | some r => some r
      | none => s.takeProgram p .openWrite false (some w.group)
    match take with
    | none => giveUp s
    | some (pl, s) =>
      let s := s.modFlash p (fun F => { F with wbs := F.wbs ++
        [{ w with group := pl.1, sb := pl.2.1, loc := pl.2.2.1, fails := w.fails + 1, at_ := s.now,
                  cws := w.cws.map (fun c => { c with seq := pl.2.2.2 }) }] })
      if w.fails == 1 then s.log .wbOvertime (srcPart p) (values []) else s

/-- A write-back's program ends (R330, R331): the flash map names the new copy, DIRTY is cleared and the charges released; or the block is bad
and the unit is programmed again. -/
def execWriteBackComplete (t : Nat) (part brick unit : Nat) (ok : Bool) (group : Nat) (s : State) : Host.Outcome State Fault Refusal :=
  run t s (fun s =>
    match (s.flash part).wbs.find? (fun w => w.brick == brick && w.unit == unit && w.why != .relocate) with
    | none => s
    | some w =>
      if (s.flash part).ahead w.loc.onLun 4 (s.packetWaits part) then s
      else if ok then
        let s := s.modFlash part (fun F => { F with wbs := F.wbs.filter (fun x => !(x.brick == brick && x.unit == unit && x.loc == w.loc)) })
        let s := (s.mapUnit part brick unit w.loc w.cws).meterUnit part brick 9
        let s := w.dirty.foldl (fun s g => s.pageWritten part brick g) s
        ((((s.afterWriteBack part brick).shareCheck part).opCheck part).clearLosts part).tryApply
      else (s.growBad part w.loc).reprogram part group w)

/-- Whether relocation runs (R339): in SERVE, SOLO or SERVICE, not halted. -/
def State.mayRelocate (s : State) (p : Nat) : Bool := s.mayProgram p && s.mode p != .restore

/-- The closed superblock with the fewest valid units, ties to the lower mean erase count (R334). -/
def Flash.leastValid (F : Flash) (m : Nat) (g : Group) : Option (Nat × Superblock) :=
  ((g.sbs.filter (fun e => e.2.state == .closed && !(F.validIn m e.2).isEmpty)).foldl (fun best e => match best with
    | some b =>
      let n := (F.validIn m e.2).length
      let k := (F.validIn m b.2).length
      if n < k || (n == k && e.2.worn < b.2.worn) then some e else some b
    | none => some e) (none : Option (Nat × Superblock)))

/-- The valid units of a superblock are copied into the group's relocation superblock (R334). -/
def State.relocateSb (s : State) (p m : Nat) (sb : Superblock) : State :=
  ((s.flash p).validIn m sb).foldl (fun s e => s.relocateUnit p e.1.1 e.1.2) s

def execRelocation (t : Nat) (part group : Nat) (s : State) : Host.Outcome State Fault Refusal :=
  run t s (fun s =>
    match aget (s.flash part).groups group with
    | none => s
    | some g =>
      if !s.mayRelocate part then s
      else
        match (s.flash part).leastValid group g with
        | some e => (s.relocateSb part group e.2).shareCheck part
        | none => s)

/-- A group that takes no programs leaves service once it is empty (R346). -/
def State.emptyGroups (s : State) (p : Nat) : State :=
  s.modFlash p (fun F => { F with groups := F.groups.map (fun g =>
    if g.2.readOnly && g.2.sbs.all (fun e => (F.validIn g.1 e.2).isEmpty) then (g.1, { g.2 with gone := true }) else g) })

/-- The oldest relocation program of a group ends (R335, R345). -/
def execRelocationComplete (t : Nat) (part group : Nat) (ok : Bool) (s : State) : Host.Outcome State Fault Refusal :=
  run t s (fun s =>
    match (s.flash part).wbs.find? (fun w => w.why == .relocate && w.group == group) with
    | none => s
    | some w =>
      if (s.flash part).ahead w.loc.onLun 5 false then s
      else
      let s := s.modFlash part (fun F => { F with wbs := F.wbs.filter (fun x => !(x.why == .relocate && x.loc == w.loc)) })
      if ok then (((s.relocated part w).meterUnit part w.brick 10).emptyGroups part).shareCheck part
      else (s.growBad part w.loc).relocateUnit part w.brick w.unit)

/-- A block's reads reach the limit, or units of it needed deep recovery: they are relocated (R342). -/
def execReadDisturbRelocate (t : Nat) (part ch ce lun block : Nat) (s : State) : Host.Outcome State Fault Refusal :=
  run t s (fun s =>
    let F := s.flash part
    let at_ : Loc := { ch := ch, ce := ce, lun := lun, block := block, page := 0 }
    let mine := F.fmap.filter (fun e => e.2.loc.sameBlock at_)
    let limit := match s.rec? 16 part 0 with | some b => leAt b 8 4 | none => 1000
    if !s.mayRelocate part then s
    else if limit ≤ agetD F.readCounts (ch, ce, lun, block) 0 then
      mine.foldl (fun s e => s.relocateUnit part e.1.1 e.1.2) (s.modFlash part (fun F => { F with readCounts := adel F.readCounts (ch, ce, lun, block) }))
    else (mine.filter (fun e => F.urgent.contains e.1)).foldl (fun s e => s.relocateUnit part e.1.1 e.1.2) s)

/-- The closed superblock of a group that a comparison of erase counts prefers. -/
def Group.byErases (g : Group) (pick : Nat → Nat → Bool) : Option (Nat × Superblock) :=
  (g.sbs.filter (fun e => e.2.state == .closed)).foldl (fun best e => match best with
    | some b => if pick e.2.worn b.2.worn then some e else some b
    | none => some e) none

/-- The mean erase counts of a group's closed superblocks differ by more than 256: the least-erased closed superblock is relocated (R347). -/
def execWearLevel (t : Nat) (part group : Nat) (s : State) : Host.Outcome State Fault Refusal :=
  run t s (fun s =>
    match aget (s.flash part).groups group with
    | none => s
    | some g =>
      match g.byErases (fun a b => decide (b < a)), g.byErases (fun a b => decide (a < b)) with
      | some hi, some lo => if 256 * 16 < hi.2.worn - lo.2.worn && s.mayRelocate part then s.relocateSb part group lo.2 else s
      | _, _ => s)

/-- A superblock without a valid unit, read by nothing and covered by a later checkpoint's footer, is erased (R336, R376). -/
def execEraseSuperblock (t : Nat) (part group sb : Nat) (s : State) : Host.Outcome State Fault Refusal :=
  run t s (fun s =>
    let F := s.flash part
    match (aget F.groups group).bind (fun g => aget g.sbs sb) with
    | none => s
    | some x =>
      let covered := match x.invalidAt with | some n => decide (n < (s.store part).ckpt.gen) | none => false
      let read := F.reads.any (fun r => match F.entry r.brick r.unit with | some e => F.inSb group x e.loc | none => false)
      if !(x.state == .closed || x.state == .drain) || !(F.validIn group x).isEmpty || !covered || read || !s.mayProgram part then s
      else s.modFlash part (fun F => { F with groups := aupd F.groups group (fun g => { g with sbs := aupd g.sbs sb (fun x => { x with state := .erasing }) }) }))

/-- A superblock's erase ends: erased, with the blocks that failed replaced (R338, R340, R345). -/
def execBlockEraseComplete (t : Nat) (part group sb : Nat) (failed : List Nat) (s : State) : Host.Outcome State Fault Refusal :=
  run t s (fun s =>
    let F := s.flash part
    match (aget F.groups group).bind (fun g => aget g.sbs sb) with
    | none => s
    | some x =>
      if x.state != .erasing || !s.live part || s.mode part == .drain || (List.range 16).any (fun j => F.ahead (F.member group j) 6 false) then s
      else
        let s := s.modFlash part (fun F => { F with
          units := F.units.filter (fun u => !F.inSb group x u.1),
          readCounts := F.readCounts.filter (fun r => !F.inSb group x { ch := r.1.1, ce := r.1.2.1, lun := r.1.2.2.1, block := r.1.2.2.2, page := 0 }),
          groups := aupd F.groups group (fun g => { g with sbs := aupd g.sbs sb (fun x =>
            { x with state := .erased, next := 0, xorRows := 0, invalidAt := none, erases := x.erases.map (· + 1) }) }) })
        let s := (failed.filter (· < 16)).foldl (fun s j =>
          let q := F.member group j
          s.growBad part { ch := q.1, ce := q.2.1, lun := q.2.2, block := x.blocks.getD j 0, page := 0 }) s
        let s := s.modFlash part (fun F => { F with groups := aupd F.groups group (fun g => { g with sbs := g.sbs.filter (fun e => !(e.1 == sb && (List.range 16).any (fun j =>
          let q := F.member group j
          F.badBlocks.contains (q.1, q.2.1, q.2.2, e.2.blocks.getD j 0)))) }) })
        (s.shareCheck part).opCheck part)

/-- A LUN stops answering and is retired (R346). -/
def execLunRetired (t : Nat) (part ch ce lun : Nat) (s : State) : Host.Outcome State Fault Refusal :=
  run t s (fun s =>
    let F := s.flash part
    if ch < F.channels.length && ce < F.ces && lun < F.luns then (s.retireLun part ch ce lun).emptyGroups part else s)

/-- An object-table sector whose records are all free or removed, one at least removed, is erased (R275). -/
def execObjectSectorErase (t : Nat) (sector : Nat) (s : State) : Host.Outcome State Fault Refusal :=
  run t s (fun s =>
    let mine := s.storeNv.objects.filter (fun e => e.1 / 4096 == sector)
    if mine.isEmpty || 256 ≤ sector || mine.any (fun e => !e.2.removed) then s
    else
      let s := s.settleErase
      if !s.nvIdle then s
      else ({ s with storeNv := { s.storeNv with objects := s.storeNv.objects.filter (fun e => e.1 / 4096 != sector) } } : State).beginErase (944 + sector) 1)

end Sys2Proof.Machine
end

