-- ==== Sys2Proof/Machine/Jtag.lean ====
section
/-! DEFINITION. The instructions of the test access port (R707-R710). UNLOCK and CHALLENGE are DEBUG_UNLOCK and DEBUG_CHALLENGE from port 3. -/
namespace Sys2Proof.Machine
open Sys2Proof

def State.modTap (s : State) (f : Tap → Tap) : State := s.modSvc (fun v => { v with tap := f v.tap })

/-- Whether pin instructions are taken (R709). -/
def State.pinsFree (s : State) : Bool := s.pkg == .cold || s.allService

/-- An instruction that leaves the pins to the device, with the data register that it selects. -/
def State.tapRead (s : State) (instr : Nat) (dr : List Byte) : State := s.modTap (fun p => { p with instr := instr, pins := .system, dr := dr })

/-- A pin instruction: taken, or acting as BYPASS with STATUS bit 6 (R709). -/
def State.pinInstr (s : State) (instr : Nat) (pins : TapPins) (dr : List Byte) : State :=
  if s.pinsFree then s.modTap (fun p => { p with instr := instr, pins := pins, refused := false, dr := dr })
  else s.modTap (fun p => { p with instr := 0xFF, pins := .system, refused := true, dr := [0] })

/-- IDCODE (R708). -/
def State.idcode (s : State) : Nat := s.hw.revision % 16 * 2 ^ 28 + memberDeviceId s.hw.member * 2 ^ 12 + 0x2C7 * 2 + 1

/-- The STATUS register (R707). -/
def State.tapStatus (s : State) : Nat :=
  s.ropLevel % 4 + 4 * ((if s.ropLevel == 0 then [0, 1, 2, 3] else s.sec.scopes).foldl (fun m i => m ||| 2 ^ i) 0) + 64 * b2n s.svc.tap.refused + 128 * b2n s.svc.tap.unlockOk

def execExtest (t : Nat) (s : State) : Host.Outcome State Fault Refusal := run t s (fun s => s.pinInstr 0x00 .extest [])
def execIdcode (t : Nat) (s : State) : Host.Outcome State Fault Refusal := run t s (fun s => s.tapRead 0x01 (natLE 4 s.idcode))
/-- SAMPLE/PRELOAD: the boundary register takes what its cells see, the service pins' and the controller dies'; in COLD the dies' cells capture 0 (R709). -/
def execSamplePreload (t : Nat) (cells : PinSample) (s : State) : Host.Outcome State Fault Refusal :=
  run t s (fun s => (s.tapRead 0x02 []).modTap (fun p => { p with boundary := cells.service ++ (if s.pkg == .cold then cells.dies.map (fun _ => false) else cells.dies) }))
def execClamp (t : Nat) (s : State) : Host.Outcome State Fault Refusal := run t s (fun s => s.pinInstr 0x03 .clamp [0])
def execHighz (t : Nat) (s : State) : Host.Outcome State Fault Refusal := run t s (fun s => s.pinInstr 0x04 .highz [0])
def execExtestPulse (t : Nat) (s : State) : Host.Outcome State Fault Refusal := run t s (fun s => s.pinInstr 0x09 .pulse [])
def execExtestTrain (t : Nat) (s : State) : Host.Outcome State Fault Refusal := run t s (fun s => s.pinInstr 0x0A .train [])
def execJtagStatus (t : Nat) (s : State) : Host.Outcome State Fault Refusal := run t s (fun s => s.tapRead 0x22 (natLE 4 s.tapStatus))
def execTmuxSel (t : Nat) (v : BitVec 8) (s : State) : Host.Outcome State Fault Refusal :=
  run t s (fun s => (s.selectTmux 0 v.toNat).tapRead 0x23 [v])

/-- Access to a debug scope where it is open; at ROP0 the first use opens it, with its effect on every die (R611, R675). A scope that is not open acts as BYPASS. -/
def execJtagDebug (t : Nat) (scope : BitVec 2) (s : State) : Host.Outcome State Fault Refusal :=
  run t s (fun s =>
    let n := scope.toNat
    let all := 2 ^ s.dieCount - 1
    if s.sec.scopes.contains n then s.tapRead (0x30 + n) []
    else if s.ropLevel == 0 && s.scopesMayOpen (2 ^ n) all then
      (s.openScopes ((s.sec.scopes.foldl (fun m i => m ||| 2 ^ i) 0) ||| 2 ^ n) all s.sec.scopeExpiry).tapRead (0x30 + n) []
    else s.tapRead 0xFF [0])

/-- Codes that R707 lists. -/
def tapKnown (c : Nat) : Bool := [0x00, 0x01, 0x02, 0x03, 0x04, 0x09, 0x0A, 0x20, 0x21, 0x22, 0x23, 0x30, 0x31, 0x32, 0x33].contains c

def execBypass (t : Nat) (code : BitVec 8) (s : State) : Host.Outcome State Fault Refusal :=
  run t s (fun s => if tapKnown code.toNat then s else s.tapRead 0xFF [0])

end Sys2Proof.Machine
end

