-- ==== Sys2Proof/Machine/Modes.lean ====
section
/-! DEFINITION. The family of drains, restores and modes (09, 13): the budget, tracked pages and checkpoints, the supply pins, drains, RESTORE, halts,
restarts after cooling and the power-down. -/
namespace Sys2Proof.Machine
open Sys2Proof

/-- B and every partition's parts are computed anew (R357); pages that come free go to waiting CLEAR_LOST commands first (R147, R225). -/
def execBudgetRecompute (t : Nat) (s : State) : Host.Outcome State Fault Refusal := run t s (fun s => s.partIds.foldl (fun s p => s.clearLosts p) s.recompute)

/-! ### Tracked pages and checkpoints (R371-R377) -/

/-- A changed tracked page is written to the checkpoint log, and its charge released (R372, R373). -/
def execTrackedPageWrite (t : Nat) (part table index : Nat) (s : State) : Host.Outcome State Fault Refusal :=
  run t s (fun s => if s.mayProgram part && 3 ≤ table then s.writeTracked part table index else s)

/-- CKPT_PERIOD or REPLAY_LIMIT is reached: a checkpoint starts (R374). -/
def execCheckpoint (t : Nat) (part : Nat) (s : State) : Host.Outcome State Fault Refusal :=
  run t s (fun s =>
    let c := (s.store part).ckpt
    if due s c.startAt (s.ckptPeriod part) || s.replayLimit part ≤ (s.flash part).seq - c.seqStart then s.startCheckpoint part else s)

/-- A checkpoint's pages are written and its footer is programmed (R375, R377). -/
def execCheckpointFooter (t : Nat) (part : Nat) (s : State) : Host.Outcome State Fault Refusal :=
  run t s (fun s => if s.mayProgram part && (s.store part).ckpt.running then (s.writeFooter part).tryApply else s)

/-! ### The supply pins (R359-R363, R516, R528, R640) -/

/-- PWR_FAIL_N has been asserted for 2 µs: its record and IBI in every mode, drains and halts with cause POWER (R360, R528, R705). -/
def execPwrFailNAssert (t : Nat) (s : State) : Host.Outcome State Fault Refusal :=
  timerSvc t s [.powerGood] (fun s =>
    if s.svc.pins.pwrFail then s
    else
      let s := s.modPins (fun p => { p with pwrFail := true, pwrFailSince := s.now })
      let s := (s.log .pwrFailEdge srcSvc (values [1])).ibi 4
      let s := if s.pkg == .on then s.int .pwrFail else s
      (s.crossSequence .power).triggerAll .power)

/-- PWR_FAIL_N deasserts: no mode changes (R516). -/
def execPwrFailNDeassert (t : Nat) (s : State) : Host.Outcome State Fault Refusal :=
  run t s (fun s =>
    if !s.svc.pins.pwrFail then s
    else ((s.modPins (fun p => { p with pwrFail := false, pwrFailSince := s.now })).log .pwrFailEdge srcSvc (values [0])).ibi 4)

/-- HOLDUP_OK changes level after its glitch filter (R640, R705). -/
def execHoldupOkEdge (t : Nat) (level : Bool) (s : State) : Host.Outcome State Fault Refusal :=
  run t s (fun s =>
    if s.svc.pins.holdupOk == level then s
    else ((s.modPins (fun p => { p with holdupOk := level, holdupSince := s.now })).log .holdupEdge srcSvc (values [b2n level])).ibi 4)

/-- HOLDUP_OK has been deasserted for 1 ms: drains with cause HOLDUP (R360, R528). -/
def execHoldupOkLoss (t : Nat) (s : State) : Host.Outcome State Fault Refusal :=
  timerSvc t s [.holdup true] (fun s =>
    if s.svc.pins.holdupOk || !dueSvc s s.svc.pins.holdupSince cMs then s
    else (if s.pkg == .on then s.int .holdup else s).triggerAll .holdup)

/-- HOLDUP_OK has been asserted for 100 ms without a break: exits from DRAIN by row 7 of R518, and from RESTORE (R359, R528). -/
def execHoldupOkHold (t : Nat) (s : State) : Host.Outcome State Fault Refusal :=
  timerSvc t s [.holdup false] (fun s =>
    if s.pkg != .on || !s.holdupHeld then s
    else s.partIds.foldl (fun s p => if s.mode p == .drain then s.leaveDrain p else s.exitRestore p) s)

/-- The emergency drain request of the sideband (R360, R528, R703). -/
def execBmcEmergencyDrain (t : Nat) (s : State) : Host.Outcome State Fault Refusal :=
  run t s (fun s => s.bmcDrain)

/-! ### Drains (R365-R370, R518) -/

/-- Steps 4 and 6 have ended: the set is taken (R368, R369), and the manifest and drain units follow (R370, R378). The tracked pages count as
written with DRAIN_DONE, or as far as a cut lets them (R364, R365). -/
def execDrainSet (t : Nat) (part : Nat) (s : State) : Host.Outcome State Fault Refusal :=
  run t s (fun s =>
    let D := (s.store part).drain
    let waits := (s.remote part).ops.any (fun o => o.writes && o.accepted.isSome)
    if s.pkg != .on || s.mode part != .drain || D.step != 2 || waits || !(s.flash part).wbs.isEmpty then s
    else
      let s := (s.drainFlagged part).foldl (fun s x => s.rebuildPage part x.1 x.2) s
      let set := s.drainSet part
      if set.any (fun x => ((s.store part).page x.1 x.2).held) then s
      else
      let s := ((s.drainRead part set).track part 6 0).modDrain part (fun D => { D with step := 9, set := set, setAt := some s.now, manifest := some (D.drainSeq, set) })
      let s := s.modCkpt part (fun c => { c with seq := c.seq + (manifestPages D.drainSeq set).length })
      let s := (chunks4 set).foldl (fun s l => s.drainUnit part l) s
      set.foldl (fun s x => s.modPage part x.1 x.2 (fun P => { P with rebuilt := false })) s)

/-- DRAIN_DONE is committed (R365 steps 9 to 11): its record with every recorded cause, a TARGET DRAIN completed, and the first row of R518 that
applies. -/
def execDrainDone (t : Nat) (part : Nat) (s : State) : Host.Outcome State Fault Refusal :=
  run t s (fun s =>
    let D := (s.store part).drain
    if s.pkg != .on || s.mode part != .drain || D.step != 9 then s
    else
      let s := s.writeAllTracked part
      let causes := (s.modeSt part).causes
      let s := s.modStore part (fun S => { S with
        flash := { S.flash with groups := S.flash.groups.map (fun g => (g.1, { g.2 with sbs := g.2.sbs.map (fun e => (e.1, e.2.closeRow S.flash.ppb)) })) },
        drain := { S.drain with step := 11, done := true, fact := .drainDone, lastCauses := causes.map Cause.code } })
      let s := s.log .drainDone (srcPart part) (values [causeMask causes])
      let s := match (s.modeSt part).pending with
        | some r => if r.target == 6 then s.endRequest part .ok else s
        | none => s
      let s := match (s.modeSt part).pending with
        | some r => if r.target == 6 then s.endRequest part .ok else s
        | none => s
      s.leaveDrain part)

/-! ### RESTORE (R379-R386, R510) -/

/-- RESTORE reads the flash back (R379-R384), but for the pages whose current copies consolidation cannot decode (R382). -/
def execRestore (t : Nat) (r : RestoreRead) (s : State) : Host.Outcome State Fault Refusal :=
  run t s (fun s =>
    if s.pkg == .on && s.mode r.part == .restore && s.live r.part && (s.store r.part).drain.rstep == 1 then s.restore r.part r.bad else s)

/-- RESTORE_TWIN_WAIT expires: what the twin has not given is lost (R385). -/
def execRestoreTwinWait (t : Nat) (part : Nat) (s : State) : Host.Outcome State Fault Refusal :=
  timer t s [.resyncEnd part] (fun s =>
    let D := (s.store part).drain
    match D.awaitSince with
    | none => s
    | some c =>
      if D.awaited.isEmpty || s.mode part != .restore || !s.live part || !due s c (s.twinWait part) then s
      else
        let s := s.log .restoreTwinTimeout (srcPart part) (values [D.awaited.length])
        let s := D.awaited.foldl (fun s x => (s.markLost part x.1 x.2 5).shortCount part x.1 0 0 1) s
        (s.modDrain part (fun D => { D with awaited := [] })).shortLog part)

/-- A RESTORE whose every condition is met enters SERVE or SOLO (R509, R510). -/
def execRestoreExit (t : Nat) (part : Nat) (s : State) : Host.Outcome State Fault Refusal := run t s (fun s => s.exitRestore part)

/-! ### Halts, restarts and the power-down (R511-R518, R664-R666) -/

/-- The last NAND program of a halted partition ends (R511, R512). -/
def execHaltComplete (t : Nat) (part : Nat) (s : State) : Host.Outcome State Fault Refusal :=
  run t s (fun s =>
    let m := s.modeSt part
    if !m.halted || m.haltComplete || !(s.flash part).wbs.isEmpty then s
    else (s.modMode part (fun m => { m with haltComplete := true })).leaveHalt part)

/-- Whether a partition waits for the restart-after-cooling conditions: row 6 of R518, or a halt with THERMAL alone (R512). -/
def State.awaitsCooling (s : State) (p : Nat) : Bool :=
  let m := s.modeSt p
  let has := s.hasCause p
  let drained := m.mode == .drain && (s.store p).drain.done && has .thermal && !(has .power || has .off || has .dieLost || has .metadataLost || has .bmc || has .command)
  let halted := m.halted && m.haltComplete && m.haltCauses == [.thermal] && !(has .power || has .off)
  s.pkg == .on && (drained || halted) && !m.restartRefused

/-- Every node of the scope has been below 80 °C for 60 s: an automatic restart, or the thermal lockout (R512, R518, R664-R666). -/
def execRestartAfterCooling (t : Nat) (part : Option Nat) (s : State) : Host.Outcome State Fault Refusal :=
  run t s (fun s =>
    match part with
    | none => if s.svc.seq.coldCritical then s.requestPower else s
    | some p =>
      if !s.awaitsCooling p || !s.cooled (some p) then s
      else
        match s.countRestart with
        | (true, s) => if s.mode p == .drain then s.enterRestore p .thermal else s.restartBuild p .thermal
        | (false, s) => (s.modMode p (fun m => { m with restartRefused := true })).leaveHalt p)

/-- Whether a partition is settled for power-down (R514). -/
def State.settledFor (s : State) (p : Nat) : Bool :=
  let m := s.modeSt p
  match m.mode with
  | .drain => (s.store p).drain.done
  | .build | .restore => m.halted && m.haltComplete
  | _ => false

/-- The package enters SEQUENCE toward COLD (R515, R631): every partition settled and some with a POWER or OFF cause. -/
def execPowerDown (t : Nat) (s : State) : Host.Outcome State Fault Refusal :=
  run t s (fun s =>
    let causes := (s.partIds.map (fun p => (s.modeSt p).causes.filter (fun c => c == .power || c == .off))).flatten.eraseDups
    if s.pkg != .on || causes.isEmpty || !s.partIds.all s.settledFor then s
    else
      let c : Cause := if causes.contains .power then .power else .off
      let s := s.partIds.foldl (fun s p => ((s.endRequest p .aborted).endRequest p .aborted).onPart p (fun P s =>
        s.modeRecord (srcPart p) p P.mode.mode.code 1 c P.mode.causes)) s
      let s := s.endRunning (fun _ => true) .aborted [] false
      let s : State := { s.leaveAll with pkg := .seqDown, pkgCauses := causes }
      let s := (s.modPins (fun p => { p with chainUpOut := false })).modSeq (fun q => { q with reversal := false, hardware := false, reverseDue := false })
      if s.seqFollow && causes == [.off] && !s.svc.pins.chainDnIn then s.setPhase .waitChainDn else s.disableNext)

end Sys2Proof.Machine
end

