-- ==== Sys2Proof/Machine/Power.lean ====
section
/-! DEFINITION. The power and thermal family (16): the power request, the sequencer, AVSBus, the thermal model and its limits, reference clocks. -/
namespace Sys2Proof.Machine
open Sys2Proof

/-! ### The power request (R620-R622) -/

/-- PWR_REQ is asserted; power counts as requested where R620 holds. -/
def execPowerRequest (t : Nat) (s : State) : Host.Outcome State Fault Refusal :=
  run t s (fun s =>
    let s := if s.svc.pins.pwrReq then s else s.modPins (fun p => { p with pwrReq := true, pwrReqSince := s.now })
    if s.svc.seq.retryAt.isSome then s else s.requestPower)

/-- PWR_REQ deasserted for 16 µs (R513, R621, R634): cause OFF. -/
def execPowerWithdraw (t : Nat) (s : State) : Host.Outcome State Fault Refusal :=
  run t s (fun s =>
    let s := (s.modPins (fun p => { p with pwrReq := false, pwrReqSince := if p.pwrReq then s.now else p.pwrReqSince })).modSeq
      (fun q => { q with retryAt := none, retries := if q.latched then q.retries else 0 })
    (s.crossSequence .off).triggerAll .off)

/-- PWR_REQ deasserted for 500 ms (R622, R661). -/
def execLatchClear (t : Nat) (s : State) : Host.Outcome State Fault Refusal :=
  run t s (fun s =>
    if s.svc.pins.pwrReq || !dueSvc s s.svc.pins.pwrReqSince (500 * cMs) then s
    else
      ((s.modSeq (fun q => { q with latched := false, retries := 0 })).modTherm (fun x => { x with lockout := false, restarts := [] })).modPins
        (fun p => { p with thermTrip := if s.svc.thermal.lockout then false else p.thermTrip }))

/-- The retry of R629: 1 s after the fault entered COLD, where R620 holds. -/
def execSeqRetry (t : Nat) (s : State) : Host.Outcome State Fault Refusal :=
  run t s (fun s =>
    match s.svc.seq.retryAt with
    | some c => if dueSvc s c cS then s.requestPower else s
    | none => s)

/-! ### The sequencer (R623-R638) -/

/-- CHAIN_UP_IN changes (R623 step 2). -/
def execChainUpIn (t : Nat) (level : Bool) (s : State) : Host.Outcome State Fault Refusal :=
  run t s (fun s =>
    let s := s.modPins (fun p => { p with chainUpIn := level })
    if level && s.seqPhase == .waitChainUp then s.afterStep (fun s => s.enableEntry 0) else s)

/-- CHAIN_DN_IN changes (R631 step 3). -/
def execChainDnIn (t : Nat) (level : Bool) (s : State) : Host.Outcome State Fault Refusal :=
  run t s (fun s =>
    let s := s.modPins (fun p => { p with chainDnIn := level })
    if level && s.seqPhase == .waitChainDn then s.disableNext else s)

/-- A chain pin has not come in its time: recorded, and the sequence continues (R625, R638). -/
def execChainTimeout (t : Nat) (s : State) : Host.Outcome State Fault Refusal :=
  timerSvc t s [.chain] (fun s =>
    let up := match s.svc.seqTable with | some x => x.upTimeout | none => 0
    let dn := match s.svc.seqTable with | some x => x.dnTimeout | none => 0
    match s.seqPhase with
    | .waitChainUp => if dueSvc s s.svc.seq.since (up * cMs) then (s.log .chainTimeout srcSvc (values [])).afterStep (fun s => s.enableEntry 0) else s
    | .waitChainDn => if dueSvc s s.svc.seq.since (dn * cMs) then (s.log .chainTimeout srcSvc (values [])).disableNext else s
    | _ => s)

/-- Adds an AVS rail once its power-good has come: frames may be sent (R642). -/
def State.avsBegin (s : State) (e : SeqEntry) : State :=
  match e.avs with
  | some r => s.modSvc (fun v => { v with avs := aset v.avs r { mv := e.nominalMv, ma := 0, lastGood := s.now, lost := false, faultSeen := false } })
  | none => s

/-- A PG input debounced asserted, with the raw transitions counted in the running step and the sense reading (R619, R626-R628, R635). -/
def execSeqPgAssert (t : Nat) (entry raw sns : Nat) (s : State) : Host.Outcome State Fault Refusal :=
  run t s (fun s =>
    let chatters := s.modSeq (fun q => { q with raw := aset q.raw entry raw })
    match s.seqPhase with
    | .waitPg i =>
      if 8 < raw && s.svc.seq.enabled.contains entry then chatters.stepFails i .chatter
      else if i != entry then s
      else
        match s.seqEntry i with
        | none => s
        | some e =>
          if e.sns.isSome && sns * 100 < e.nominalMv * 90 then s.stepFails i .lowRail
          else
            let s := (((s.seqStep i).avsBegin e).modSeq (fun q => { q with good := q.good ++ [i], sns := aset q.sns i sns }))
            s.afterStep (fun s => s.setPhase (.stepDelay i))
    | .stepDelay i => if 8 < raw && s.svc.seq.enabled.contains entry then chatters.stepFails i .chatter else s
    | _ => s)

/-- PG_TIMEOUT expires without power-good (R629); a withdrawal that waited for it reverses without a fault (R634). -/
def execPgTimeout (t : Nat) (entry : Nat) (s : State) : Host.Outcome State Fault Refusal :=
  timerSvc t s [.powerOk entry] (fun s =>
    match s.seqEntry entry with
    | some e =>
      if s.seqPhase == .waitPg entry && dueSvc s s.svc.seq.since (e.pgTimeout * cMs) then s.afterStep (fun s => s.stepFails entry .timeout) else s
    | none => s)

/-- STEP_DELAY ends: the next entry, or step 6 with the core target begun at its nominal voltage (R623, R643). -/
def execStepDelayEnd (t : Nat) (entry : Nat) (s : State) : Host.Outcome State Fault Refusal :=
  run t s (fun s =>
    match s.seqEntry entry with
    | some e =>
      if s.seqPhase == .stepDelay entry && dueSvc s s.svc.seq.since (e.stepDelay * cUs) then
        s.afterStep (fun s =>
          if entry + 1 < s.seqEntries.length then s.enableEntry (entry + 1)
          else
            let core := match s.svc.seqTable with | some x => x.coreEntry | none => 0
            let mv := match s.seqEntry core with | some c => c.nominalMv | none => 0
            (s.setPhase .waitPll).modSvc (fun v => { v with coreTarget := mv, coreWriteAt := none }))
      else s
    | none => s)

/-- V_T (R643): 15 mV above the fused voltage while any die is in B0. -/
def State.vTarget (s : State) : Nat :=
  let anyB0 := (List.range s.dieCount).any (fun d => (agetD s.svc.thermal.dies d DieTherm.reset).band == 0)
  Config.vFuse + (if anyB0 then 15 else 0)

/-- One write of the core target (R643): at most 5 mV, at most one per 10 µs, not in DRAIN or SEQUENCE but for step 6 of the power-up. -/
def execAvsTargetWrite (t : Nat) (s : State) : Host.Outcome State Fault Refusal :=
  run t s (fun s =>
    let rail := match s.svc.seqTable with | some x => (match x.entries[x.coreEntry]? with | some e => e.avs | none => none) | none => none
    let free := match s.svc.coreWriteAt with | some c => dueSvc s c (10 * cUs) | none => true
    let allowed := s.seqPhase == .waitPll || (s.pkg == .on && s.partIds.all (fun p => s.mode p != .drain))
    match rail with
    | some r =>
      if !allowed || !free || s.svc.coreTarget == s.vTarget then s
      else
        let v := s.vTarget
        let c := s.svc.coreTarget
        let n := if c < v then min v (c + 5) else max v (c - 5)
        (s.modSvc (fun x => { x with coreTarget := n, coreWriteAt := some s.now })).send (.avsWrite r n)
    | none => s)

/-- Each die's starting generation, drawn from the random number generator, or 1 where that is stopped (R798). -/
def State.drawGens (s : State) : State :=
  (s.dies.map (·.1)).foldl (fun s d =>
    let r := s.draw
    let g := if s.sec.drbgStopped then 1 else r.1.toNat % 127 + 1
    (if s.sec.drbgStopped then s else r.2).modRd d (fun x => { x with startGen := g })) s

/-- Step 6 ends: the PLLs lock, the dies are released and CHAIN_UP_OUT is driven (R18, R623, R637, R798); or the clocks fail (R624, R781). -/
def execPllLock (t : Nat) (locked : Bool) (s : State) : Host.Outcome State Fault Refusal :=
  run t s (fun s =>
    if s.seqPhase != .waitPll then s
    else if locked && s.svc.pins.ethRefclk then
      let s := (s.seqStep 255).drawGens
      let s : State := { s with time := { TimeSt.reset with at_ := s.now } }
      (((s.modSeq (fun q => { q with pllLocked := true, portsAt := s.now })).modPins (fun p => { p with chainUpOut := true })).setPhase .loadFw)
    else if dueSvc s s.svc.seq.since (3 * cMs) then
      s.stepFails (match s.svc.seq.enabled.getLast? with | some e => e | none => 0) .clock
    else s)

/-- The phases in which every controller rail is up and none goes down (R630). -/
def SeqPhase.railsUp : SeqPhase → Bool
  | .waitPll | .loadFw | .checkImage | .up => true
  | _ => false

/-- A debounced PG deasserts with the rails up (R630): recorded, powered off with cause CRITICAL, counted as a fault. -/
def execRailFault (t : Nat) (entry : Nat) (s : State) : Host.Outcome State Fault Refusal :=
  run t s (fun s =>
    if !s.seqPhase.railsUp || !s.svc.seq.good.contains entry then s
    else
      let s := (s.log .railFault srcSvc (subject none 5 entry 0 0 [])).hardOff .critical
      let s := s.modSeq (fun q => { q with retries := q.retries + 1, retryAt := some s.now })
      if 4 ≤ s.svc.seq.retries then (s.modSeq (fun q => { q with latched := true, retryAt := none })).log .seqLatched srcSvc (values []) else s)

/-- The sense of a rail that goes down: below OFF_MV, or DISCHARGE expired (2 ms in a hardware power-off), with its record (R632, R633). -/
def execRailDischarge (t : Nat) (entry sns : Nat) (s : State) : Host.Outcome State Fault Refusal :=
  run t s (fun s =>
    if s.seqPhase != .discharge entry then s
    else
      match s.seqEntry entry with
      | none => s
      | some e =>
        let limit := if s.svc.seq.hardware then 2 else e.discharge
        let expired := dueSvc s s.svc.seq.since (limit * cMs)
        if e.sns.isNone then (if expired then s.disableNext else s)
        else if sns < e.offMv then s.disableNext
        else if expired then (s.log .railDischarge srcSvc (subject none 5 entry 0 0 [sns])).disableNext
        else s)

/-! ### AVSBus (R641-R645) -/

/-- NOMINAL_W of the entries without an AVS rail, in mW (R616, R644). -/
def State.fixedMw (s : State) : Nat := ((s.seqEntries.filter (fun e => e.avs.isNone)).map (fun e => e.nominalW * 100)).sum

/-- The package power (R644, R645). -/
def State.sumPower (s : State) : State :=
  let fixed := s.fixedMw
  let each_ (r : AvsRail) : Nat := if r.lost then memberMaxMw s.hw.member - fixed else r.mv * r.ma / 1000
  s.modSvc (fun v => { v with powerMw := (v.avs.map (fun e => each_ e.2)).sum + fixed })

/-- A rail is read (R644, R645). -/
def execAvsRead (t : Nat) (rail mv ma : Nat) (ok fault : Bool) (s : State) : Host.Outcome State Fault Refusal :=
  run t s (fun s =>
    match aget s.svc.avs rail with
    | none => s
    | some _ =>
      let s := if ok then
          s.modSvc (fun v => { v with avs := aupd v.avs rail (fun r => { r with mv := mv, ma := ma, lastGood := s.now, lost := false, faultSeen := fault }) })
        else s
      let s := if ok && fault then s.log .avsFault srcSvc (subject none 10 rail 0 0 []) else s
      s.sumPower)

/-- The reads of a rail have failed for 100 ms (R645). -/
def execAvsLost (t : Nat) (rail : Nat) (s : State) : Host.Outcome State Fault Refusal :=
  timerSvc t s [.avsRead rail] (fun s =>
    match aget s.svc.avs rail with
    | none => s
    | some r =>
      if r.lost || !dueSvc s r.lastGood (100 * cMs) then s
      else
        ((s.modSvc (fun v => { v with avs := aupd v.avs rail (fun r => { r with lost := true }) })).log .avsLost srcSvc (subject none 10 rail 0 0 [])).sumPower)

/-! ### The thermal model (R646-R657) -/

/-- A die's temperature: the largest θ among its nodes (R652). -/
def State.dieTemp (s : State) (d : Nat) : Option Rat :=
  ((s.svc.thermal.nodes.filter (fun e => s.nodeDie e.1 == some d)).map (fun e => s.theta e.1 e.2)).foldl
    (fun m x => match m with | some y => some (max y x) | none => some x) none

/-- Dies of the thermal model: the member's, and the service die. -/
def State.thermDies (s : State) : List Nat := List.range s.dieCount ++ [svcDie]

/-- Warning: interrupt, IBI, and one record per die per second (R657, R705). -/
def State.warn (s : State) (d : Nat) : State :=
  match aget s.svc.thermal.dies d with
  | none => s
  | some x =>
    if !x.warns then s
    else
      let s := (s.int .thermalWarn).ibi 3
      let ok := match x.warnLogAt with | some c => due s c cS | none => true
      if ok then
        (s.modTherm (fun y => { y with dies := aupd y.dies d (fun z => { z with warnLogAt := some s.now }) })).log .thermalWarn
          (if d < 64 then srcDie d else srcSvc) (values [])
      else s

/-- A severe condition fires (R660): the THERMAL trigger of the die's partition, of every partition for the service die, or a record only;
in SEQUENCE the up-sequence reverses (R528). -/
def State.fireSevere (s : State) (d : Nat) : State :=
  match aget s.svc.thermal.dies d with
  | none => s
  | some x =>
    if !x.severe || !x.severeArmed then s
    else
      let s := (s.modTherm (fun y => { y with dies := aupd y.dies d (fun z => { z with severeArmed := false }) })).ibi 3
      if s.pkg == .on then
        if d == svcDie then s.triggerAll .thermal
        else
          match s.partOfDie d with
          | some p => s.trigger .thermal p
          | none => s.log .thermalSevere (srcDie d) (values [])
      else s.crossSequence .thermal

/-- Whether a critical condition holds: a die's temperature at 118 °C or a raw diode reading at 120 °C (R657, R661). -/
def State.criticalNow (s : State) : Bool := s.svc.thermal.dies.any (fun e => e.2.critical) || s.svc.thermal.raw.any (fun e => decide (120 ≤ e.2))

/-- THERM_TRIP_N is released once the restart-after-cooling conditions hold (R661). -/
def State.releaseTrip (s : State) : State := if s.svc.pins.thermTrip && s.cooled none then s.modPins (fun p => { p with thermTrip := false }) else s

/-- One update of the thermal model (R648, R649, R652-R657, R660, R662): nodes, die temperatures, rises and bands, the engine's rate, the budget
on a band change, warnings and severe conditions; a severe condition decided with a critical one does not act. -/
def execThermalUpdate (t : Nat) (acts : List BlockPower) (s : State) : Host.Outcome State Fault Refusal :=
  run t s (fun s =>
    if !dueSvc s s.svc.thermal.lastUpdate s.thermPeriod then s
    else
      let scale := s.scaleNow acts s.nodesNow s.thermStep
      let next := s.nodesAfter acts
      let s := s.modTherm (fun x => { x with
        nodes := next, lastUpdate := s.now, scale := scale, scaleAt := if s.now < x.scaleAt + cMs then x.scaleAt else s.now })
      let s := s.modTherm (fun x => { x with nodes := x.nodes.map (fun e =>
        (e.1, { e.2 with below80Since := if s.theta e.1 e.2 < 80 then (match e.2.below80Since with | some c => some c | none => some s.now) else none })) })
      let s := s.releaseTrip
      let bands := s.svc.thermal.dies.map (fun e => (e.1, e.2.band))
      let s := s.thermDies.foldl (fun s d => match s.dieTemp d with
        | some temp => s.modTherm (fun x => { x with dies := amod x.dies d DieTherm.reset (fun y => y.update temp s.now),
                                                     svcTemp := if d == svcDie then temp else x.svcTemp })
        | none => s) s
      let hot := s.svc.thermal.dies.any (fun e => 94 ≤ e.2.temp || 5 / 2 < e.2.rise)
      let s := s.modTherm (fun x =>
        if hot then { x with fast := true, calmSince := none }
        else
          let since := match x.calmSince with | some c => c | none => s.now
          if x.fast && since + 250 * cMs ≤ s.now then { x with fast := false, calmSince := none }
          else { x with calmSince := if x.fast then some since else none })
      let s := if s.svc.thermal.dies.any (fun e => e.1 < 64 && agetD bands e.1 0 != e.2.band) then s.recompute else s
      let s := s.thermDies.foldl (fun s d => s.warn d) s
      if s.criticalNow then s else s.thermDies.foldl (fun s d => s.fireSevere d) s)

/-- A diode is read, in 1/16 °C; of a controller die only diode 0 is readable in COLD (R651). -/
def execDiodeRead (t : Nat) (diode : Nat) (temp : Int) (s : State) : Host.Outcome State Fault Refusal :=
  run t s (fun s =>
    let v : Rat := (temp : Rat) / 16
    if s.pkg == .cold && diode < 64 && diode % 8 != 0 then s
    else
    let s := s.modTherm (fun x => { x with raw := aset x.raw diode v })
    let mine (n : Nat) : Bool := (s.nodeCfg n).diode == some diode
    if v < -40 || 150 < v then
      let s := s.modTherm (fun x => { x with nodes := x.nodes.map (fun e => if mine e.1 then (e.1, { e.2 with diode := none, divergeSince := none }) else e) })
      if s.svc.thermal.diodeFaults.contains diode then s
      else
        (s.modTherm (fun x => { x with diodeFaults := x.diodeFaults ++ [diode] })).log .diodeFault
          (if diode < 64 then srcDie (diode / 8) else srcSvc) (subject (if diode < 64 then some (diode / 8) else none) 6 diode 0 0 [])
    else
      let s := s.modTherm (fun x => { x with diodeFaults := x.diodeFaults.filter (· != diode) })
      s.svc.thermal.nodes.foldl (fun s e =>
        if !mine e.1 then s
        else
          let d := v - e.2.temp
          let far := 8 < d || d < -8
          let since := match e.2.divergeSince with | some c => c | none => s.now
          if far && dueSvc s since cS then
            (s.modTherm (fun x => { x with nodes := aupd x.nodes e.1 (fun n => { n with diode := some v, temp := v, divergeSince := none }) })).log .modelDiverge
              (if diode < 64 then srcDie (diode / 8) else srcSvc) (subject (if diode < 64 then some (diode / 8) else none) 6 e.1 0 0 [])
          else
            s.modTherm (fun x => { x with nodes := aupd x.nodes e.1 (fun n => { n with diode := some v, divergeSince := if far then some since else none }) })) s |>.tempTriggers (diode / 8))

/-- A private write to SB_AMBIENT (R650, R703). -/
def execAmbientWrite (t : Nat) (bytes : List Byte) (s : State) : Host.Outcome State Fault Refusal :=
  run t s (fun s => if bytes.length != 2 then s else s.setAmbient bytes)

/-- No ambient for 30 s (R650). -/
def execAmbientStale (t : Nat) (s : State) : Host.Outcome State Fault Refusal :=
  timerSvc t s [.ambient] (fun s =>
    if s.svc.thermal.stale || !dueSvc s s.svc.thermal.ambientAt (30 * cS) then s
    else (s.modTherm (fun x => { x with stale := true })).log .ambientStale srcSvc (values []))

/-- The throttle level after a tick (R658). -/
def throttleNext (level : Nat) (temp : Rat) : Nat := if 100 ≤ temp then min 7 (level + 1) else if temp ≤ 97 then level - 1 else level

/-- The 10 ms tick of every die's throttle level (R658). -/
def execThrottleTick (t : Nat) (s : State) : Host.Outcome State Fault Refusal :=
  run t s (fun s =>
    if !dueSvc s s.svc.thermal.throttleAt (10 * cMs) then s
    else s.modTherm (fun x =>
      { x with throttleAt := s.now, dies := x.dies.map (fun e => if e.1 < 64 then (e.1, { e.2 with throttle := throttleNext e.2.throttle e.2.temp }) else e) }))

/-- A critical condition (R517, R657, R661, R662), where a die's temperature or a raw diode reading has reached its limit: THERM_TRIP_N driven, the package off in hardware;
in COLD nothing else, with its record. -/
def execCriticalTrip (t : Nat) (s : State) : Host.Outcome State Fault Refusal :=
  run t s (fun s =>
    if !s.criticalNow then s
    else
    let s := ((s.log .criticalOff srcSvc (values [])).modPins (fun p => { p with thermTrip := true })).ibi 3
    s.hardOff .critical)

/-! ### Reference clocks (R782) -/

/-- ETH_REFCLK is lost: with the rails up, the PLLs hold and every Ethernet port goes down. -/
def execRefclkLoss (t : Nat) (s : State) : Host.Outcome State Fault Refusal :=
  run t s (fun s =>
    let s := s.modPins (fun p => { p with ethRefclk := false, ethRefclkLostAt := some s.now })
    if s.seqPhase.railsUp then s.allLinksDown else s)

/-- ETH_REFCLK is back: the PLLs relock without a step in fabric time; the ports train on their own (R270, R782). -/
def execRefclkRecover (t : Nat) (s : State) : Host.Outcome State Fault Refusal :=
  run t s (fun s => s.modPins (fun p => { p with ethRefclk := true, ethRefclkLostAt := none }))

end Sys2Proof.Machine
end

