-- ==== Sys2Proof/Machine/Service.lean ====
section
/-! DEFINITION. The service die's own events (R579-R581, R590, R593, R603, R615, R679-R699): boot, watchdog, stewards, brown-out, the logbook's housekeeping, the
rekey sweep. -/
namespace Sys2Proof.Machine
open Sys2Proof

/-- The standby rails come up (R603). On a service die that runs, they have collapsed before. -/
def execBoot (t : Nat) (s : State) : Host.Outcome State Fault Refusal := run t s (fun s => (if s.svc.booted then s.standbyLost else s).boot)

/-! ### The watchdog (R696, R697, R699) -/

/-- Whether service firmware runs. -/
def Service.runs (v : Service) : Bool := v.booted && v.fwStatus != 1

def execWatchdogRestart (t : Nat) (s : State) : Host.Outcome State Fault Refusal :=
  run t s (fun s => if s.svc.runs then s.modSvc (fun v => { v with watchdog := { lastRestart := s.now, recovery := false } }) else s)

/-- 1 s without a restart: the recovery interrupt (R696). -/
def execWatchdogRecovery (t : Nat) (s : State) : Host.Outcome State Fault Refusal :=
  timerSvc t s [.kick] (fun s => if s.svc.runs && dueSvc s s.svc.watchdog.lastRestart cS then s.modSvc (fun v => { v with watchdog := { v.watchdog with recovery := true } }) else s)

/-- A reset by the watchdog counts against a copy without BOOT_OK; the third marks it FAILED (R699). -/
def FwCopy.afterReset (c : FwCopy) : FwCopy := if c.bootOk then c else { c with resets := c.resets + 1, failed := c.failed || decide (3 ≤ c.resets + 1) }

/-- The running service copy has been reset (R699). -/
def State.countFwReset (s : State) : State :=
  let k := s.svc.runningSvc
  let was := match s.svc.nv.svcFw[k]? with | some c => c.failed | none => true
  let s := s.modNv (fun n => { n with svcFw := modNth n.svcFw k FwCopy.afterReset })
  let is := match s.svc.nv.svcFw[k]? with | some c => c.failed | none => true
  if is && !was then s.log .fwFallback srcSvc (values [0, k]) else s

/-- The power-up ends by watchdog reset (R556): the third in a row before every partition has left BUILD fails the image copy in use. -/
def State.countBadPowerUp (s : State) (copy : Option Nat) (n : Nat) : State :=
  s.modImage (fun i => { i with badPowerUps := if n % 3 == 0 then 0 else n,
                                copies := if n % 3 == 0 then (match copy with | some k => modNth i.copies k (fun c => { c with failed := true }) | none => i.copies) else i.copies })

/-- 1.5 s without a restart (R696, R697): once no NV-store operation is under way the service die is reset, and with the rails up the package is powered off in
hardware (R517). -/
def execWatchdogReset (t : Nat) (s : State) : Host.Outcome State Fault Refusal :=
  timerSvc t s [.kick] (fun s =>
    let s := s.settleErase
    if !s.svc.runs || !dueSvc s s.svc.watchdog.lastRestart (1500 * cMs) || (s.svc.nv.erasing.isSome && !s.svc.nv.eraseStopped) then s
    else
      let counts := (s.pkg == .on && !s.image.buildLeft) || s.pkg == .seqUp
      let n := s.image.badPowerUps + 1
      let copy := match s.image.inUse with | some k => some k | none => s.image.order.head?
      let s := s.countFwReset.hardOff .off
      let s := if counts then s.countBadPowerUp copy n else s
      s.svcReset.modNv (fun n => { n with watchdogDue := true }))

/-- A firmware copy has run for 60 s without watchdog expiry (R605, R699). -/
def execBootOk (t : Nat) (target : Nat) (s : State) : Host.Outcome State Fault Refusal :=
  run t s (fun s =>
    let k := if target == 0 then s.svc.runningSvc else s.svc.runningStew
    let started := if target == 0 then (if s.svc.runs then some s.svc.bootAt else none) else (if s.seqPhase == .up && s.pkg == .on then some s.svc.seq.since else none)
    match started, (if target == 0 then s.svc.nv.svcFw else s.svc.nv.stewFw)[k]? with
    | some c, some f =>
      if !due s c (60 * cS) || f.bootOk || 1 < target then s
      else
        let mark (l : List FwCopy) : List FwCopy := modNth l k (fun f => { f with bootOk := true, raiseFloor := false })
        let s := s.modNv (fun n => if target == 0 then { n with svcFw := mark n.svcFw } else { n with stewFw := mark n.stewFw })
        if f.raiseFloor then (s.addAnchor (3 + target) f.seq).addAnchor 2 (s.anchor 2 ||| leAt f.bytes 6 1 % 16) else s
    | _, _ => s)

/-! ### Stewards (R21, R698) -/

/-- What the reset of a steward does to its duties (R698): steward 1's CM exchanges restart under R100, from the REP sent. -/
def State.stewardDuties (s : State) (d st : Nat) : State :=
  if st == 0 then
    match s.partOfDie d with
    | some p => if s.homeDie p == d then s.endRunning (fun l => LongOp.abortsOn p l || LongOp.completesOn p l) .aborted [] false else s
    | none => s
  else if st == 1 then
    (s.rd d).qps.foldl (fun s e => if e.2.state == .connecting && e.2.repAt.isSome then s.modQp e.2.qpn (fun c => { c with repAt := some s.now, repResends := 0 }) else s) s
  else if st == 2 then { s with phys := s.phys.map (fun e => if PhyId.die e.1 == d then (e.1, { e.2 with running := false }) else e) }
  else s

/-- A steward has missed 100 ms of heartbeats (R698): its third reset within 10 minutes loses the die. -/
def execStewardReset (t : Nat) (die st : Nat) (s : State) : Host.Outcome State Fault Refusal :=
  run t s (fun s =>
    match s.die? die with
    | none => s
    | some D =>
      if s.pkg == .cold || D.lost || 4 ≤ st then s
      else
        let recent := (match aget s.svc.stewards (die, st) with | some x => x.resets.filter (fun c => decide (s.now < c + 600 * cS)) | none => []) ++ [s.now]
        let s := s.modSvc (fun v => { v with stewards := aset v.stewards (die, st) { resets := recent } })
        let s := (s.log .stewardReset (srcDie die) (subject (some die) 7 st 0 0 [])).stewardDuties die st
        if 3 ≤ recent.length then s.dieLost die 2 .stewardFail else s)

/-! ### Brown-out (R679, R680) -/

/-- The detector trips: no pulse begins, and an erase under way stops at its pulse boundary. -/
def execBrownOut (t : Nat) (s : State) : Host.Outcome State Fault Refusal :=
  run t s (fun s =>
    let s := s.settleErase
    if s.svc.brownOut then s
    else (s.modSvc (fun v => { v with brownOut := true })).modNv (fun n => { n with eraseStopped := n.erasing.isSome }))

/-- The detector releases: a stopped erase restarts, BROWN_OUT is recorded. -/
def execBrownOutRelease (t : Nat) (s : State) : Host.Outcome State Fault Refusal :=
  run t s (fun s =>
    if !s.svc.brownOut then s
    else
      let s := (s.modSvc (fun v => { v with brownOut := false })).log .brownOut srcSvc (values [])
      if s.svc.nv.eraseStopped then s.recoverErases else s)

/-! ### The logbook (R685, R691-R694) -/

/-- LOG_SUPPRESSED of one CODE and SOURCE, or its AE-6404 form under LOG_COMPAT (R691, R692). Summaries have no limit (R689, R690). -/
def State.logSuppressedOne (s : State) (c : LogCode) (src : LogSrc) (x : Suppressed) : State :=
  let seq := s.svc.log.seq + 1
  let base : LogRec := { code := .logSuppressed, permanent := false, summary := true, uptime := !s.time.everLocked, overflow := false, src := srcSvc, rep := 0, seq := seq,
                         time := logTime s, payload := [], sector := none }
  if logCompat s then logRolling s { base with code := c, src := src, rep := min 65535 x.count, payload := x.lastPayload }
  else logRolling s { base with payload := natLE 2 c.code ++ natLE 2 src.code ++ natLE 4 x.count ++ natLE 8 x.first ++ natLE 8 x.last }

/-- The end of a second in which events were suppressed (R691). -/
def execLogSuppressed (t : Nat) (s : State) : Host.Outcome State Fault Refusal :=
  run t s (fun s =>
    let l := s.svc.log.suppressed.filter (fun e => decide (e.2.first / 1000000000 < logTime s / 1000000000))
    let s := s.modLog (fun g => { g with suppressed := g.suppressed.filter (fun e => !decide (e.2.first / 1000000000 < logTime s / 1000000000)) })
    l.foldl (fun s e => s.logSuppressedOne e.1.1 e.1.2 e.2) s)

/-- Every hour of fabric time (R693). -/
def execLogSummary (t : Nat) (s : State) : Host.Outcome State Fault Refusal :=
  run t s (fun s =>
    let hour := fab s / 3600000000000
    if !s.time.everLocked || hour ≤ s.svc.log.summaryAt then s
    else
      let l := s.svc.log
      let head := match (l.recs.filter (fun r => !r.permanent)).getLast? with | some r => r.seq | none => 0
      let s := s.modLog (fun l => { l with summaryAt := hour })
      logRolling s { code := .logSummary, permanent := false, summary := true, uptime := false, overflow := false, src := srcSvc, rep := 0, seq := l.seq + 1, time := logTime s,
                     payload := natLE 8 l.written ++ natLE 8 l.suppressedTotal ++ natLE 8 l.dropped ++ natLE 8 head ++ natLE 8 (permBytes - l.permUsed), sector := none })

/-- The head sector is half full: the next one is erased under the journal, unless the logbook is frozen, or a LOG_FREEZE of the same service-die
cycle freezes it first (R681, R685, R694). -/
def execLogSectorErase (t : Nat) (s : State) : Host.Outcome State Fault Refusal :=
  run t s (fun s =>
    let s := s.settleErase
    let l := s.svc.log
    if logFrozen s || s.soonerSvc .freeze || l.nextErased || l.headUsed < 32768 || !s.nvIdle then s
    else
      let n := (l.head + 1) % 448
      (s.modLog (fun l => { l with nextErased := true, recs := l.recs.filter (fun r => r.sector != some n) })).beginErase (1632 + n) 2)

/-! ### Entropy, refusals, debug scopes -/

/-- A health test fails (R593). -/
def execEntropyFail (t : Nat) (s : State) : Host.Outcome State Fault Refusal :=
  run t s (fun s => if s.sec.drbgStopped then s else ((s.modSec (fun x => { x with drbgStopped := true })).log .entropyFail srcSvc (values [])).int .entropyFail)

/-- A burst of UNWRAP failures, or the end of the refusal that it began (R590). -/
def execUnwrapBurst (t : Nat) (s : State) : Host.Outcome State Fault Refusal := run t s (fun s => s.burstCheck)

/-- The opened scopes reach their EXPIRY; a DEBUG_UNLOCK of the same service-die cycle is decided first (R615). -/
def execDebugExpiry (t : Nat) (s : State) : Host.Outcome State Fault Refusal :=
  timerSvc t s [.unlock] (fun s =>
    match s.sec.scopeExpiry with
    | some e => if e ≤ fab s then s.closeScopes else s
    | none => s)

/-! ### The rekey sweep (R579-R581) -/

/-- Whether a brick is on the new half at every page. -/
def Brick.onHalf (B : Brick) (h : Nat) : Bool := B.keyHalf == h && B.cursor == 512

/-- Bricks that a sweep has still to bring to the new half: they hold a VALID page (R579). -/
def State.sweepLeft (s : State) (p tenant h : Nat) : List Nat :=
  ((s.store p).bricks.filter (fun e => e.2.tenant == tenant && e.2.valid != 0 && !e.2.onHalf h)).map (·.1)

/-- The lowest of those that this twin sweeps itself (R580). -/
def State.sweepNext (s : State) (p : Nat) (l : List Nat) : Option Nat :=
  let T := s.twin p
  (l.filter (fun b => !(T.paired && !T.lead) || !(match (s.store p).brick? b with | some B => B.mirror | none => false))).foldl
    (fun m b => match m with | some x => some (min x b) | none => some b) none

/-- A page's stored form under the new key: deciphered under the old half and enciphered under the new (R579). -/
def State.rekeyed (s : State) (p b g : Nat) (old new : List Byte) (m : Memory) : Memory :=
  (List.range 64).foldl (fun acc k =>
    Memory.writeN acc (64 * k) (s.toStored p b g k (some new) (s.toPlain p b g k (some old) (Memory.readN m (64 * k) 64)))) []

/-- The pages of a unit that the sweep re-enciphers: VALID, not listed, whole (R579). -/
def State.sweepPages (s : State) (p b u : Nat) : List Nat :=
  ((List.range 4).map (fun i => 4 * u + i)).filter (fun g => (s.store p).valid b g && !s.listed p b g && ((s.store p).page b g).poison == 0)

/-- The stored form of a page as it stands: its frame's if FILLED, else its flash copy's. -/
def State.standing (s : State) (p b g : Nat) : Memory :=
  if ((s.store p).page b g).filled then Memory.extract (s.store p).dram (pageAddr b g) 4096 else (s.flash p).pageData b g

/-- On a lead a re-enciphered page goes to the follower in the position of its ordering point (R580). -/
def State.sendRekeyed (s : State) (p b g : Nat) (m : Memory) : State :=
  if !(s.twin p).lead || !(s.twin p).mirrors || !(match (s.store p).brick? b with | some B => B.mirror | none => false) then s
  else
    let lines := (List.range 64).map (fun k => Memory.readN m (64 * k) 64)
    let r := s.replicaNumber p
    let e : ApplyEntry := { kind := .replica, second := false, cause := 0, epoch := epochNow s, id := r.1, psn := 0, page := pageAddr b g / 4096 }
    ((r.2.mirror p 2 (replBytes r.1 b g (BitVec.allOnes 64) lines)).foldDigest p e lines.flatten).entry p e

/-- Step 4 of a unit: the flash map and the cursor in one update, and what a write-back clears (R330, R579). -/
def State.endUnit (s : State) (p b u : Nat) : State :=
  let s := (s.modBrick p b (fun B => { B with cursor := 4 * u + 4 })).track p 3 (b / 512)
  let s := ((s.store p).dirtyIn b u).foldl (fun s g => s.pageWritten p b g) s
  ((s.meterUnit p b 10).shareCheck p).opCheck p

/-- One unit of the sweep, at a place that has been taken (R579). -/
def State.sweepUnit (s : State) (p b u h : Nat) (old new : List Byte) (pl : Nat × Nat × Loc × Nat) : State :=
  let gs := s.sweepPages p b u
  let news := gs.map (fun g => (g, s.rekeyed p b g old new (s.standing p b g)))
  let cws := (s.snapshot p b u pl.2.2.2).map (fun w => match aget news w.page with | some m => { w with data := m, keyHalf := h } | none => w)
  let s := news.foldl (fun s x => (if ((s.store p).page b x.1).filled then s.writePage p b x.1 x.2 else s).sendRekeyed p b x.1 x.2) s
  ((s.mapUnit p b u pl.2.2.1 cws).endUnit p b u)

/-- The sweep's end (R578, R581): the old half zeroised, the slot ACTIVE under the new one; on a pair the follower is told, and its confirmation awaited. -/
def State.endSweep (s : State) (p i : Nat) (w : Sweep) : State :=
  let s := (s.zeroKey i (some (1 - w.newHalf))).modSec (fun x => { x with slots := aupd x.slots i (fun k =>
    { k with state := .active, currentHalf := w.newHalf, half0 := if w.newHalf == 0 then k.half0 else [], half1 := if w.newHalf == 1 then k.half1 else [], sweep := none }) })
  let s := if w.silent then s.log .rekeyDone (srcPart p) (values [i]) else s
  if !(s.twin p).lead then s.endRunning (· == .rekey p i w.newHalf) .ok [] true
  else
    let r := s.shareTables p [] [] [(i, w.newHalf, true, (s.slot i).half w.newHalf)] []
    let s := r.2.2
    if r.1 == 0 then s.endRunning (· == .rekey p i w.newHalf) .ok [] true
    else { s with running := s.running.map (fun x => if x.op == .rekey p i w.newHalf then { x with op := .twinned p [] true, mseq := r.1 } else x) }

/-- One unit of a rekey sweep, or its end (R579-R581): in SERVE or SOLO. -/
def execRekeyUnit (t : Nat) (part slot : Nat) (s : State) : Host.Outcome State Fault Refusal :=
  run t s (fun s =>
    let k := s.slot slot
    match k.sweep with
    | none => s
    | some w =>
      if k.part != some part || k.state != .rekeying || !s.serving part || s.pkg != .on then s
      else
        let left := match k.tenant with | some n => s.sweepLeft part n w.newHalf | none => []
        if left.isEmpty then s.endSweep part slot w
        else
          match s.sweepNext part left with
          | none => s
          | some b =>
            match (s.store part).brick? b with
            | none => s
            | some B =>
              let s := if B.keyHalf == w.newHalf then s else (s.modBrick part b (fun B => { B with keyHalf := w.newHalf, cursor := 0 })).track part 3 (b / 512)
              let u := (if B.keyHalf == w.newHalf then B.cursor else 0) / 4
              let F := s.flash part
              let pages := (List.range 4).map (fun i => 4 * u + i)
              if F.inFlight b u || F.relocating b u || pages.any (fun g => ((s.store part).page b g).held) then s
              else if (s.sweepPages part b u).isEmpty then (s.modBrick part b (fun B => { B with cursor := 4 * u + 4 })).track part 3 (b / 512)
              else
                match s.takeProgram part .openWrite false none with
                | some (pl, s) => s.sweepUnit part b u w.newHalf (k.half (1 - w.newHalf)) (k.half w.newHalf) pl
                | none => s)

end Sys2Proof.Machine
end

