-- ==== Sys2Proof/Machine/Sideband.lean ====
section
/-! DEFINITION. The I3C sideband (R700-R706): private writes, the mailbox with its chunked firmware load, in-band interrupts and common command codes. -/
namespace Sys2Proof.Machine
open Sys2Proof

/-! ### Registers and mailbox (R701-R704) -/

/-- One byte of a private write to a register without behaviour of its own (R701, R702): DONE clears by writing 1, read-only bytes ignore the write. -/
def Sideband.writeByte (b : Sideband) (off : Nat) (v : Byte) : Sideband :=
  if off == 0x80 then { b with doneBit := b.doneBit && !v.getLsbD 2 }
  else if off == 0x84 then { b with opcode := b.opcode / 256 * 256 + v.toNat }
  else if off == 0x85 then { b with opcode := v.toNat * 256 + b.opcode % 256 }
  else if 0x88 ≤ off && off < 0xC0 then { b with params := b.params.set (off - 0x88) v }
  else if 0x1000 ≤ off && off < 0x2000 then { b with data := Memory.write b.data (off - 0x1000) v }
  else b

def Sideband.writeBytes (b : Sideband) (off : Nat) : List Byte → Sideband
  | [] => b
  | v :: vs => Sideband.writeBytes (b.writeByte off v) (off + 1) vs

/-- The mailbox's command in flight. -/
def mbxRef : CmdRef := { port := 2, tag := 0, irq := false }

/-- Opcodes that the mailbox accepts (R604, R695, R703). -/
def State.mbxTakes (s : State) (op : Nat) : Bool :=
  op == 0x310 || (s.svc.fwStatus != 1 && (op == 0x601 || op == 0x602 || op == 0x603 || op == 0x604))

/-- Fields of a mailbox command: FW_LOAD takes those of R704. -/
def mbxFields (op : Nat) : List Fld := if op == 0x310 then [.bits 32, .bits 32, .bits 2] else (cmdFields op).getD []

/-- GO (R703): ignored while BUSY; an opcode or a descriptor that cannot start ends at once. -/
def State.mailboxGo (s : State) : State :=
  let b := s.svc.sideband
  if !s.svc.booted || b.busy then s
  else
    let s := s.modSb (fun b => { b with busy := true, resultLen := 0 })
    if !s.mbxTakes b.opcode then s.finish mbxRef b.opcode .badOpcode
    else if !fieldsFit (fill 8 0 ++ b.params) (mbxFields b.opcode) 8 then s.finish mbxRef b.opcode .badField
    else s

def execMailboxGo (t : Nat) (s : State) : Host.Outcome State Fault Refusal := run t s (fun s => s.mailboxGo)

/-- The effects of a private write that covers a register with behaviour of its own (R703): SB_AMBIENT by both its bytes, SB_EMERGENCY by one write of its four, GO. -/
def State.sbEffects (s : State) (off : Nat) (bytes : List Byte) : State :=
  let covers (r n : Nat) : Bool := decide (off ≤ r) && decide (r + n ≤ off + bytes.length)
  let s := if covers 0x40 2 && s.svc.fwStatus != 1 then s.setAmbient (slice bytes (0x40 - off) 2) else s
  let s := if off == 0x44 && bytes.length == 4 && leNat bytes == 0x44524E31 then s.bmcDrain else s
  if covers 0x80 1 && bit (leAt bytes (0x80 - off) 1) 0 then s.mailboxGo else s

/-- A private write: of the offset alone, it sets the read pointer (R701). It takes no more than the largest write (R700). -/
def execSidebandWrite (t : Nat) (off : Nat) (bytes : List Byte) (s : State) : Host.Outcome State Fault Refusal :=
  run t s (fun s =>
    if !s.svc.booted then s
    else if bytes.isEmpty then s.modSb (fun b => { b with readPtr := off % 65536 })
    else
      let bytes := bytes.take (s.svc.sideband.mwl - 2)
      (s.modSb (fun b => b.writeBytes (off % 65536) bytes)).sbEffects (off % 65536) bytes)

/-- A chunk of a firmware load from MBX_DATA (R704). -/
def State.fwChunk (s : State) (off len : Nat) (raise last sigOk : Bool) : State :=
  let chunk := Memory.readN s.svc.sideband.data 0 len
  let target := leAt chunk 4 1
  let start : Option (FwLoad × State) :=
    if off == 0 then
      if 1 < target || (s.svc.fwStatus == 1 && target != 0) then none
      else some ({ target := target, copy := s.otherCopy target, bytes := chunk }, s.eraseCopy target)
    else
      match s.svc.sideband.fwLoad with
      | some l => if off == l.bytes.length then some ({ l with bytes := l.bytes ++ chunk }, s) else none
      | none => none
  match start with
  | none => (s.modSb (fun b => { b with fwLoad := none })).finish mbxRef 0x310 (if off == 0 then .badFirmware else .badField)
  | some (l, s) =>
    if !last then (s.modSb (fun b => { b with fwLoad := some l })).finish mbxRef 0x310 .ok
    else
      let s := s.modSb (fun b => { b with fwLoad := none })
      if s.fwOk { bytes := l.bytes, sigOk := sigOk } && leAt l.bytes 4 1 == l.target then (s.commitFw l.bytes raise).finish mbxRef 0x310 .ok
      else s.finish mbxRef 0x310 .badFirmware

/-- A sideband FW_LOAD that the mailbox has started (R704): flags are RAISE_FLOOR and LAST. -/
def execFwLoadChunk (t : Nat) (off len : BitVec 32) (flags : BitVec 2) (sigOk : Bool) (s : State) : Host.Outcome State Fault Refusal :=
  run t s (fun s =>
    if !s.svc.sideband.busy || s.svc.sideband.opcode != 0x310 then s
    else if len == 0 || 4096 < len.toNat then s.finish mbxRef 0x310 .badField
    else if !s.fwMode then s.finish mbxRef 0x310 .mode
    else s.fwChunk off.toNat len.toNat (flags.getLsbD 0) (flags.getLsbD 1) sigOk)

/-! ### In-band interrupts and common command codes (R700, R705) -/

/-- The lowest pending cause that has not been raised in the last 10 ms is raised; refused, it stays pending (R705). -/
def execIbi (t : Nat) (cause : BitVec 8) (accepted : Bool) (s : State) : Host.Outcome State Fault Refusal :=
  run t s (fun s =>
    let b := s.svc.sideband
    let c := cause.toNat
    let ready (n : Nat) : Bool := match aget b.ibiLast n with | some x => due s x (10 * cMs) | none => true
    if !b.ibiEnabled || b.dynAddr.isNone || !b.ibiPending.contains c || !ready c || b.ibiPending.any (fun n => decide (n < c) && ready n) || !accepted then s
    else (s.modSb (fun b => { b with ibiPending := b.ibiPending.filter (· != c), ibiLast := aset b.ibiLast c s.now })).send (.ibi c))

def execEntdaa (t : Nat) (addr : BitVec 7) (s : State) : Host.Outcome State Fault Refusal :=
  run t s (fun s => if s.svc.booted then s.modSb (fun b => if b.dynAddr.isNone then { b with dynAddr := some addr.toNat } else b) else s)

def execSetdasa (t : Nat) (addr : BitVec 7) (s : State) : Host.Outcome State Fault Refusal :=
  run t s (fun s => if s.svc.booted then s.modSb (fun b => if b.dynAddr.isNone then { b with dynAddr := some addr.toNat } else b) else s)

def execSetnewda (t : Nat) (addr : BitVec 7) (s : State) : Host.Outcome State Fault Refusal :=
  run t s (fun s => if s.svc.booted then s.modSb (fun b => if b.dynAddr.isSome then { b with dynAddr := some addr.toNat } else b) else s)

def execRstdaa (t : Nat) (s : State) : Host.Outcome State Fault Refusal :=
  run t s (fun s => if s.svc.booted then s.modSb (fun b => { b with dynAddr := none }) else s)

def execEnec (t : Nat) (s : State) : Host.Outcome State Fault Refusal :=
  run t s (fun s => if s.svc.booted then s.modSb (fun b => { b with ibiEnabled := true }) else s)

def execDisec (t : Nat) (s : State) : Host.Outcome State Fault Refusal :=
  run t s (fun s => if s.svc.booted then s.modSb (fun b => { b with ibiEnabled := false, ibiPending := [] }) else s)

/-- A common command code that reads: the target puts bytes on the bus. -/
def State.answerCcc (s : State) (bytes : List Byte) : State := if s.svc.booted then (s.modSb (fun b => { b with lastCcc := bytes })).send (.sideband bytes) else s

/-- The provisional ID (R700). -/
def provisionalId : Nat := 2 ^ 32 + Config.serial.toNat % 2 ^ 32

def execGetpid (t : Nat) (s : State) : Host.Outcome State Fault Refusal := run t s (fun s => s.answerCcc (natBE 6 provisionalId))
def execGetbcr (t : Nat) (s : State) : Host.Outcome State Fault Refusal := run t s (fun s => s.answerCcc [0x06])
def execGetdcr (t : Nat) (s : State) : Host.Outcome State Fault Refusal := run t s (fun s => s.answerCcc [0x00])
/-- The two status bytes of I3C: the manual gives no bits of its own, so the pending-interrupt field holds the lowest pending cause (log 59). -/
def execGetstatus (t : Nat) (s : State) : Host.Outcome State Fault Refusal :=
  run t s (fun s => s.answerCcc [0x00, BitVec.ofNat 8 (match s.svc.sideband.ibiPending with | [] => 0 | a :: l => l.foldl min a)])
def execGetmwl (t : Nat) (s : State) : Host.Outcome State Fault Refusal := run t s (fun s => s.answerCcc (natBE 2 s.svc.sideband.mwl))
def execGetmrl (t : Nat) (s : State) : Host.Outcome State Fault Refusal := run t s (fun s => s.answerCcc (natBE 2 s.svc.sideband.mrl))
def execSetmwl (t : Nat) (n : BitVec 16) (s : State) : Host.Outcome State Fault Refusal :=
  run t s (fun s => if s.svc.booted then s.modSb (fun b => { b with mwl := min n.toNat 4160 }) else s)
def execSetmrl (t : Nat) (n : BitVec 16) (s : State) : Host.Outcome State Fault Refusal :=
  run t s (fun s => if s.svc.booted then s.modSb (fun b => { b with mrl := min n.toNat 4160 }) else s)

/-- RSTACT resets the sideband interface; a reset of the whole target is acknowledged and ignored. -/
def execRstact (t : Nat) (whole : Bool) (s : State) : Host.Outcome State Fault Refusal :=
  run t s (fun s =>
    if whole || !s.svc.booted then s
    else s.modSb (fun b => { b with dynAddr := none, readPtr := 0, mwl := 4160, mrl := 4160, ibiEnabled := false, ibiPending := [] }))

end Sys2Proof.Machine
end

