-- ==== Sys2Proof/Machine/Tiers.lean ====
section
/-! DEFINITION. Tiers and hampers (07): flash reads, evictions and the release of frames, ages, hamper entries and direct windows, and the
hamper messages of hosts. -/
namespace Sys2Proof.Machine
open Sys2Proof

/-! ### A flash read completes (R278-R282, R341-R344) -/

/-- Whether a codeword's recovery calls for the unit's relocation (R342). -/
def deepRecovery : CwOutcome → Bool
  | .retried n _ => decide (4 ≤ n)
  | .soft _ => true
  | .xorRebuilt => true
  | _ => false

/-- The outcomes of a unit's codewords: on a LUN out of service the row's other members rebuild it, unless a second is unreadable (R344). -/
def Flash.outcomes (F : Flash) (l : Loc) (outs : List CwOutcome) : List CwOutcome :=
  if !F.locOut l then outs else List.replicate 4 (if F.rowWhole l then .xorRebuilt else .failed)

/-- What a read unit does to one of its pages (R205, R226, R278, R343). -/
def State.pageArrives (s : State) (p b g : Nat) (toFill : Bool) (out : CwOutcome) : State :=
  let P := (s.store p).page b g
  if !(s.store p).valid b g || s.listed p b g then s
  else if out == .failed then (s.uncorrectable p b g P.held)
  else if P.held && P.filled && s.cleanCopy p b g then
    (s.writePage p b g ((s.flash p).pageData b g)).modPage p b g (fun P => { P with held := false })
  else if toFill && (s.store p).resident b && !P.filled then s.writePage p b g ((s.flash p).pageData b g)
  else s

/-- Whether another unit that an entry fills on the same LUN goes first: the earlier deadline, ties to the lower hamper (R303). -/
def State.fillBehind (s : State) (p : Nat) (r : FRead) : Bool :=
  let rank (x : FRead) : Option (Nat × Nat) := x.hamper.bind (fun k => ((s.store p).entry? k.1 k.2).map (fun e => (if e.deadline == 0 then 2 ^ 64 else e.deadline, k.1)))
  let lun (x : FRead) : Option (Nat × Nat × Nat) := ((s.flash p).entry x.brick x.unit).map (fun e => (e.loc.ch, e.loc.ce, e.loc.lun))
  match rank r with
  | none => false
  | some a => (s.flash p).reads.any (fun x => x.waiting.isEmpty && lun x == lun r && (lun r).isSome &&
      (match rank x with | some b => decide (b.1 < a.1) || (b.1 == a.1 && decide (b.2 < a.2)) | none => false))

/-- A flash unit has been read and decoded (R278-R282, R341-R344). -/
def execFlashReadComplete (t : Nat) (part brick unit : Nat) (outs : List CwOutcome) (s : State) : Host.Outcome State Fault Refusal :=
  run t s (fun s =>
    match (s.flash part).reads.find? (fun r => r.brick == brick && r.unit == unit) with
    | none => s
    | some r =>
      let F := s.flash part
      if r.hamper.isSome && r.waiting.isEmpty && (match F.entry brick unit with | some e => F.ahead e.loc.onLun 3 false || s.fillBehind part r | none => false) then s
      else
      let s := s.modFlash part (fun F => { F with reads := F.reads.filter (fun r => !(r.brick == brick && r.unit == unit)) })
      let s := s.meterUnit part brick (if r.fill then 13 else 12)
      let loc? := (F.entry brick unit).map (·.loc)
      let outs := match loc? with | some l => F.outcomes l outs | none => List.replicate 4 (.ok 0)
      let deep := outs.any deepRecovery
      let s := match loc? with
        | some l => s.modFlash part (fun F => { F with
            readCounts := if deep then adel F.readCounts (l.ch, l.ce, l.lun, l.block) else abump F.readCounts (l.ch, l.ce, l.lun, l.block),
            urgent := if deep && !F.urgent.contains (brick, unit) then F.urgent ++ [(brick, unit)] else F.urgent })
        | none => s
      let s := (List.range 4).foldl (fun s i => s.pageArrives part brick (4 * unit + i) r.fill (outs.getD i (.ok 0))) s
      let s := r.waiting.foldl (fun s i => s.modOp part i (fun o =>
        if o.direct.contains (brick, unit) then o else { o with direct := o.direct ++ [(brick, unit)] })) s
      let s := if r.reload then (List.range 4).foldl (fun s i =>
        s.modStore part (fun S => { S with rebuilds := S.rebuilds.filter (· != (brick, 4 * unit + i)) })) s else s
      let s := (s.retryBrick part brick).settle part
      match r.hamper with
      | some (h, i) => s.fillEntry part h i
      | none => s)

/-! ### Evictions (R289-R297) -/

/-- LOW of a course (R290). -/
def Course.low (C : Course) : Nat := max 64 (ceilDiv C.frames 256)

/-- Whether a brick's tenant holds more than its POOL_LIMIT. -/
def State.overLimit (s : State) (p : Nat) (B : Brick) : Bool :=
  match s.poolLimit p B.tenant with | some l => decide (l < (s.store p).usage B.tenant) | none => false

/-- Bricks of a course that are being evicted. -/
def StoreP.evictingOn (S : StoreP) (c : Nat) : Nat :=
  (S.bricks.filter (fun e => e.2.evicting && (match e.2.res with | some (c', _) => c' == c | none => false))).length

/-- `n` evictions on a course, of tenants over their limit first (R290, R292). -/
def State.evictMany (s : State) (p c : Nat) : Nat → State
  | 0 => s
  | n + 1 =>
    match s.chooseVictim p c none (s.overLimit p) with
    | (some v, s) => (s.startEvict p v none).evictMany p c n
    | (none, s) =>
      match s.chooseVictim p c none with
      | (some v, s) => (s.startEvict p v none).evictMany p c n
      | (none, s) => s

/-- A course's free frames have fallen below LOW: evictions until it will have HIGH (R290). -/
def execLowMarkEviction (t : Nat) (part course : Nat) (s : State) : Host.Outcome State Fault Refusal :=
  run t s (fun s =>
    match aget (s.store part).courses course with
    | none => s
    | some C =>
      let free := (s.store part).freeCount course
      if C.low ≤ free || !s.live part || !s.serving part then s
      else s.evictMany part course (2 * C.low - free - (s.store part).evictingOn course))

/-- A brick chosen for eviction: its DIRTY pages are written back in page order (R293, R295). -/
def execEviction (t : Nat) (part brick : Nat) (s : State) : Host.Outcome State Fault Refusal :=
  run t s (fun s => match (s.store part).brick? brick with
    | some B => if B.evicting && s.live part then s.evictStep part brick else s
    | none => s)

/-- Whether every VALID page of a brick has a flash copy (R327); a page on the lost-page list has none to have (log 29). -/
def State.allMapped (s : State) (p b : Nat) (B : Brick) : Bool :=
  (List.range 512).all (fun g => !B.valid.getLsbD g || ((s.flash p).entry b (g / 4)).isSome || s.listed p b g)

/-- Bricks that a placement of this cycle, still in the queue, is about to access: it is decided first (R291, R296). -/
def State.soonAccessed (s : State) (p : Nat) : List Nat :=
  ((s.pending.takeWhile (fun c => decide (Instr.cycle c ≤ s.now))).filterMap (fun c => match c with
    | .placement _ q o => if q == p then (s.op? p o).map (fun o => o.spans.map (·.1)) else none
    | _ => none)).flatten

/-- Bricks that a hamper entry of this cycle, still in the queue, is about to pin (R296). -/
def State.soonPinned (s : State) (p : Nat) : List Nat :=
  ((s.pending.takeWhile (fun c => decide (Instr.cycle c ≤ s.now))).filterMap (fun c => match c with
    | .hamperEntryStart _ q h => if q == p then (aget (s.store p).hampers h).bind (fun x => (x.entries.find? (fun e => s.unpinned p e)).map s.entryBricks) else none
    | _ => none)).flatten

/-- The budget home releases a brick's frame: evicted, or FLASH_DIRECT, with no DIRTY page, nothing in flight for it and no placement that has
reached it, nor one that reaches it on this cycle (R277, R293-R296, R327). -/
def execFrameRelease (t : Nat) (part brick : Nat) (s : State) : Host.Outcome State Fault Refusal :=
  run t s (fun s =>
    let S := s.store part
    match S.brick? brick with
    | none => s
    | some B =>
      let wanted := B.evicting || (B.placement == 2 && !B.pin)
      let busy := S.flash.wbs.any (fun w => w.brick == brick && w.why != .relocate) ||
        (!B.evicting && ((s.remote part).ops.any (fun o => o.writes && o.accepted.isSome && o.spans.any (fun x => x.1 == brick)) ||
          S.flash.reads.any (fun r => r.brick == brick && r.fill)))
      if B.res.isNone || !wanted || busy || (s.soonAccessed part).contains brick || (s.soonPinned part).contains brick || !(S.dirtyPages brick).isEmpty || !s.allMapped part brick B || !s.live part then s
      else
        let s := (s.dropFrame part brick false).modStore part (fun S => { S with evictFor := S.evictFor.filter (fun x => some x != B.evictFor) })
        let s := ((s.retryFrames part).fillAll part).settle part
        let left := (s.store part).bricks.filter (fun e => e.2.object == B.object && e.2.res.isSome && !e.2.pin)
        if left.isEmpty then
          s.endRunning (fun l => match l with | .demote q o => q == part && o == B.object | _ => false) .ok [] true
        else s)

/-- R289: the better of two candidates whichever tenant holds them: higher AGE, fewer DIRTY pages, lower course, lower frame. -/
def StoreP.older (S : StoreP) (a b : Nat × Brick) : Bool :=
  let pos (x : Nat × Brick) : Nat × Nat := x.2.res.getD (0, 0)
  if a.2.age != b.2.age then decide (b.2.age < a.2.age)
  else if (S.dirtyPages a.1).length != (S.dirtyPages b.1).length then decide ((S.dirtyPages a.1).length < (S.dirtyPages b.1).length)
  else if (pos a).1 != (pos b).1 then decide ((pos a).1 < (pos b).1)
  else decide ((pos a).2 < (pos b).2)

/-- R289: candidates on a list of courses, or on every course. -/
def StoreP.candidate (S : StoreP) (courses : Option (List Nat)) : Option (Nat × Brick) :=
  (S.bricks.filter (fun e => !e.2.pin && e.2.placement != 1 && !e.2.evacuating && !e.2.evicting &&
    (match e.2.res with
     | some (c, _) => (match courses with | some l => l.contains c | none => true)
     | none => false))).foldl (fun best x => match best with
      | some y => if S.older x y then some x else some y
      | none => some x) none

/-- A write has waited 1 ms for a frame (R289): a brick of any tenant on an allowed course, else a frame of any course, else it waits on. -/
def execEvictionRetry (t : Nat) (part op : Nat) (s : State) : Host.Outcome State Fault Refusal :=
  run t s (fun s =>
    match aget (s.store part).frameWaits op with
    | some since =>
      let S := s.store part
      match s.waitBrick part op with
      | none => s
      | some b =>
        if !due s since cMs || !s.live part || S.evictingFor (S.tenantOf b) then s
        else
          let s := s.modStore part (fun S => { S with frameWaits := aset S.frameWaits op s.now })
          match (s.evictOn part (some (S.tenantOf b)) (s.allowedCourses part b)) with
          | (some _, s) => s
          | (none, s) =>
            match S.candidate (some (s.allowedCourses part b)) with
            | some v => (s.startEvict part v.1 (some (S.tenantOf b))).tcount part "RESERVE_BREACH" v.2.tenant
            | none =>
              match S.mostFree (S.courses.map (·.1)) with
              | some c =>
                (match S.freeFrame c with
                 | some f => ((s.giveFrame part b c f).retryFrames part).settle part
                 | none => s)
              | none =>
                match S.candidate none with
                | some v => (s.startEvict part v.1 (some (S.tenantOf b))).modBrick part b (fun B => { B with anyCourse := true })
                | none => s
    | none => s)

/-- Once per AGE_PERIOD the AGE of every resident brick rises by one, to 255 at most (R291). -/
def execAgingSweep (t : Nat) (part : Nat) (s : State) : Host.Outcome State Fault Refusal :=
  run t s (fun s =>
    if s.pkg != .on || !due s (s.store part).ageAt (s.field 15 0xFF 0 0 4 1000 * cMs) then s
    else s.modStore part (fun S => { S with ageAt := s.now, bricks := S.bricks.map (fun e =>
      if e.2.res.isSome && e.2.accessed != some s.now && !(s.soonAccessed part).contains e.1 then (e.1, { e.2 with age := min 255 (e.2.age + 1) }) else e) }))

/-! ### Hampers (R299-R308) -/

def execHamperEntryStart (t : Nat) (part hamper : Nat) (s : State) : Host.Outcome State Fault Refusal :=
  run t s (fun s => if s.live part && s.serving part then s.startEntry part hamper else s)

/-- Whether every page that an entry still lacks comes by flash reads that end on the deadline's own cycle: they are decided first (R49, R495). -/
def State.lastRead (s : State) (p : Nat) (e : Entry) : Bool :=
  match aget s.storeNv.objects e.object with
  | none => false
  | some o =>
    let missing := ((List.range e.pages).map (fun i => (o.first + (e.first + i) / 512, (e.first + i) % 512))).filter (fun x =>
      (s.store p).valid x.1 x.2 && !((s.store p).page x.1 x.2).filled)
    !missing.isEmpty && missing.all (fun x => s.sooner (.flashRead p x.1 (x.2 / 4)))

/-- An entry's deadline passes while it is not HELD (R305). -/
def execHamperDeadline (t : Nat) (part hamper entry : Nat) (s : State) : Host.Outcome State Fault Refusal :=
  run t s (fun s => match (s.store part).entry? hamper entry with
    | some e => if e.deadline != 0 && e.deadline ≤ fab s && !s.lastRead part e && (e.state == .queued || e.state == .filling) && s.serving part then s.deadline part hamper entry e else s
    | none => s)

/-- A die records a direct window (R306). -/
def execDirectWindowRecord (t : Nat) (die part hamper entry : Nat) (s : State) : Host.Outcome State Fault Refusal :=
  run t s (fun s => if !(s.partDies part).contains die then s
    else s.modStore part (fun S => { S with direct := S.direct.map (fun w =>
      if w.hamper == hamper && w.entry == entry && !w.dies.contains die then { w with dies := w.dies ++ [die] } else w) }))

/-- An ABANDONED entry's direct window reaches its end (R307). -/
def execDirectWindowClose (t : Nat) (part hamper entry : Nat) (s : State) : Host.Outcome State Fault Refusal :=
  timer t s [.cancel part hamper] (fun s => s.modStore part (fun S => { S with direct := S.direct.filter (fun w =>
    !(w.hamper == hamper && w.entry == entry && !s.sooner (.demote part w.object) && (match w.ends with | some e => decide (e ≤ fab s) | none => false))) }))

/-- A HELD entry's hold ends (R302). -/
def execHoldEnd (t : Nat) (part hamper entry : Nat) (s : State) : Host.Outcome State Fault Refusal :=
  timer t s [.cancel part hamper] (fun s => match (s.store part).entry? hamper entry with
    | some e => if s.sooner (.demote part e.object) then s else if e.state == .held && (match e.holdEnd with | some x => decide (x ≤ fab s) | none => false) then s.endHold part hamper entry else s
    | none => s)

/-! ### Hamper messages of hosts (R309-R312) -/

/-- The oldest message of a tenant and type that steward 0 has taken. -/
def State.takeWork (s : State) (p tenant : Nat) (pick : SvcWork → Bool) : Option (SvcWork × State) :=
  match (s.remote p).svcWork.findIdx? (fun w => w.tenant == tenant) with
  | none => none
  | some i =>
    match (s.remote p).svcWork[i]? with
    | some w => if pick w then some (w, s.modRemote p (fun r => { r with svcWork := r.svcWork.eraseIdx i })) else none
    | none => none

/-- An entry of a HAMPER_POST body, in network byte order (R309). -/
def hostEntry (b : List Byte) : HampEntry :=
  let w := beAt b 0 4
  { object := BitVec.ofNat 20 w, persistent := bit w 20, first := BitVec.ofNat 32 (beAt b 4 4), pages := BitVec.ofNat 32 (beAt b 8 4),
    deadline := BitVec.ofNat 64 (beAt b 12 8), holdMs := BitVec.ofNat 16 (beAt b 20 2), bad := bits w 31 21 != 0 || !allZero (slice b 22 2) }

/-- The entries of a body of `n` entries. -/
def hostEntries (b : List Byte) (n : Nat) : List HampEntry := (List.range n).map (fun i => hostEntry (slice b (8 + 24 * i) 24))

/-- The work of HAMPER_POST (R309, R310). A message whose type no hamper message has ends here with the status its envelope earned. -/
def execHostHamperPost (t : Nat) (part tenant : Nat) (s : State) : Host.Outcome State Fault Refusal :=
  run t s (fun s => match s.takeWork part tenant (fun w => w.typ != 2 && w.typ != 3) with
    | none => s
    | some (w, s) =>
      match w.early with
      | some st => s.queueStatus part w st []
      | none =>
        let n := beAt w.body 0 2
        let es := hostEntries w.body n
        let form := decide (1 ≤ n) && decide (n ≤ 256) && allZero (slice w.body 2 6) && w.body.length == 8 + 24 * n
        if s.hamperFull part tenant then s.queueStatus part w 3 []
        else if !form || !s.entriesOk part tenant false 0 es then s.queueStatus part w 4 []
        else
          let r := s.postHamper part tenant true es
          r.2.queueStatus part w 0 (countResult r.1 n))

/-- The hamper that a cancel or a query names, where it runs for the tenant (R312). -/
def State.namedHamper (s : State) (p tenant : Nat) (body : List Byte) : Option Nat :=
  let h := leAt body 0 1
  match aget (s.store p).hampers h with
  | some x => if x.tenant == tenant && body.length == 8 && allZero (slice body 1 7) then some h else none
  | none => none

def execHostHamperCancel (t : Nat) (part tenant : Nat) (s : State) : Host.Outcome State Fault Refusal :=
  run t s (fun s => match s.takeWork part tenant (fun w => w.typ == 2) with
    | none => s
    | some (w, s) =>
      match w.early, s.namedHamper part tenant w.body with
      | some st, _ => s.queueStatus part w st []
      | none, none => s.queueStatus part w 4 []
      | none, some h =>
        let r := s.cancelHamper part h
        r.2.queueStatus part w 0 (countResult h r.1))

def execHostHamperQuery (t : Nat) (part tenant : Nat) (s : State) : Host.Outcome State Fault Refusal :=
  run t s (fun s => match s.takeWork part tenant (fun w => w.typ == 3) with
    | none => s
    | some (w, s) =>
      match w.early, s.namedHamper part tenant w.body with
      | some st, _ => s.queueStatus part w st []
      | none, none => s.queueStatus part w 4 []
      | none, some h => s.queueStatus part w 0 (s.hamperResult part h))

end Sys2Proof.Machine
end

