-- ==== Sys2Proof/Machine/Time.lean ====
section
/-! DEFINITION. The time family (12): the PTP and PPS sources, holdover and loss of time, meters, cuts, evidence, maintenance slots. -/
namespace Sys2Proof.Machine
open Sys2Proof

/-! ### Sources (R482-R486) -/

/-- The order of two numbers lists, first difference first. -/
def lexLess : List Nat → List Nat → Bool
  | a :: as, b :: bs => decide (a < b) || (a == b && lexLess as bs)
  | _, _ => false

/-- Whether an Announce is better than another in the default best master comparison of IEEE 1588 (R482; log 33). -/
def annBetter (a b : PtpAnn) : Bool :=
  if a.identity == b.identity then lexLess [a.steps, a.source.toNat] [b.steps, b.source.toNat]
  else lexLess [a.priority1, a.clockClass, a.accuracy, a.variance, a.priority2, a.identity]
    [b.priority1, b.clockClass, b.accuracy, b.variance, b.priority2, b.identity]

/-- The best Announce heard, with its port. -/
def bestAnnounce (l : List (Nat × PtpAnn)) : Option (Nat × PtpAnn) :=
  l.foldl (fun best x => match best with
    | some y => if annBetter x.2 y.2 then some x else best
    | none => some x) none

/-- A PTP Announce enters the best master clock algorithm (R482, R483): heard on a PTP port in the image's PTP domain. -/
def execPtpAnnounce (t : Nat) (f : PtpFrame) (a : PtpAnn) (s : State) : Host.Outcome State Fault Refusal :=
  run t s (fun s => s.frameIn f.port 0 f.tag (fun s =>
    if s.timeSource == 1 || !s.ptpPort f.port || a.domain != s.field 14 0xFF 0 1 1 0 || !s.svc.seq.pllLocked then s
    else
      let heard := s.time.heard.filter (fun e => !(e.1 == f.port && e.2.source == a.source)) ++ [(f.port, a)]
      match bestAnnounce heard with
      | some m => { s with time := { s.time with heard := heard, master := some m.2, masterPort := m.1, arb := m.2.arb } }
      | none => s))

/-- A Sync with its Follow_Up and Delay_Resp from the selected master (R482-R486): the offset measured, and the master's time. With SOURCE
PTP_PPS it gives the time of day alone (R481). -/
def execPtpSync (t : Nat) (f : PtpFrame) (src : BitVec 80) (offset : Int) (gm : Nat) (s : State) : Host.Outcome State Fault Refusal :=
  run t s (fun s => s.frameIn f.port 0 f.tag (fun s =>
    match s.time.master with
    | none => s
    | some m =>
      if s.time.masterPort != f.port || m.source != src || !s.svc.seq.pllLocked then s
      else if s.timeSource == 0 then s.measured offset gm
      else if s.timeSource == 2 && !s.time.everLocked then { s with time := { s.time with base := gm, at_ := s.now } }
      else s))

/-- The nearest whole second of a time in ns. -/
def nearestSecond (n : Nat) : Nat := (n + 500000000) / 1000000000 * 1000000000

/-- A rising edge of PPS_IN (R484-R486, R739): phase, and with a TIME_SET the second it names. -/
def execPpsEdge (t : Nat) (offset : Int) (s : State) : Host.Outcome State Fault Refusal :=
  run t s (fun s =>
    if !s.svc.seq.pllLocked then s
    else if s.timeSource == 2 then (if s.time.master.isSome then s.measured offset (nearestSecond (fab s)) else s)
    else if s.timeSource == 1 then
      match s.time.nextPps with
      | some (sec, _) =>
        let set := sec * 1000000000
        let far : Int := if s.time.everLocked then Int.ofNat (nearestSecond (fab s)) - Int.ofNat set else 0
        let s : State := { s with time := { s.time with nextPps := none, base := if s.time.everLocked then s.time.base else set,
                                                        at_ := if s.time.everLocked then s.time.at_ else s.now } }
        (s.endRunning (fun l => l == .timeSet) .ok [] false).measured (offset + far) set
      | none => if s.time.lastMeasure.isSome then s.measured offset (nearestSecond (fab s)) else s
    else s)

/-- No valid Sync or PPS edge for 4 expected intervals: HOLDOVER (R485, R487). -/
def execHoldover (t : Nat) (s : State) : Host.Outcome State Fault Refusal :=
  timer t s [.timeLock] (fun s =>
    match s.time.lastMeasure with
    | some c => if s.time.mode == .locked && due s c (4 * s.syncCycles) then s.setTime .holdover else s
    | none => s)

/-- HOLDOVER_MAX elapses: LOST, and every twinned partition fences itself (R485, R491). -/
def execTimeLost (t : Nat) (s : State) : Host.Outcome State Fault Refusal :=
  timer t s [.timeLock] (fun s =>
    match s.time.holdSince with
    | some c => if s.time.mode == .holdover && due s c (s.field 14 0xFF 0 12 2 300 * cS) then s.timeLost else s
    | none => s)

/-! ### Meters (R493-R503) -/

/-- QPs of a tenant on a partition that are not FREE, frames charged to it, frames pinned for it, bricks allocated to it (R496). -/
def State.sampleTenant (s : State) (p tenant : Nat) : State :=
  let S := s.store p
  let d := s.homeDie p
  let pins := (S.bricks.filter (fun e => e.2.tenant == tenant && e.2.pin && e.2.res.isSome)).length
  let bricks := (S.bricks.filter (fun e => e.2.tenant == tenant)).length
  (((s.meter p d tenant 6 (S.usage tenant)).meter p d tenant 7 pins).meter p d tenant 8 bricks).meter p d tenant 15 (s.tenantQps p tenant)

/-- Whole seconds of fabric time. -/
def fabSecond (s : State) : Nat := fab s / 1000000000

/-- The sample of a whole second (R493, R496). -/
def execMeterSample (t : Nat) (part : Nat) (s : State) : Host.Outcome State Fault Refusal :=
  run t s (fun s => s.onPart part (fun P s =>
    if s.pkg != .on || !s.time.everLocked || fabSecond s ≤ P.meters.lastSample then s
    else
      let s := s.modMeter part (fun m => { m with lastSample := fabSecond s })
      ((P.meters.index.map (·.1)).eraseDups).foldl (fun s tn => s.sampleTenant part tn) s))

/-- The cut of a minute boundary, in every mode (R498-R500). -/
def execMinuteCut (t : Nat) (part : Nat) (s : State) : Host.Outcome State Fault Refusal :=
  run t s (fun s => s.onPart part (fun P s =>
    let b := fab s / nsMinute * nsMinute
    let newer := match P.meters.lastCut with | some l => decide (l < b) | none => decide (0 < b)
    if s.pkg != .on || !s.time.everLocked || !newer then s else s.cutAt part b))

/-- The evidence of an hour (R501-R503). -/
def execHourlyEvidence (t : Nat) (part : Nat) (s : State) : Host.Outcome State Fault Refusal :=
  run t s (fun s => s.onPart part (fun P s =>
    let h := fab s / nsHour
    if s.pkg != .on || !s.time.everLocked || h == 0 then s
    else
      match P.meters.lastHour with
      | some l => if h ≤ l then s else s.evidence part h (h - 1 - l)
      | none => s.evidence part h 0))

/-! ### Maintenance slots (R494) -/

/-- Slot `i` of a partition's timetable: period, phase and duration in ns, and kind. -/
def State.maintSlot (s : State) (p i : Nat) : Option (Nat × Nat × Nat × Nat) :=
  let b := s.recD 6 p 0
  if i < leAt b 0 1 then
    let o := 8 + 16 * i
    some (leAt b o 4 * 1000000000, leAt b (o + 4) 4 * 1000000000, leAt b (o + 8) 4 * 1000000000, leAt b (o + 12) 1)
  else none

/-- A maintenance slot starts or ends; none starts in DRAIN; one of kind CHECKPOINT starts a checkpoint (R374, R494). -/
def execMaintenanceSlot (t : Nat) (part slot : Nat) (start : Bool) (s : State) : Host.Outcome State Fault Refusal :=
  run t s (fun s => s.onPart part (fun P s =>
    match s.maintSlot part slot with
    | none => s
    | some (period, phase, dur, kind) =>
      let inside := s.time.everLocked && period != 0 && decide ((fab s + period - phase % period) % period < dur)
      let on := P.meters.slotsOn.contains slot
      if start then
        if on || !inside || s.pkg != .on || s.mode part == .drain then s
        else
          let s := s.modMeter part (fun m => { m with slotsOn := m.slotsOn ++ [slot] })
          if kind == 2 then s.startCheckpoint part else s
      else if on && !inside then s.modMeter part (fun m => { m with slotsOn := m.slotsOn.filter (· != slot) })
      else s))

/-- A meter index is free again 24 hours after its tenant's withdrawal (R497). -/
def execMeterIndexFree (t : Nat) (part idx : Nat) (s : State) : Host.Outcome State Fault Refusal :=
  run t s (fun s => s.onPart part (fun P s =>
    match aget P.meters.freeAt idx with
    | some f =>
      if fab s < f then s
      else
        let s := s.modMeter part (fun m => { m with index := m.index.filter (·.2 != idx), freeAt := adel m.freeAt idx, totals := adel m.totals idx,
                                                    cutTotals := adel m.cutTotals idx })
        { s with dies := s.dies.map (fun e => if (s.partDies part).contains e.1 then (e.1, { e.2 with meters := adel e.2.meters idx }) else e) }
    | none => s))

end Sys2Proof.Machine
end

