-- ==== Sys2Proof/Machine/Twin.lean ====
section
/-! DEFINITION. The twin family (10): mirror messages, what the twin sends, leases, the arbiter's side, TWIN_PAIR and TWIN_UNPAIR. -/
namespace Sys2Proof.Machine
open Sys2Proof

/-! ### Receiving (R410-R412) -/

/-- An arrival on a path keeps it up (R413). -/
def State.pathIn (s : State) (p path : Nat) : State :=
  s.modTwin p (fun T => { T with paths := modNth T.paths path (fun x => { x with up := true, lastIn := s.now, downSince := none }), mirrorLost := false })

/-- APPLY (R399): the entries join the stream. -/
def State.applyIn (s : State) (p mseq : Nat) (es : List ApplyEntry) : State :=
  if (s.twin p).lead || (s.twin p).freeRunning then s
  else s.modTwin p (fun T => { T with stream := T.stream ++ es.map (fun e => (mseq, e)) })

/-- REPLICATE (R398): kept for its entry; on the lead it waits to be ordered. -/
def State.replicateIn (s : State) (p mseq : Nat) (r : ReplBody) : State :=
  s.modTwin p (fun T =>
    let reps := aset T.replicas r.replica (mseq, r)
    if T.lead then
      { T with replicas := reps, stream := T.stream ++ [(mseq, { kind := .replica, second := false, cause := 0, epoch := 0, id := r.replica, psn := 0,
                                                                 page := r.brick * 512 + r.page })] }
    else { T with replicas := reps })

/-- Messages that waited because 4,096 were unacknowledged (R410). -/
def State.flushBacklog : Nat → State → Nat → State
  | 0, s, _ => s
  | n + 1, s, p =>
    let T := s.twin p
    match T.backlog with
    | [] => s
    | m :: rest => if T.sent - T.confirmed < 4096 then State.flushBacklog n ((s.modTwin p (fun T => { T with backlog := rest })).mirrorNow p m.1 m.2) p else s

/-- The lead's report that the resynchronisation is done, once the follower has confirmed RESYNC_END (R430). -/
def State.resyncReport (s : State) (p : Nat) : State :=
  let T := s.twin p
  match T.endSeq with
  | some n => if T.lead && T.resync && !T.resyncDone && n ≤ T.confirmed then (s.modTwin p (fun T => { T with resyncDone := true })).report p 4 else s
  | none => s

/-- CONFIRM (R412, R413): writes are confirmed, waiting messages leave, REPs that waited for their QP_OPEN leave, commands complete. -/
def State.confirmIn (s : State) (p n : Nat) : State :=
  let s := s.modTwin p (fun T => { T with confirmed := max T.confirmed (min n T.sent) })
  let c := (s.twin p).confirmed
  let s := s.modRemote p (fun r => { r with unconfirmed := r.unconfirmed.filter (fun u => u.mseq == 0 || decide (c < u.mseq)) })
  let s := State.flushBacklog (s.twin p).backlog.length s p
  let s := (s.twinQps p).foldl (fun s q => match q.repWait with | some m => if m ≤ c then s.sendRep q.qpn else s | none => s) s
  (((s.resyncReport p).finishTwinned p).finishRevokes p).finishUnpair p

/-- PROGRESS (R405): request packets that the peer has accepted need not be kept. -/
def State.progressIn (s : State) (p : Nat) (ps : List QpnPsn) : State :=
  s.modTwin p (fun T =>
    let T := { T with peerPsn := ps.foldl (fun l (x : QpnPsn) => aset l x.qpn x.psn) T.peerPsn }
    { T with kept := T.kept.filter (fun k => match aget T.peerPsn k.1 with | some a => decide (0 < psnDiff k.2.pkt.psn a) | none => true) })

/-- DIGEST (R415-R417): on the follower it waits for its epoch's entries; on the lead it meets the lead's own. -/
def State.digestIn (s : State) (p e count : Nat) (d : BitVec 128) : State :=
  let T := s.twin p
  if T.lead then
    match aget T.digest.ours e with
    | none => s
    | some mine =>
      if mine == d then s.modTwin p (fun T => { T with digest := { T.digest with ours := adel T.digest.ours e, lastMatched := e, matched := true } })
      else (s.modTwin p (fun T => { T with digest := { T.digest with ours := adel T.digest.ours e, matched := false } })).diverge p
  else if T.freeRunning then s
  else s.modTwin p (fun T => { T with digest := { T.digest with theirs := T.digest.theirs ++ [(e, (count, d))] } })

/-- A kept request packet as FETCH_DATA carries it (log 42). -/
def keptBytes (k : Kept) : List Byte :=
  natBE 1 k.pkt.op.toNat ++ natBE 4 k.pkt.psn.toNat ++ natBE 4 k.pkt.rkey.toNat ++ natBE 8 k.pkt.va.toNat ++ natBE 4 k.pkt.len ++
    natBE 4 (k.imm.getD 0).toNat ++ natBE 8 k.cmp.toNat ++ natBE 8 k.swp.toNat ++ natBE 2 k.pkt.payload.length ++ k.pkt.payload

/-- FETCH_REQ (R405): the packets kept of the range, or none. -/
def State.fetchReqIn (s : State) (p : Nat) (q first : BitVec 24) (count : Nat) : State :=
  let have_ := (s.twin p).kept.filter (fun k => k.1 == q && decide (0 ≤ psnDiff k.2.pkt.psn first) && decide (psnDiff k.2.pkt.psn first < count))
  if have_.isEmpty then s.mirror p 8 (natBE 4 q.toNat ++ natBE 4 first.toNat ++ natBE 4 count)
  else s.mirror p 7 (natBE 4 q.toNat ++ natBE 4 have_.length ++ (have_.map (fun k => keptBytes k.2)).flatten)

/-- Whether a port brings a QP's packet of this PSN on this very cycle (R407). -/
def State.portBrings (s : State) (q psn : BitVec 24) : Bool :=
  (s.pending.takeWhile (fun c => decide (c.cycle ≤ s.now))).any (fun c => match c with
    | .rdmaWrite _ k | .rdmaWriteWithImmediate _ k _ | .rdmaReadRequest _ k | .compareSwap _ k _ _ | .fetchAdd _ k _ | .atomicWrite _ k | .flush _ k _ _ | .send _ k =>
      k.dqpn == q && k.psn == psn
    | _ => false)

/-- FETCH_DATA (R405, R407): each packet decided as if it had come from the port; one that a port brings on this cycle is taken from the port. -/
def State.fetchDataIn (s : State) (p : Nat) (q : BitVec 24) (ks : List Kept) : State :=
  let s := s.modQp q (fun c => { c with fetchSince := none })
  (ks.filter (fun k => !s.portBrings q k.pkt.psn)).foldl (fun s k => match s.qp? q with
    | some c => if c.twinned && (c.state == .ready || c.state == .connecting) then s.decideReq p c k else s
    | none => s) s

/-- No packet comes from the peer: the lead sends the NAK of R120, a follower may ask again (R405). -/
def State.fetchFailed (s : State) (p : Nat) (q : BitVec 24) : State :=
  match s.qp? q with
  | some c =>
    let s := s.modQp q (fun c => { c with fetchSince := none })
    if (s.twin p).lead && c.gapSince.isSome && !c.gapNaked then (s.reply p q s.now c.epsn (.nak 0x60)).modQp q (fun c => { c with gapNaked := true }) else s
  | none => s

/-- PAGE_DATA (R207, R435): a held page is written, a page that a short drain lacks is programmed. -/
def State.pageDataIn (s : State) (p b g : Nat) (data : List Byte) : State :=
  let asked := (s.twin p).pageReqs.contains (b, g)
  let s := s.modTwin p (fun T => { T with pageReqs := T.pageReqs.filter (· != (b, g)) })
  let D := (s.store p).drain
  if D.awaited.contains (b, g) then
    let u := g / 4
    let old := (s.flash p).unit b u
    match (match s.takeProgram p .openWrite false none with | some r => some r | none => s.takeProgram p .openWrite true none) with
    | none => s
    | some (pl, s) =>
      let B := match (s.store p).brick? b with | some B => B | none => { res := none, pin := false, mirror := true, placement := 0, keyHalf := 0, cursor := 512, tenant := 0,
                                                                         age := 0, accessed := none, valid := 0, object := 0, evicting := false, evictFor := none, evacuating := false, anyCourse := false }
      let cws : List Codeword := (List.range 4).map (fun i =>
        if 4 * u + i == g then { brick := b, page := g, keyHalf := pageHalf B g, valid := true, seq := pl.2.2.2, data := Memory.writeN [] 0 (data.take 4096) }
        else match old.find? (fun w => w.page == 4 * u + i) with
          | some w => { w with seq := pl.2.2.2 }
          | none => { brick := b, page := 4 * u + i, keyHalf := B.keyHalf, valid := false, seq := pl.2.2.2, data := [] })
      let s := (s.mapUnit p b u pl.2.2.1 cws).modBrick p b (fun B => { B with valid := B.valid ||| BitVec.ofNat 512 (2 ^ g) })
      let s := s.modDrain p (fun D => { D with awaited := D.awaited.filter (· != (b, g)) })
      (((s.shortCount p b 0 1 0).shortLog p).unlist p b g).exitRestore p
  else if asked && (s.store p).resident b && ((s.store p).page b g).held then
    ((s.writePage p b g (Memory.writeN [] 0 (data.take 4096))).modPage p b g (fun P => { P with held := false })).afterRebuild p b g
  else s

/-- RESYNC_END on the follower (R430): D is zero, and its data is placed; it asks for nothing more than the GRANT. -/
def State.resyncEndIn (s : State) (p : Nat) : State :=
  if (s.twin p).lead then s
  else
    let s := s.modTwin p (fun T => { T with resyncDone := true, copySet := [], unitsIn := [], wholeResync := false,
                                            digest := { DigestSt.reset with lastMatched := T.digest.lastMatched } })
    s.checkPair p

/-- FENCE_NOTICE (R419, R424, R426, R509): the follower becomes free-running, the lead enters SOLO; reason UNPAIR ends the pairing (log 45). -/
def State.fenceNoticeIn (s : State) (p reason : Nat) : State :=
  if reason == 6 then (s.modTwin p (fun T => { T with peerUnpaired := true })).unpair p none |>.finishUnpair p
  else if (s.twin p).lead then (if (s.twin p).solo then s else s.enterSolo p .peerFenced)
  else s.freeRun p

/-- A sequenced message delivered. -/
def State.deliver (s : State) (p mseq : Nat) (m : MirMsg) : State :=
  let s := s.modTwin p (fun T => { T with delivered := mseq, confirmDue := T.confirmDue || (match m with | .confirm _ => false | _ => true) })
  match m with
  | .apply es => s.applyIn p mseq es
  | .replicate r => s.replicateIn p mseq r
  | .confirm n => s.confirmIn p n
  | .progress ps => s.progressIn p ps
  | .digest e c d => s.digestIn p e c d
  | .fetchReq q f c => s.fetchReqIn p q f c
  | .fetchData q ks => s.fetchDataIn p q ks
  | .fetchNone q => s.fetchFailed p q
  | .pageReq b g => s.modTwin p (fun T => { T with pageWaits := T.pageWaits ++ [(mseq, (b, g))] })
  | .pageData b g d => s.pageDataIn p b g d
  | .tableSync b => s.tableSyncIn p b
  | .qpOpen q => if (s.twin p).lead then s else s.adoptQp p q .connecting
  | .qpState q => if (s.twin p).lead then s else s.qpStateIn p q
  | .brickData b => if (s.twin p).resync && !(s.twin p).lead then s.brickDataIn p b else s
  | .resyncEnd => s.resyncEndIn p
  | .fenceNotice r => s.fenceNoticeIn p r

/-- Messages that stood beyond the one just delivered (R410). -/
def State.deliverMore : Nat → State → Nat → State
  | 0, s, _ => s
  | n + 1, s, p =>
    let T := s.twin p
    match aget T.beyond (T.delivered + 1) with
    | some m => State.deliverMore n ((s.modTwin p (fun T => { T with beyond := adel T.beyond (T.delivered + 1) })).deliver p (T.delivered + 1) m) p
    | none => s

/-- Whether a mirror message is this pair's (R411), and its ROLE_EPOCH not below the highest seen (R412). -/
def State.mirrorOurs (s : State) (p : Nat) (h : MirHdr) : Bool :=
  (s.twin p).paired && s.pkg == .on && h.group == s.group p && decide (h.path < 2) && decide ((s.twin p).epochSeen ≤ h.epoch)

/-- The numbering begins again with a new ROLE_EPOCH, and with the first message of a resynchronisation (R411). -/
def State.renumber (s : State) (p : Nat) (h : MirHdr) : State :=
  s.modTwin p (fun T =>
    let fresh := decide (T.epochSeen < h.epoch)
    let start := h.mseq == 1 && T.startTime != some h.time && !T.lead
    let T := if fresh then { T with epochSeen := h.epoch, epoch := if T.lead then T.epoch else h.epoch } else T
    if fresh then { T with delivered := 0, beyond := [], confirmSent := 0, startTime := if h.mseq == 1 then some h.time else none }
    else if start then
      { T with delivered := 0, beyond := [], confirmSent := 0, startTime := some h.time, mseqNext := 1, sent := 0, confirmed := 0, backlog := [] }
    else T)

/-- A sequenced mirror message on a path (R410-R413): one copy of each, in MSEQ order, up to 4,096 ahead. -/
def State.mirrorIn (s : State) (p : Nat) (h : MirHdr) (m : MirMsg) : State :=
  if !s.mirrorOurs p h then s
  else
    let s := (s.pathIn p h.path).renumber p h
    let T := s.twin p
    if h.mseq ≤ T.delivered || ahas T.beyond h.mseq || T.delivered + 4096 < h.mseq then s
    else if h.mseq == T.delivered + 1 then (State.deliverMore T.beyond.length (s.deliver p h.mseq m) p).settle p
    else s.modTwin p (fun T => { T with beyond := T.beyond ++ [(h.mseq, m)] })

/-- APPLY (R397-R401). -/
def execApply (t part : Nat) (h : MirHdr) (es : List ApplyEntry) (s : State) : Host.Outcome State Fault Refusal :=
  run t s (fun s => s.mirrorIn part h (.apply es))
/-- REPLICATE (R398, R580). -/
def execReplicate (t part : Nat) (h : MirHdr) (r : ReplBody) (s : State) : Host.Outcome State Fault Refusal :=
  run t s (fun s => s.mirrorIn part h (.replicate r))
/-- CONFIRM (R412, R413). -/
def execConfirm (t part : Nat) (h : MirHdr) (upTo : Nat) (s : State) : Host.Outcome State Fault Refusal :=
  run t s (fun s => s.mirrorIn part h (.confirm upTo))
/-- PROGRESS (R405). -/
def execProgress (t part : Nat) (h : MirHdr) (ps : List QpnPsn) (s : State) : Host.Outcome State Fault Refusal :=
  run t s (fun s => s.mirrorIn part h (.progress ps))
/-- DIGEST (R415-R417). -/
def execDigest (t part : Nat) (h : MirHdr) (epoch count : Nat) (d : BitVec 128) (s : State) : Host.Outcome State Fault Refusal :=
  run t s (fun s => s.mirrorIn part h (.digest epoch count d))
/-- FETCH_REQ (R405). -/
def execFetchReq (t part : Nat) (h : MirHdr) (qpn first : BitVec 24) (count : Nat) (s : State) : Host.Outcome State Fault Refusal :=
  run t s (fun s => s.mirrorIn part h (.fetchReq qpn first count))
/-- FETCH_DATA (R405, R407). -/
def execFetchData (t part : Nat) (h : MirHdr) (qpn : BitVec 24) (pkts : List Kept) (s : State) : Host.Outcome State Fault Refusal :=
  run t s (fun s => s.mirrorIn part h (.fetchData qpn pkts))
/-- FETCH_NONE (R405). -/
def execFetchNone (t part : Nat) (h : MirHdr) (qpn : BitVec 24) (s : State) : Host.Outcome State Fault Refusal :=
  run t s (fun s => s.mirrorIn part h (.fetchNone qpn))

/-- 50 µs have passed without an answer to FETCH_REQ (R405). -/
def execTwinFetchTimeout (t : Nat) (qpn : BitVec 24) (s : State) : Host.Outcome State Fault Refusal :=
  timer t s [.fetched qpn] (fun s => s.onQp qpn (fun c p s =>
    match c.fetchSince with
    | some x => if due s x (50 * cUs) then s.fetchFailed p qpn else s
    | none => s))

/-- PAGE_REQ (R413). -/
def execPageReq (t part : Nat) (h : MirHdr) (brick page : Nat) (s : State) : Host.Outcome State Fault Refusal :=
  run t s (fun s => s.mirrorIn part h (.pageReq brick page))
/-- PAGE_DATA (R207, R435). -/
def execPageData (t part : Nat) (h : MirHdr) (brick page : Nat) (data : List Byte) (s : State) : Host.Outcome State Fault Refusal :=
  run t s (fun s => s.mirrorIn part h (.pageData brick page data))
/-- TABLE_SYNC (R389, R390, R591). -/
def execTableSync (t part : Nat) (h : MirHdr) (body : TableSync) (s : State) : Host.Outcome State Fault Refusal :=
  run t s (fun s => s.mirrorIn part h (.tableSync body))
/-- QP_OPEN (R402). -/
def execQpOpen (t part : Nat) (h : MirHdr) (q : QpCtx) (s : State) : Host.Outcome State Fault Refusal :=
  run t s (fun s => s.mirrorIn part h (.qpOpen q))
/-- QP_STATE (R432). -/
def execQpState (t part : Nat) (h : MirHdr) (q : QpCtx) (s : State) : Host.Outcome State Fault Refusal :=
  run t s (fun s => s.mirrorIn part h (.qpState q))
/-- BRICK_DATA (R431). -/
def execBrickData (t part : Nat) (h : MirHdr) (b : BrickBody) (s : State) : Host.Outcome State Fault Refusal :=
  run t s (fun s => s.mirrorIn part h (.brickData b))
/-- RESYNC_END (R430). -/
def execResyncEnd (t part : Nat) (h : MirHdr) (s : State) : Host.Outcome State Fault Refusal :=
  run t s (fun s => s.mirrorIn part h .resyncEnd)

/-- HEARTBEAT (R412, R413), which has no place in the numbering (log 46). A fenced peer sends nothing else: the lead that hears it begins the peer's
resynchronisation, as no message asks for one (log 47). -/
def execHeartbeat (t part : Nat) (h : MirHdr) (s : State) : Host.Outcome State Fault Refusal :=
  run t s (fun s =>
    if !s.mirrorOurs part h then s
    else
      let s := s.pathIn part h.path
      let T := s.twin part
      if T.lead && T.peerFenced && T.solo && !T.resync && T.unpairing.isNone && s.serving part then (s.startResync part).settle part else s)

/-- FENCE_NOTICE (R424, R509). -/
def execFenceNotice (t part : Nat) (h : MirHdr) (reason : Nat) (s : State) : Host.Outcome State Fault Refusal :=
  run t s (fun s => s.mirrorIn part h (.fenceNotice reason))

/-! ### Sending (R397, R411-R415) -/

/-- 500 ns have passed since the first unsent entry, or 64 are held (R411). -/
def execApplySend (t part : Nat) (s : State) : Host.Outcome State Fault Refusal :=
  run t s (fun s =>
    let T := s.twin part
    match T.unsentSince with
    | some x => if T.lead && (due s x 800 || decide (64 ≤ T.unsent.length)) then s.sendApply part else s
    | none => s)

/-- PROGRESS, every 10 µs (R412). -/
def execProgressSend (t part : Nat) (s : State) : Host.Outcome State Fault Refusal :=
  run t s (fun s =>
    let T := s.twin part
    if !T.mirrors || !due s T.progressAt (10 * cUs) then s
    else
      let qs := (s.twinQps part).filterMap (fun c => c.lastAcc.map (fun a => natBE 4 c.qpn.toNat ++ natBE 4 a.toNat))
      (s.mirror part 4 qs.flatten).modTwin part (fun T => { T with progressAt := s.now }))

/-- A path has carried nothing for 100 µs (R412). -/
def execHeartbeatSend (t part path : Nat) (s : State) : Host.Outcome State Fault Refusal :=
  run t s (fun s =>
    match (s.twin part).paths[path]? with
    | some x =>
      if (s.twin part).paired && s.pkg == .on && due s x.lastOut (100 * cUs) then
        (s.mirrorCopy part path 0x10 0 []).modTwin part (fun T => { T with paths := modNth T.paths path (fun x => { x with lastOut := s.now }) })
      else s
    | none => s)

/-- Every die of the lead has passed an epoch's boundary (R415). -/
def execDigestEpoch (t part : Nat) (s : State) : Host.Outcome State Fault Refusal :=
  run t s (fun s =>
    let T := s.twin part
    let e := (epochNow s + 4294967295) % 4294967296
    if !(T.lead && T.mirrors) || T.digest.sent == some e then s
    else
      let s := s.sendApply part
      let D := (s.twin part).digest
      let x := D.at_ e
      (s.mirror part 5 (digestBytes e x)).modTwin part (fun T => { T with digest := { T.digest.close e with sent := some e, ours := T.digest.ours ++ [(e, x.2)] } }))

/-! ### The link and the follower (R406, R413, R424, R428) -/

/-- No message has arrived on a path for 1 ms (R413). -/
def execMirrorPathDown (t part path : Nat) (s : State) : Host.Outcome State Fault Refusal :=
  timer t s [.mirror part path] (fun s =>
    match (s.twin part).paths[path]? with
    | some x =>
      if (s.twin part).paired && x.up && due s x.lastIn cMs then
        (s.modTwin part (fun T => { T with paths := modNth T.paths path (fun x => { x with up := false, downSince := some (x.lastIn + cMs) }) })).log
          .mirrorPathDown (srcPart part) (subject none 0 path 0 0 [])
      else s
    | none => s)

/-- Both paths have been down for 2 ms (R413, R424, R434). -/
def execMirrorLost (t part : Nat) (s : State) : Host.Outcome State Fault Refusal :=
  timer t s [.mirror part 0, .mirror part 1] (fun s =>
    let T := s.twin part
    let since := T.paths.map (·.downSince)
    if !T.paired || T.mirrorLost || since.any (·.isNone) || !due s ((since.filterMap id).foldl max 0) (2 * cMs) then s
    else
      let s := ((s.modTwin part (fun T => { T with mirrorLost := true, resync := false, endSeq := none })).log .mirrorLost (srcPart part) (values [])).report part 1
      let s := if T.lead then s.renew part else s.freeRun part
      s.finishUnpair part)

/-- A follower's PSN gap has stood open for 20 ms (R406). -/
def execFollowerLagging (t part : Nat) (s : State) : Host.Outcome State Fault Refusal :=
  run t s (fun s =>
    let T := s.twin part
    let lag := (s.twinQps part).any (fun c => match c.gapSince with
      | some x => due s x (20 * cMs) && !s.portBrings c.qpn c.epsn && !s.sooner (.fetched c.qpn)
      | none => false)
    if T.follows && !T.resync && lag && !T.reported.contains 3 then (s.report part 3).log .followerLagging (srcPart part) (values []) else s)

/-- A whole second of fabric time (R428): the other map becomes current and is cleared, if the last DIGEST matched. -/
def execChangeMapSwap (t part : Nat) (s : State) : Host.Outcome State Fault Refusal :=
  run t s (fun s =>
    let T := s.twin part
    let sec := fab s / 1000000000
    if !T.paired || sec ≤ T.swapSec then s
    else
      let s := s.modTwin part (fun T => { T with swapSec := sec })
      if T.mapsHeld && T.digest.matched && T.role != .fenced && !T.solo && !T.freeRunning && !T.peerFenced then
        s.modTwin part (fun T => if T.curA then { T with curA := false, mapB := [] } else { T with curA := true, mapA := [] })
      else s)

/-! ### Leases (R418-R422) -/

/-- Whether an arbiter message is for this partition and its tag is right (R418, R595). -/
def State.arbOurs (s : State) (p kind : Nat) (m : ArbMsg) : Bool :=
  s.engine && s.arbTag p m.device m.time (arbHead kind m.role m.reason m.peerState m.epoch m.group m.device m.time m.value) == m.tag

/-- Whether a copy of an arbiter message has come in already: same DEVICE, TYPE and sending time (R479). -/
def State.arbTwice (s : State) (p kind : Nat) (m : ArbMsg) : Bool := (s.fabric p).arbSeen.contains (m.device, kind, m.time)

/-- The first copy of an arbiter message is noted (R479). -/
def State.arbNote (s : State) (p kind : Nat) (m : ArbMsg) : State := s.modFabric p (fun F => { F with arbSeen := F.arbSeen ++ [(m.device, kind, m.time)] })

/-- A message whose tag fails is discarded and counted (R418). -/
def State.badTag (s : State) (p : Nat) : State := s.modTwin p (fun T => { T with badTags := T.badTags + 1 })

/-- The scheduled RENEW (R419, R493): at 50 ms steps of fabric time, offset by the device number; none while time is LOST (R491). A TWIN_PAIR without a
lease after 1 s fails with ARBITER (R387). -/
def execLeaseRenew (t part : Nat) (s : State) : Host.Outcome State Fault Refusal :=
  run t s (fun s =>
    let T := s.twin part
    let off := s.device part * 12207
    if !T.paired || s.pkg != .on || s.time.mode == .lost || !s.time.everLocked || !(decide ((T.renewAt + 50000000 - off) / 50000000 < (fab s + 50000000 - off) / 50000000)) then s
    else
      let late := match T.pairing with | some x => T.tExp.isNone && due s x.2.2 cS | none => false
      if late then (s.endPairing part).endRunning (fun l => l == .twinPair part) .arbiter [] false
      else s.renew part)

/-- T_exp - guard has come without a GRANT (R419): the twin fences itself. -/
def State.guardDue (s : State) (p : Nat) : Bool :=
  let T := s.twin p
  match T.tExp with
  | some x => T.paired && T.role != .fenced && T.unpairing.isNone && decide (x ≤ fab s + s.guard)
  | none => false

/-- LEASE_GUARD (R419, R423). -/
def State.leaseGuard (s : State) (p : Nat) : State :=
  if s.guardDue p then ((s.log .twinFenced (srcPart p) (values [])).selfFence p .twinFenced).settle p else s

def execLeaseGuard (t part : Nat) (s : State) : Host.Outcome State Fault Refusal := run t s (fun s => s.leaseGuard part)

/-- A GRANT that reports the pair whole again, after RESYNC_DONE (R430): the lead leaves SOLO. -/
def State.peerBack (s : State) (p : Nat) : State :=
  let s := s.modTwin p (fun T => { T with peerFenced := false, solo := false, resync := false, endSeq := none, copySet := [], wholeResync := false,
                                          resyncDone := T.pairing.isSome, reported := T.reported.filter (fun r => r != 1 && r != 4) })
  (if s.mode p == .solo then s.setMode p .serve .resyncDone else s).checkPair p

/-- A GRANT taken (R419-R421, R425, R430, R524). -/
def State.grantIn (s : State) (p : Nat) (m : ArbMsg) : State :=
  let T := s.twin p
  if m.value == 0 then (s.modTwin p (fun T => { T with tExp := none, releasedAck := T.releasedAck || T.unpairing.isSome })).finishUnpair p
  else if m.role == 1 && !T.lead && (s.mode p == .drain || s.mode p == .service) then s.toArbiter p 5 0 0
  else
    let newLead := m.role == 1 && !T.lead && decide (T.epochSeen < m.epoch)
    let s := s.modTwin p (fun T => { T with tExp := some m.value, renewUnanswered := none, arbLost := false,
                                            epoch := if newLead || T.lead || m.role == 0 then max T.epoch m.epoch else T.epoch })
    if newLead then
      if T.pairing.isSome then
        let s := s.modTwin p (fun T => { T with role := .lead, epochSeen := max T.epochSeen m.epoch })
        ((s.exitRestore p).startResync p).settle p
      else s.promote p m.epoch
    else if T.lead then
      if m.peerState == 1 then (if T.peerFenced then s else s.enterSolo p .peerFenced)
      else if T.resyncDone then s.peerBack p
      else s
    else if m.role == 0 then
      let s := if T.role == .fenced && T.resyncDone then s.modTwin p (fun T => { T with role := .follower, resync := false, reported := [] }) else s
      (s.exitRestore p).checkPair p
    else s

/-- GRANT (R419-R421). One that comes as late as T_exp - guard has lost to it (R50). -/
def execGrant (t part : Nat) (m : ArbMsg) (s : State) : Host.Outcome State Fault Refusal :=
  run t s (fun s =>
    if !(s.twin part).paired then s
    else if !s.arbOurs part 2 m then s.badTag part
    else if m.group != s.group part || m.device != s.device part || s.arbTwice part 2 m then s
    else
      let s := s.arbNote part 2 m
      if (s.twin part).epochSeen > m.epoch then s
      else if s.guardDue part then s.leaseGuard part
      else s.grantIn part m)

/-- FENCE (R420, R423): the lease ends at once; while unpairing it acknowledges the release (R392). -/
def execFence (t part : Nat) (m : ArbMsg) (s : State) : Host.Outcome State Fault Refusal :=
  run t s (fun s =>
    if !(s.twin part).paired then s
    else if !s.arbOurs part 3 m then s.badTag part
    else if m.group != s.group part || m.device != s.device part || s.arbTwice part 3 m then s
    else
      let s := s.arbNote part 3 m
      if (s.twin part).unpairing.isSome then (s.modTwin part (fun T => { T with tExp := none, releasedAck := true })).finishUnpair part
      else (s.fenced part .twinFenced).settle part)

/-- A RENEW has gone unanswered for 100 ms (R422). -/
def execArbiterLost (t part : Nat) (s : State) : Host.Outcome State Fault Refusal :=
  timer t s [.grant part] (fun s =>
    let T := s.twin part
    match T.renewUnanswered with
    | some x =>
      if T.lead && !T.arbLost && x + 100000000 ≤ fab s then
        ((s.modTwin part (fun T => { T with arbLost := true })).log .arbiterLost (srcPart part) (values [])).int .arbiterLost
      else s
    | none => s)

/-- An UNPAIR release goes out again every 100 ms until it is acknowledged (R392). -/
def execReleaseResend (t part : Nat) (s : State) : Host.Outcome State Fault Refusal :=
  run t s (fun s =>
    let T := s.twin part
    match T.releasing with
    | some x =>
      if T.unpairing.isSome && x + 100000000 ≤ fab s then
        let s := s.finishUnpair part
        if (s.twin part).unpairing.isSome && !s.released part then (s.toArbiter part 5 6 0).modTwin part (fun T => { T with releasing := some (fab s) }) else s
      else s
    | none => s)

/-! ### The arbiter's side (R421) -/

/-- Length of a lease. -/
def leaseNs : Nat := 200000000

def State.modGroup (s : State) (p g : Nat) (f : ArbGroup → ArbGroup) : State := s.modPart p (fun P => { P with arbiter := aupd P.arbiter g f })
def State.group? (s : State) (p g : Nat) : Option ArbGroup := (s.part? p).bind (fun P => aget P.arbiter g)

def ArbGroup.twin? (G : ArbGroup) (d : Nat) : Option ArbTwin := G.twins.find? (·.device == d)
def ArbGroup.mod (G : ArbGroup) (d : Nat) (f : ArbTwin → ArbTwin) : ArbGroup := { G with twins := G.twins.map (fun x => if x.device == d then f x else x) }
/-- The lead, if it is unfenced. -/
def ArbGroup.lead? (G : ArbGroup) : Option ArbTwin := G.twins.find? (·.role == .lead)
/-- Whether the lead's lease is live. -/
def ArbGroup.leadLive (G : ArbGroup) (now : Nat) : Bool := match G.lead? with | some x => decide (now < x.tExp) | none => false

/-- A message of the arbiter to a twin (R418). -/
def State.arbSend (s : State) (p kind g : Nat) (x : ArbTwin) (reason peerState value : Nat) : State :=
  match s.group? p g with
  | some G => if (s.fabric p).conflict || !s.engine then s
    else
      let m := arbBytes s p kind x.role.code reason peerState G.epoch g x.device (fab s) value
      (s.send (.arbiter p kind m)).arbiterPackets p x.device m
  | none => s

/-- PEER_STATE for a twin: 1 where another twin of the group is fenced. -/
def ArbGroup.peerState (G : ArbGroup) (d : Nat) : Nat := b2n (G.twins.any (fun x => x.device != d && x.role == .fenced))

/-- A lease granted: 200 ms from now (R421). -/
def State.arbGrant (s : State) (p g d : Nat) : State :=
  let e := fab s + leaseNs
  let s := s.modGroup p g (fun G => G.mod d (fun x => { x with tExp := e }))
  match s.group? p g with
  | some G => (match G.twin? d with | some x => s.arbSend p 2 g x 0 (G.peerState d) e | none => s)
  | none => s

/-- A twin fenced, and told so (R421). -/
def State.arbFence (s : State) (p g d reason : Nat) : State :=
  let s := s.modGroup p g (fun G => G.mod d (fun x => { x with role := .fenced, tExp := 0 }))
  match s.group? p g with
  | some G => (match G.twin? d with | some x => s.arbSend p 3 g x reason 0 0 | none => s)
  | none => s

/-- Every follower fenced; the lead hears of it by a GRANT with PEER_STATE 1 (R421). -/
def State.arbFenceFollowers (s : State) (p g reason : Nat) : State :=
  match s.group? p g with
  | none => s
  | some G =>
    let s := (G.twins.filter (·.role == .follower)).foldl (fun s x => s.arbFence p g x.device reason) s
    match G.lead? with | some x => s.arbGrant p g x.device | none => s

/-- A follower promoted (R421): ROLE_EPOCH one higher, a GRANT with ROLE LEAD. -/
def State.arbPromote (s : State) (p g d : Nat) : State :=
  (s.modGroup p g (fun G => { G.mod d (fun x => { x with role := .lead }) with epoch := G.epoch + 1 })).arbGrant p g d

/-- The follower to promote: unfenced, its lease live, no mismatch or lag reported (R421). -/
def ArbGroup.heir (G : ArbGroup) (now : Nat) : Option ArbTwin := G.twins.find? (fun x => x.role == .follower && decide (now < x.tExp) && !x.reportedBad)

/-- A twin that the arbiter has not met enters its group with the role it claims; LEAD only where no other twin has it (log 48). -/
def State.arbMeet (s : State) (p : Nat) (m : ArbMsg) : State :=
  s.modPart p (fun P =>
    let G := agetD P.arbiter m.group { epoch := max 1 m.epoch, twins := [], split := false, unpairing := false }
    if (G.twin? m.device).isSome then P
    else
      let role : Role := if m.role == 1 && (G.twins.all (fun x => x.role != .lead)) then .lead else if m.role == 2 then .fenced else .follower
      { P with arbiter := aset P.arbiter m.group { G with twins := G.twins ++ [{ device := m.device, role := role, tExp := 0, reportedBad := false, released := false }] } })

/-- While a pair is split, the lead's first message fences the follower, its lease being live (R421). -/
def State.arbSplit (s : State) (p : Nat) (m : ArbMsg) : State :=
  match s.group? p m.group with
  | some G => if G.split && (match G.lead? with | some x => x.device == m.device | none => false) && G.leadLive (fab s) then s.arbFenceFollowers p m.group 1 else s
  | none => s

/-- The lead's T_exp has passed at the arbiter (R421): the lead counts as fenced, and the follower that may be is promoted. -/
def State.leadExpired (s : State) (p group : Nat) : State :=
  match s.group? p group with
  | none => s
  | some G =>
    match G.lead? with
    | none => s
    | some x =>
      if x.tExp == 0 || fab s < x.tExp then s
      else
        let s := s.modGroup p group (fun G => G.mod x.device (fun y => { y with role := .fenced, tExp := 0 }))
        match G.heir (fab s) with
        | some y => s.arbPromote p group y.device
        | none => s

/-- Runs an arbiter's rule on a message of a known kind whose tag is right, once, after a lead's lease that has run out (R418, R421, R479). -/
def State.onArb (s : State) (p kind : Nat) (m : ArbMsg) (f : State → State) : State :=
  if !s.hasPart p || s.pkg != .on then s
  else if !s.arbOurs p kind m then s.badTag p
  else if s.arbTwice p kind m then s
  else f ((s.arbNote p kind m).leadExpired p m.group)

/-- RENEW at the arbiter (R421). -/
def execRenew (t part : Nat) (m : ArbMsg) (s : State) : Host.Outcome State Fault Refusal :=
  run t s (fun s => s.onArb part 1 m (fun s =>
    let s := s.arbMeet part m
    match s.group? part m.group with
    | none => s
    | some G =>
      match G.twin? m.device with
      | none => s
      | some x =>
        if G.unpairing || x.role == .fenced then s.arbFence part m.group m.device 0
        else if m.epoch != G.epoch && m.epoch != 0 then s
        else if x.role == .lead && G.split && G.leadLive (fab s) then (s.arbSplit part m)
        else s.arbGrant part m.group m.device))

/-- REPORT at the arbiter (R421). -/
def execReport (t part : Nat) (m : ArbMsg) (s : State) : Host.Outcome State Fault Refusal :=
  run t s (fun s => s.onArb part 4 m (fun s =>
    match s.group? part m.group with
    | none => s
    | some G =>
      match G.twin? m.device with
      | none => s
      | some x =>
        let s := s.arbSplit part m
        if m.reason == 1 then s.modGroup part m.group (fun G => { G with split := true })
        else if m.reason == 2 || m.reason == 3 then
          let s := s.modGroup part m.group (fun G => G.mod m.device (fun y => { y with reportedBad := y.reportedBad || y.role == .follower }))
          if G.leadLive (fab s) then s.arbFenceFollowers part m.group m.reason else s
        else if m.reason == 4 && x.role == .lead then
          let back := G.twins.filter (fun y => y.role == .fenced)
          let s := s.modGroup part m.group (fun G =>
            { G with split := false, twins := G.twins.map (fun y => { y with role := if y.role == .fenced then .follower else y.role, reportedBad := false }) })
          let s := (back.map (·.device)).foldl (fun s d => s.arbGrant part m.group d) s
          s.arbGrant part m.group m.device
        else s))

/-- RELEASE at the arbiter (R421): the lead makes way for the follower, or a twin unpairs. -/
def execRelease (t part : Nat) (m : ArbMsg) (s : State) : Host.Outcome State Fault Refusal :=
  run t s (fun s => s.onArb part 5 m (fun s =>
    match s.group? part m.group with
    | none => s
    | some G =>
      match G.twin? m.device with
      | none => s
      | some x =>
        if m.reason == 6 then
          let s := s.modGroup part m.group (fun G => { (G.mod m.device (fun y => { y with tExp := 0, released := true })) with unpairing := true })
          let s := s.arbSend part 2 m.group x 0 0 0
          match s.group? part m.group with
          | some G => if G.twins.length == 2 && G.twins.all (·.released) then s.modPart part (fun P => { P with arbiter := adel P.arbiter m.group }) else s
          | none => s
        else if m.reason == 0 && x.role == .lead then
          let s := s.modGroup part m.group (fun G => G.mod m.device (fun y => { y with role := .fenced, tExp := 0 }))
          match G.twins.find? (·.role == .follower) with
          | some y => s.arbPromote part m.group y.device
          | none => s
        else s))

def execLeaseExpiry (t part group : Nat) (s : State) : Host.Outcome State Fault Refusal :=
  run t s (fun s => s.leadExpired part group)

/-! ### TWIN_PAIR and TWIN_UNPAIR (R387-R392) -/

/-- A partition's own side of R388. -/
def State.pairMatches (s : State) (p : Nat) (q : PeerPair) : Bool :=
  let b := s.recD 10 p 0
  let mine := q.twin
  let n := 32 + 24 * min 4 (leAt b 3 1)
  let skip (i : Nat) : Bool := i < 3 || (20 ≤ i && i < 30)
  q.member == s.hw.member && q.dies == s.field 1 p 0 0 1 0 && q.ports == s.field 1 p 0 2 2 0 && q.breakout == s.field 1 p 0 32 4 0 &&
  q.brickCount == s.brickCount p && q.dataTag == s.dataTag p && leAt b 0 2 % 4096 == q.device && leAt mine 0 2 % 4096 == s.device p &&
  leAt b 2 1 + leAt mine 2 1 == 1 &&
  b.length == mine.length && (List.range n).all (fun i => skip i || b[i]? == mine[i]?)

/-- Frames of the change maps (R428): two maps of one frame for every 16,777,216 bricks, from the shared pool; without room none are held. -/
def State.takeMaps (s : State) (p : Nat) : State :=
  let n := 2 * ceilDiv (s.brickCount p) 16777216
  let r := (List.range n).foldl (fun (acc : State × Bool) _ =>
    if !acc.2 then acc
    else
      let S := acc.1.store p
      match S.mostFree (S.courses.map (·.1)) with
      | none => (acc.1, false)
      | some c => match S.freeFrame c with
        | some f => (acc.1.modStore p (fun S => { S with mapFrames := S.mapFrames ++ [(c, f)] }), true)
        | none => (acc.1, false)) (s, true)
  if r.2 then r.1.modTwin p (fun T => { T with mapsHeld := true }) else s.modTwin p (fun T => { T with wholeResync := true })

/-- TWIN_PAIR (R387, R388, R428). `peer` tells what the peer has issued within the 60 s, and the round trip measured. -/
def execTwinPair (t : Nat) (c : CmdRef) (part : Nat) (start : BitVec 2) (peer : PeerPair) (s : State) : Host.Outcome State Fault Refusal :=
  run t s (fun s =>
    let T := s.twin part
    let lead := s.field 10 part 0 2 1 0 == 1
    s.partCmd c 0x107 part (start == 3)
      [(!s.inMode part [.serve, .solo, .restore], .mode), ((s.rec? 10 part 0).isNone, .noRecord), (peer.issued && !s.pairMatches part peer, .mismatch),
       (!peer.issued, .peerTimeout), (decide (500000 < peer.rtt), .farPeer), (T.paired, .paired),
       ((start == 0 && !(s.store part).bricks.isEmpty) || (start == 2 && lead && !T.mapsHeld), .badStart)]
      (fun s =>
        let r := State.drawBytes 16 s
        let s := if lead then (r.2.programKey (65536 + 14 + part) 0 r.1).modSec (fun x => { x with sys := aset x.sys (14 + part) r.1 }) else s
        let s := s.modTwin part (fun T =>
          { TwinP.reset with paired := true, pairing := some (start.toNat, c, s.now), claims := if lead then .lead else .follower, renewAt := fab s,
                             wholeResync := start == 1, mapA := if start == 2 then T.mapA else [], mapB := if start == 2 then T.mapB else [], mapsHeld := T.mapsHeld,
                             replicaNext := T.replicaNext, badTags := T.badTags, swapSec := fab s / 1000000000, progressAt := s.now,
                             paths := T.paths.map (fun x => { x with up := true, lastIn := s.now, lastOut := s.now, downSince := none }) })
        let s := if (s.twin part).mapsHeld then s else s.takeMaps part
        (s.startRunning c 0x107 (.twinPair part)).renew part))

/-- TWIN_UNPAIR (R392). -/
def execTwinUnpair (t : Nat) (c : CmdRef) (part : Nat) (s : State) : Host.Outcome State Fault Refusal :=
  run t s (fun s => s.partCmd c 0x108 part false [(!(s.twin part).paired, .noTwin)]
    (fun s => (s.startRunning c 0x108 (.twinUnpair part)).unpair part (some c)))

end Sys2Proof.Machine
end

