-- ==== Sys2Proof/Machine/Dispatch.lean ====
section
/-! DEFINITION. The dispatch of a command to its meaning, one arm per constructor of `Instr`. -/
namespace Sys2Proof.Machine

def exec (i : Instr) (s : State) : Host.Outcome State Fault Refusal :=
  match i with
  | .rdmaWrite t p => Sys2Proof.Machine.execRdmaWrite t p s
  | .rdmaWriteWithImmediate t p imm => Sys2Proof.Machine.execRdmaWriteWithImmediate t p imm s
  | .rdmaReadRequest t p => Sys2Proof.Machine.execRdmaReadRequest t p s
  | .compareSwap t p cmp swp => Sys2Proof.Machine.execCompareSwap t p cmp swp s
  | .fetchAdd t p add => Sys2Proof.Machine.execFetchAdd t p add s
  | .atomicWrite t p => Sys2Proof.Machine.execAtomicWrite t p s
  | .flush t p sel bits => Sys2Proof.Machine.execFlush t p sel bits s
  | .send t p => Sys2Proof.Machine.execSend t p s
  | .cnp t f => Sys2Proof.Machine.execCnp t f s
  | .rateIncrease t qpn => Sys2Proof.Machine.execRateIncrease t qpn s
  | .cmReq t r => Sys2Proof.Machine.execCmReq t r s
  | .cmRtu t f => Sys2Proof.Machine.execCmRtu t f s
  | .cmDreq t f => Sys2Proof.Machine.execCmDreq t f s
  | .cmDrep t f => Sys2Proof.Machine.execCmDrep t f s
  | .repResend t qpn => Sys2Proof.Machine.execRepResend t qpn s
  | .closingTimeout t qpn => Sys2Proof.Machine.execClosingTimeout t qpn s
  | .timewaitExpiry t qpn => Sys2Proof.Machine.execTimewaitExpiry t qpn s
  | .ackCoalesce t qpn => Sys2Proof.Machine.execAckCoalesce t qpn s
  | .budgetAccept t part die => Sys2Proof.Machine.execBudgetAccept t part die s
  | .budgetWait t part die => Sys2Proof.Machine.execBudgetWait t part die s
  | .budgetRecompute t => Sys2Proof.Machine.execBudgetRecompute t s
  | .placement t part op => Sys2Proof.Machine.execPlacement t part op s
  | .flushResponse t qpn psn => Sys2Proof.Machine.execFlushResponse t qpn psn s
  | .qpFlushComplete t qpn => Sys2Proof.Machine.execQpFlushComplete t qpn s
  | .serviceMsgDequeue t part tenant => Sys2Proof.Machine.execServiceMsgDequeue t part tenant s
  | .statusRecordPlace t part => Sys2Proof.Machine.execStatusRecordPlace t part s
  | .hostHamperPost t part tenant => Sys2Proof.Machine.execHostHamperPost t part tenant s
  | .hostHamperCancel t part tenant => Sys2Proof.Machine.execHostHamperCancel t part tenant s
  | .hostHamperQuery t part tenant => Sys2Proof.Machine.execHostHamperQuery t part tenant s
  | .linkDown t port brk => Sys2Proof.Machine.execLinkDown t port brk s
  | .linkLost t port brk => Sys2Proof.Machine.execLinkLost t port brk s
  | .linkUp t port brk => Sys2Proof.Machine.execLinkUp t port brk s
  | .revokeForced t part idx => Sys2Proof.Machine.execRevokeForced t part idx s
  | .correctiveWrite t part fr page k => Sys2Proof.Machine.execCorrectiveWrite t part fr page k s
  | .correctiveReread t part fr page k err => Sys2Proof.Machine.execCorrectiveReread t part fr page k err s
  | .pageRebuild t part brick page => Sys2Proof.Machine.execPageRebuild t part brick page s
  | .groutWriteback t part brick page why => Sys2Proof.Machine.execGroutWriteback t part brick page why s
  | .parityRecompute t part brick page => Sys2Proof.Machine.execParityRecompute t part brick page s
  | .evacuateFrame t part course frame => Sys2Proof.Machine.execEvacuateFrame t part course frame s
  | .patrolRead t part course err => Sys2Proof.Machine.execPatrolRead t part course err s
  | .refresh t die ch rank class2 idle => Sys2Proof.Machine.execRefresh t die ch rank class2 idle s
  | .rfm t die ch sub rank b => Sys2Proof.Machine.execRfm t die ch sub rank b s
  | .rowHammerRfm t die ch sub rank bank rows => Sys2Proof.Machine.execRowHammerRfm t die ch sub rank bank rows s
  | .activateTableReset t => Sys2Proof.Machine.execActivateTableReset t s
  | .dimmTempSample t die ch slot temps ok => Sys2Proof.Machine.execDimmTempSample t die ch slot temps ok s
  | .thermalExitReturn t die ch => Sys2Proof.Machine.execThermalExitReturn t die ch s
  | .sidebandLost t die ch slot => Sys2Proof.Machine.execSidebandLost t die ch slot s
  | .pmicStatusRead t die ch slot status fail => Sys2Proof.Machine.execPmicStatusRead t die ch slot status fail s
  | .calibrationTrigger t phy why => Sys2Proof.Machine.execCalibrationTrigger t phy why s
  | .calibrationRun t phy run => Sys2Proof.Machine.execCalibrationRun t phy run s
  | .calibrationWindow t phy => Sys2Proof.Machine.execCalibrationWindow t phy s
  | .settingStep t phy => Sys2Proof.Machine.execSettingStep t phy s
  | .meshLinkRetrain t a port r => Sys2Proof.Machine.execMeshLinkRetrain t a port r s
  | .serviceLink t die => Sys2Proof.Machine.execServiceLink t die s
  | .flashReadComplete t part brick unit outs => Sys2Proof.Machine.execFlashReadComplete t part brick unit outs s
  | .lowMarkEviction t part course => Sys2Proof.Machine.execLowMarkEviction t part course s
  | .eviction t part brick => Sys2Proof.Machine.execEviction t part brick s
  | .frameRelease t part brick => Sys2Proof.Machine.execFrameRelease t part brick s
  | .evictionRetry t part op => Sys2Proof.Machine.execEvictionRetry t part op s
  | .agingSweep t part => Sys2Proof.Machine.execAgingSweep t part s
  | .hamperEntryStart t part hamper => Sys2Proof.Machine.execHamperEntryStart t part hamper s
  | .hamperDeadline t part hamper entry => Sys2Proof.Machine.execHamperDeadline t part hamper entry s
  | .directWindowRecord t die part hamper entry => Sys2Proof.Machine.execDirectWindowRecord t die part hamper entry s
  | .directWindowClose t part hamper entry => Sys2Proof.Machine.execDirectWindowClose t part hamper entry s
  | .holdEnd t part hamper entry => Sys2Proof.Machine.execHoldEnd t part hamper entry s
  | .writeBack t part brick unit group => Sys2Proof.Machine.execWriteBack t part brick unit group s
  | .writeBackComplete t part brick unit ok group => Sys2Proof.Machine.execWriteBackComplete t part brick unit ok group s
  | .relocation t part group => Sys2Proof.Machine.execRelocation t part group s
  | .readDisturbRelocate t part ch ce lun block => Sys2Proof.Machine.execReadDisturbRelocate t part ch ce lun block s
  | .wearLevel t part group => Sys2Proof.Machine.execWearLevel t part group s
  | .eraseSuperblock t part group sb => Sys2Proof.Machine.execEraseSuperblock t part group sb s
  | .objectSectorErase t sector => Sys2Proof.Machine.execObjectSectorErase t sector s
  | .trackedPageWrite t part table index => Sys2Proof.Machine.execTrackedPageWrite t part table index s
  | .checkpoint t part => Sys2Proof.Machine.execCheckpoint t part s
  | .checkpointFooter t part => Sys2Proof.Machine.execCheckpointFooter t part s
  | .pwrFailNAssert t => Sys2Proof.Machine.execPwrFailNAssert t s
  | .pwrFailNDeassert t => Sys2Proof.Machine.execPwrFailNDeassert t s
  | .holdupOkLoss t => Sys2Proof.Machine.execHoldupOkLoss t s
  | .holdupOkHold t => Sys2Proof.Machine.execHoldupOkHold t s
  | .bmcEmergencyDrain t => Sys2Proof.Machine.execBmcEmergencyDrain t s
  | .drainSet t part => Sys2Proof.Machine.execDrainSet t part s
  | .drainDone t part => Sys2Proof.Machine.execDrainDone t part s
  | .restore t r => Sys2Proof.Machine.execRestore t r s
  | .restoreTwinWait t part => Sys2Proof.Machine.execRestoreTwinWait t part s
  | .restoreExit t part => Sys2Proof.Machine.execRestoreExit t part s
  | .buildDone t part rep => Sys2Proof.Machine.execBuildDone t part rep s
  | .haltComplete t part => Sys2Proof.Machine.execHaltComplete t part s
  | .restartAfterCooling t part => Sys2Proof.Machine.execRestartAfterCooling t part s
  | .powerDown t => Sys2Proof.Machine.execPowerDown t s
  | .apply t part h es => Sys2Proof.Machine.execApply t part h es s
  | .replicate t part h r => Sys2Proof.Machine.execReplicate t part h r s
  | .confirm t part h upTo => Sys2Proof.Machine.execConfirm t part h upTo s
  | .progress t part h ps => Sys2Proof.Machine.execProgress t part h ps s
  | .digest t part h epoch count d => Sys2Proof.Machine.execDigest t part h epoch count d s
  | .fetchReq t part h qpn first count => Sys2Proof.Machine.execFetchReq t part h qpn first count s
  | .fetchData t part h qpn pkts => Sys2Proof.Machine.execFetchData t part h qpn pkts s
  | .fetchNone t part h qpn => Sys2Proof.Machine.execFetchNone t part h qpn s
  | .twinFetchTimeout t qpn => Sys2Proof.Machine.execTwinFetchTimeout t qpn s
  | .pageReq t part h brick page => Sys2Proof.Machine.execPageReq t part h brick page s
  | .pageData t part h brick page data => Sys2Proof.Machine.execPageData t part h brick page data s
  | .tableSync t part h body => Sys2Proof.Machine.execTableSync t part h body s
  | .qpOpen t part h q => Sys2Proof.Machine.execQpOpen t part h q s
  | .qpState t part h q => Sys2Proof.Machine.execQpState t part h q s
  | .brickData t part h b => Sys2Proof.Machine.execBrickData t part h b s
  | .resyncEnd t part h => Sys2Proof.Machine.execResyncEnd t part h s
  | .heartbeat t part h => Sys2Proof.Machine.execHeartbeat t part h s
  | .fenceNotice t part h reason => Sys2Proof.Machine.execFenceNotice t part h reason s
  | .applySend t part => Sys2Proof.Machine.execApplySend t part s
  | .progressSend t part => Sys2Proof.Machine.execProgressSend t part s
  | .heartbeatSend t part path => Sys2Proof.Machine.execHeartbeatSend t part path s
  | .digestEpoch t part => Sys2Proof.Machine.execDigestEpoch t part s
  | .mirrorPathDown t part path => Sys2Proof.Machine.execMirrorPathDown t part path s
  | .mirrorLost t part => Sys2Proof.Machine.execMirrorLost t part s
  | .followerLagging t part => Sys2Proof.Machine.execFollowerLagging t part s
  | .changeMapSwap t part => Sys2Proof.Machine.execChangeMapSwap t part s
  | .leaseRenew t part => Sys2Proof.Machine.execLeaseRenew t part s
  | .grant t part m => Sys2Proof.Machine.execGrant t part m s
  | .fence t part m => Sys2Proof.Machine.execFence t part m s
  | .renew t part m => Sys2Proof.Machine.execRenew t part m s
  | .report t part m => Sys2Proof.Machine.execReport t part m s
  | .release t part m => Sys2Proof.Machine.execRelease t part m s
  | .leaseExpiry t part group => Sys2Proof.Machine.execLeaseExpiry t part group s
  | .leaseGuard t part => Sys2Proof.Machine.execLeaseGuard t part s
  | .arbiterLost t part => Sys2Proof.Machine.execArbiterLost t part s
  | .releaseResend t part => Sys2Proof.Machine.execReleaseResend t part s
  | .penquavinData t part die h payload ce => Sys2Proof.Machine.execPenquavinData t part die h payload ce s
  | .penquavinAck t part h a => Sys2Proof.Machine.execPenquavinAck t part h a s
  | .resend t part h => Sys2Proof.Machine.execResend t part h s
  | .ackSend t part peer path => Sys2Proof.Machine.execAckSend t part peer path s
  | .retransmitTimeout t part peer path pseq => Sys2Proof.Machine.execRetransmitTimeout t part peer path pseq s
  | .pathDown t part peer path => Sys2Proof.Machine.execPathDown t part peer path s
  | .pathProbe t part peer path => Sys2Proof.Machine.execPathProbe t part peer path s
  | .reasmTimeout t part src cls msg => Sys2Proof.Machine.execReasmTimeout t part src cls msg s
  | .announceSend t part => Sys2Proof.Machine.execAnnounceSend t part s
  | .announce t part src a => Sys2Proof.Machine.execAnnounce t part src a s
  | .peerSilence t part peer => Sys2Proof.Machine.execPeerSilence t part peer s
  | .joinReq t part src ident => Sys2Proof.Machine.execJoinReq t part src ident s
  | .joinAccept t part src ident => Sys2Proof.Machine.execJoinAccept t part src ident s
  | .joinRefuse t part src cause retryAt => Sys2Proof.Machine.execJoinRefuse t part src cause retryAt s
  | .leave t part src => Sys2Proof.Machine.execLeave t part src s
  | .joinResend t part peer => Sys2Proof.Machine.execJoinResend t part peer s
  | .joinSlot t part peer => Sys2Proof.Machine.execJoinSlot t part peer s
  | .joinSlotRelease t part peer => Sys2Proof.Machine.execJoinSlotRelease t part peer s
  | .farRequest t part src r => Sys2Proof.Machine.execFarRequest t part src r s
  | .farResult t part src r => Sys2Proof.Machine.execFarResult t part src r s
  | .farRetry t part qpn sseq => Sys2Proof.Machine.execFarRetry t part qpn sseq s
  | .farTimeout t part qpn sseq => Sys2Proof.Machine.execFarTimeout t part qpn sseq s
  | .farClose t part src r => Sys2Proof.Machine.execFarClose t part src r s
  | .pauseFrame t port prio quanta => Sys2Proof.Machine.execPauseFrame t port prio quanta s
  | .pauseRepeat t port f => Sys2Proof.Machine.execPauseRepeat t port f s
  | .ptpAnnounce t f a => Sys2Proof.Machine.execPtpAnnounce t f a s
  | .ptpSync t f src offset gm => Sys2Proof.Machine.execPtpSync t f src offset gm s
  | .ppsEdge t offset => Sys2Proof.Machine.execPpsEdge t offset s
  | .holdover t => Sys2Proof.Machine.execHoldover t s
  | .timeLost t => Sys2Proof.Machine.execTimeLost t s
  | .meterSample t part => Sys2Proof.Machine.execMeterSample t part s
  | .minuteCut t part => Sys2Proof.Machine.execMinuteCut t part s
  | .hourlyEvidence t part => Sys2Proof.Machine.execHourlyEvidence t part s
  | .maintenanceSlot t part slot start => Sys2Proof.Machine.execMaintenanceSlot t part slot start s
  | .meterIndexFree t part idx => Sys2Proof.Machine.execMeterIndexFree t part idx s
  | .powerRequest t => Sys2Proof.Machine.execPowerRequest t s
  | .powerWithdraw t => Sys2Proof.Machine.execPowerWithdraw t s
  | .latchClear t => Sys2Proof.Machine.execLatchClear t s
  | .chainUpIn t level => Sys2Proof.Machine.execChainUpIn t level s
  | .chainDnIn t level => Sys2Proof.Machine.execChainDnIn t level s
  | .chainTimeout t => Sys2Proof.Machine.execChainTimeout t s
  | .seqPgAssert t entry raw sns => Sys2Proof.Machine.execSeqPgAssert t entry raw sns s
  | .pgTimeout t entry => Sys2Proof.Machine.execPgTimeout t entry s
  | .stepDelayEnd t entry => Sys2Proof.Machine.execStepDelayEnd t entry s
  | .pllLock t locked => Sys2Proof.Machine.execPllLock t locked s
  | .seqRetry t => Sys2Proof.Machine.execSeqRetry t s
  | .railFault t entry => Sys2Proof.Machine.execRailFault t entry s
  | .railDischarge t entry sns => Sys2Proof.Machine.execRailDischarge t entry sns s
  | .avsRead t rail mv ma ok fault => Sys2Proof.Machine.execAvsRead t rail mv ma ok fault s
  | .avsLost t rail => Sys2Proof.Machine.execAvsLost t rail s
  | .avsTargetWrite t => Sys2Proof.Machine.execAvsTargetWrite t s
  | .thermalUpdate t acts => Sys2Proof.Machine.execThermalUpdate t acts s
  | .diodeRead t diode temp => Sys2Proof.Machine.execDiodeRead t diode temp s
  | .ambientWrite t bytes => Sys2Proof.Machine.execAmbientWrite t bytes s
  | .ambientStale t => Sys2Proof.Machine.execAmbientStale t s
  | .throttleTick t => Sys2Proof.Machine.execThrottleTick t s
  | .criticalTrip t => Sys2Proof.Machine.execCriticalTrip t s
  | .refclkLoss t => Sys2Proof.Machine.execRefclkLoss t s
  | .refclkRecover t => Sys2Proof.Machine.execRefclkRecover t s
  | .boot t => Sys2Proof.Machine.execBoot t s
  | .watchdogRestart t => Sys2Proof.Machine.execWatchdogRestart t s
  | .watchdogRecovery t => Sys2Proof.Machine.execWatchdogRecovery t s
  | .watchdogReset t => Sys2Proof.Machine.execWatchdogReset t s
  | .stewardReset t die st => Sys2Proof.Machine.execStewardReset t die st s
  | .bootOk t target => Sys2Proof.Machine.execBootOk t target s
  | .brownOut t => Sys2Proof.Machine.execBrownOut t s
  | .brownOutRelease t => Sys2Proof.Machine.execBrownOutRelease t s
  | .logSuppressed t => Sys2Proof.Machine.execLogSuppressed t s
  | .logSummary t => Sys2Proof.Machine.execLogSummary t s
  | .logSectorErase t => Sys2Proof.Machine.execLogSectorErase t s
  | .entropyFail t => Sys2Proof.Machine.execEntropyFail t s
  | .unwrapBurst t => Sys2Proof.Machine.execUnwrapBurst t s
  | .rekeyUnit t part slot => Sys2Proof.Machine.execRekeyUnit t part slot s
  | .debugExpiry t => Sys2Proof.Machine.execDebugExpiry t s
  | .eapolRx t port brk frame => Sys2Proof.Machine.execEapolRx t port brk frame s
  | .functionLevelReset t port => Sys2Proof.Machine.execFunctionLevelReset t port s
  | .d3hotEntry t port => Sys2Proof.Machine.execD3hotEntry t port s
  | .perstN t port level => Sys2Proof.Machine.execPerstN t port level s
  | .dmaFail t port what tag => Sys2Proof.Machine.execDmaFail t port what tag s
  | .ownerLost t port => Sys2Proof.Machine.execOwnerLost t port s
  | .bar2Write t port off => Sys2Proof.Machine.execBar2Write t port off s
  | .registerWrite t port off size v => Sys2Proof.Machine.execRegisterWrite t port off size v s
  | .cfgLockOpen t port => Sys2Proof.Machine.execCfgLockOpen t port s
  | .cfgLockClose t port => Sys2Proof.Machine.execCfgLockClose t port s
  | .intStatusClear t port mask => Sys2Proof.Machine.execIntStatusClear t port mask s
  | .intEnableWrite t port value => Sys2Proof.Machine.execIntEnableWrite t port value s
  | .ringEnable t port ring => Sys2Proof.Machine.execRingEnable t port ring s
  | .ringDisable t port ring => Sys2Proof.Machine.execRingDisable t port ring s
  | .cmdTailDoorbell t port tail descs => Sys2Proof.Machine.execCmdTailDoorbell t port tail descs s
  | .cplHeadWrite t port head => Sys2Proof.Machine.execCplHeadWrite t port head s
  | .evtHeadWrite t port head => Sys2Proof.Machine.execEvtHeadWrite t port head s
  | .tmuxSelectWrite t port value => Sys2Proof.Machine.execTmuxSelectWrite t port value s
  | .msixUnmask t port vec => Sys2Proof.Machine.execMsixUnmask t port vec s
  | .completionIntTimer t port => Sys2Proof.Machine.execCompletionIntTimer t port s
  | .commandStart t port => Sys2Proof.Machine.execCommandStart t port s
  | .commandCompletion t port tag => Sys2Proof.Machine.execCommandCompletion t port tag s
  | .sidebandWrite t off bytes => Sys2Proof.Machine.execSidebandWrite t off bytes s
  | .mailboxGo t => Sys2Proof.Machine.execMailboxGo t s
  | .fwLoadChunk t off len flags sigOk => Sys2Proof.Machine.execFwLoadChunk t off len flags sigOk s
  | .ibi t cause accepted => Sys2Proof.Machine.execIbi t cause accepted s
  | .entdaa t addr => Sys2Proof.Machine.execEntdaa t addr s
  | .setdasa t addr => Sys2Proof.Machine.execSetdasa t addr s
  | .setnewda t addr => Sys2Proof.Machine.execSetnewda t addr s
  | .rstdaa t => Sys2Proof.Machine.execRstdaa t s
  | .enec t => Sys2Proof.Machine.execEnec t s
  | .disec t => Sys2Proof.Machine.execDisec t s
  | .getpid t => Sys2Proof.Machine.execGetpid t s
  | .getbcr t => Sys2Proof.Machine.execGetbcr t s
  | .getdcr t => Sys2Proof.Machine.execGetdcr t s
  | .getstatus t => Sys2Proof.Machine.execGetstatus t s
  | .getmwl t => Sys2Proof.Machine.execGetmwl t s
  | .getmrl t => Sys2Proof.Machine.execGetmrl t s
  | .setmwl t n => Sys2Proof.Machine.execSetmwl t n s
  | .setmrl t n => Sys2Proof.Machine.execSetmrl t n s
  | .rstact t whole => Sys2Proof.Machine.execRstact t whole s
  | .extest t => Sys2Proof.Machine.execExtest t s
  | .idcode t => Sys2Proof.Machine.execIdcode t s
  | .samplePreload t cells => Sys2Proof.Machine.execSamplePreload t cells s
  | .clamp t => Sys2Proof.Machine.execClamp t s
  | .highz t => Sys2Proof.Machine.execHighz t s
  | .extestPulse t => Sys2Proof.Machine.execExtestPulse t s
  | .extestTrain t => Sys2Proof.Machine.execExtestTrain t s
  | .jtagStatus t => Sys2Proof.Machine.execJtagStatus t s
  | .tmuxSel t v => Sys2Proof.Machine.execTmuxSel t v s
  | .jtagDebug t scope => Sys2Proof.Machine.execJtagDebug t scope s
  | .bypass t code => Sys2Proof.Machine.execBypass t code s
  | .nop t c => Sys2Proof.Machine.execNop t c s
  | .portClaim t c mask force => Sys2Proof.Machine.execPortClaim t c mask force s
  | .portRelease t c mask => Sys2Proof.Machine.execPortRelease t c mask s
  | .modeRequest t c part target => Sys2Proof.Machine.execModeRequest t c part target s
  | .imageLoad t c len flags img => Sys2Proof.Machine.execImageLoad t c len flags img s
  | .imagePatch t c len img => Sys2Proof.Machine.execImagePatch t c len img s
  | .timeSet t c seconds => Sys2Proof.Machine.execTimeSet t c seconds s
  | .twinPair t c part start peer => Sys2Proof.Machine.execTwinPair t c part start peer s
  | .twinUnpair t c part => Sys2Proof.Machine.execTwinUnpair t c part s
  | .tenantAuthorise t c part a => Sys2Proof.Machine.execTenantAuthorise t c part a s
  | .tenantWithdraw t c part tenant => Sys2Proof.Machine.execTenantWithdraw t c part tenant s
  | .createQp t c part q => Sys2Proof.Machine.execCreateQp t c part q s
  | .destroyQp t c part qpn => Sys2Proof.Machine.execDestroyQp t c part qpn s
  | .openWindow t c part w => Sys2Proof.Machine.execOpenWindow t c part w s
  | .revokeWindow t c part key => Sys2Proof.Machine.execRevokeWindow t c part key s
  | .loadKey t c part slot src blob => Sys2Proof.Machine.execLoadKey t c part slot src blob s
  | .rekey t c part slot src blob rate => Sys2Proof.Machine.execRekey t c part slot src blob rate s
  | .eraseKey t c part slot => Sys2Proof.Machine.execEraseKey t c part slot s
  | .importKeySet t c key => Sys2Proof.Machine.execImportKeySet t c key s
  | .systemKeySet t c part which blob => Sys2Proof.Machine.execSystemKeySet t c part which blob s
  | .macsecMode t c port brk mode window => Sys2Proof.Machine.execMacsecMode t c port brk mode window s
  | .macsecKey t c port brk k => Sys2Proof.Machine.execMacsecKey t c port brk k s
  | .macsecTxSelect t c port brk an => Sys2Proof.Machine.execMacsecTxSelect t c port brk an s
  | .macsecDelete t c port brk dir sci an => Sys2Proof.Machine.execMacsecDelete t c port brk dir sci an s
  | .eapolSend t c port brk len frame => Sys2Proof.Machine.execEapolSend t c port brk len frame s
  | .attest t c part kind slot nonce => Sys2Proof.Machine.execAttest t c part kind slot nonce s
  | .attestCert t c len => Sys2Proof.Machine.execAttestCert t c len s
  | .debugChallenge t c => Sys2Proof.Machine.execDebugChallenge t c s
  | .debugUnlock t c tok => Sys2Proof.Machine.execDebugUnlock t c tok s
  | .ownerSet t c blob => Sys2Proof.Machine.execOwnerSet t c blob s
  | .fwLoad t c len flags fw => Sys2Proof.Machine.execFwLoad t c len flags fw s
  | .ropSet t c target => Sys2Proof.Machine.execRopSet t c target s
  | .registerObject t c part o => Sys2Proof.Machine.execRegisterObject t c part o s
  | .unregisterObject t c part obj => Sys2Proof.Machine.execUnregisterObject t c part obj s
  | .promote t c part obj first pages hold flags => Sys2Proof.Machine.execPromote t c part obj first pages hold flags s
  | .demote t c part obj target evict => Sys2Proof.Machine.execDemote t c part obj target evict s
  | .hamperPost t c part tenant count entries => Sys2Proof.Machine.execHamperPost t c part tenant count entries s
  | .hamperCancel t c part hamper => Sys2Proof.Machine.execHamperCancel t c part hamper s
  | .hamperQuery t c part hamper => Sys2Proof.Machine.execHamperQuery t c part hamper s
  | .scrub t c part q => Sys2Proof.Machine.execScrub t c part q s
  | .pprApply t c part kind mask limit outs => Sys2Proof.Machine.execPprApply t c part kind mask limit outs s
  | .clearLost t c part brick page encipher => Sys2Proof.Machine.execClearLost t c part brick page encipher s
  | .logFreeze t c freeze => Sys2Proof.Machine.execLogFreeze t c freeze s
  | .logRead t c first max => Sys2Proof.Machine.execLogRead t c first max s
  | .optionSet t c compat addr => Sys2Proof.Machine.execOptionSet t c compat addr s
  | .seqTableSet t c tab => Sys2Proof.Machine.execSeqTableSet t c tab s
  | .buildEntry t steward => Sys2Proof.Machine.execBuildEntry t steward s
  | .buildFail t part why rep => Sys2Proof.Machine.execBuildFail t part why rep s
  | .deviceConflictRetry t part peer => Sys2Proof.Machine.execDeviceConflictRetry t part peer s
  | .joinRetry t part peer => Sys2Proof.Machine.execJoinRetry t part peer s
  | .arpRequest t f addr => Sys2Proof.Machine.execArpRequest t f addr s
  | .pcieLinkDown t port why => Sys2Proof.Machine.execPcieLinkDown t port why s
  | .warmReset t die => Sys2Proof.Machine.execWarmReset t die s
  | .lunRetired t part ch ce lun => Sys2Proof.Machine.execLunRetired t part ch ce lun s
  | .holdupOkEdge t level => Sys2Proof.Machine.execHoldupOkEdge t level s
  | .relocationComplete t part group ok => Sys2Proof.Machine.execRelocationComplete t part group ok s
  | .blockEraseComplete t part group sb failed => Sys2Proof.Machine.execBlockEraseComplete t part group sb failed s

end Sys2Proof.Machine
end

