-- ==== Sys2Proof/Machine/Regs.lean ====
section
/-! DEFINITION. What the registers of BAR0 (19), the MSI-X structures and the sideband's register map (R702) read as: views of the state. A read
changes nothing, so the table has no row for one. -/
namespace Sys2Proof.Machine
open Sys2Proof

/-- The low and the high doubleword of a 64-bit register (R753). -/
def lo32 (v : Nat) : Nat := v % 2 ^ 32
def hi32 (v : Nat) : Nat := v / 2 ^ 32 % 2 ^ 32

/-- A signed value in a field of `w` bits, in two's complement. -/
def signedField (w : Nat) (v : Int) : Nat := (v % 2 ^ w).toNat

/-- A temperature or rate of the thermal model in 1/16 °C (R767), rounded down. -/
def sixteenths (x : Rat) : Nat := signedField 16 (x * 16).floor

/-! ### Identification and port control (R755, R756) -/

/-- FW_SEQ of a running firmware copy. -/
def runningSeq (l : List FwCopy) (i : Nat) : Nat := match l[i]? with | some c => c.seq | none => 0

def State.idReg (s : State) (i off : Nat) : Nat :=
  if off == 0x00 then 0xD7A5 + 65536 * memberDeviceId s.hw.member
  else if off == 0x04 then s.hw.revision % 16 + 16 * s.dieCount + 256 * (i % 2)
  else if off == 0x08 then lo32 Config.serial.toNat
  else if off == 0x0C then hi32 Config.serial.toNat
  else if off == 0x10 then runningSeq s.svc.nv.svcFw s.svc.runningSvc
  else if off == 0x14 then runningSeq s.svc.nv.stewFw s.svc.runningStew
  else if off == 0x18 then Config.vFuse % 1024
  else 0

def CtlPort.controlReg (p : CtlPort) (off : Nat) : Nat :=
  if off == 0x04 then b2n p.lockOpen + 65536 * p.violations
  else if off == 0x08 then p.apertureSel.toNat
  else if off == 0x0C then p.tmuxSelect.toNat
  else 0

/-! ### Interrupts and rings (R759, R762) -/

def CtlPort.intReg (p : CtlPort) (off : Nat) : Nat :=
  if off == 0x00 then p.intStatus.toNat
  else if off == 0x04 then p.intEnable.toNat
  else if 0x10 ≤ off && off < 0x24 then ((p.intVmap[(off - 0x10) / 4]?).getD 0).toNat
  else 0

/-- CAUSE codes of a ring's status register (R762). -/
def RingCause.code : RingCause → Nat
  | .none => 0 | .disabled => 1 | .badDoorbell => 2 | .dma => 3 | .badSize => 4 | .reset => 5

def RingSt.reg (r : RingSt) (off : Nat) : Nat :=
  if off == 0x00 then lo32 r.base
  else if off == 0x04 then hi32 r.base
  else if off == 0x08 then r.log2
  else if off == 0x0C then b2n r.enable
  else if off == 0x10 then b2n r.stopped + 2 * r.cause.code
  else if off == 0x14 then r.tail
  else if off == 0x18 then r.head
  else 0

def CtlPort.ringReg (p : CtlPort) (off : Nat) : Nat :=
  if off < 0x40 then p.cmd.reg off
  else if off == 0x60 then p.cplIntCount
  else if off == 0x64 then p.cplIntTime
  else if off < 0x80 then p.cpl.reg (off - 0x40)
  else if off < 0xC0 then p.evt.reg (off - 0x80)
  else 0

/-! ### Partitions, time, heat and power (R765-R767) -/

def ownerCode : Owner → Nat
  | .both => 0 | .port0 => 1 | .port1 => 2

/-- ROLE of PART_MODE. -/
def TwinP.roleField (T : TwinP) : Nat :=
  if !T.paired then 0 else match T.role with | .lead => 1 | .follower => 2 | .fenced => 3

/-- STEP of PART_MODE: of R365 in DRAIN, of R380 in RESTORE, otherwise 0. -/
def Part.stepField (P : Part) : Nat :=
  match P.mode.mode with
  | .drain => P.store.drain.step
  | .restore => P.store.drain.rstep
  | _ => 0

/-- PART_MODE (R765). A partition of a package without partition modes reads the package's mode code. -/
def State.partMode (s : State) (p : Nat) : Nat :=
  match s.part? p with
  | none => 0
  | some P =>
    (if s.pkg == .on then P.mode.mode.code else s.pkg.code) + 8 * b2n P.mode.halted + 16 * ownerCode P.owner + 64 +
      128 * b2n P.twin.paired + 256 * P.twin.roleField + 1024 * P.stepField

def State.partReg (s : State) (off : Nat) : Nat :=
  if off == 0x80 then b2n (s.pkg == .seqDown) + 2 * s.ropLevel
  else if off == 0x88 then lo32 s.configGen
  else if off == 0x8C then hi32 s.configGen
  else if off < 0x80 then
    match s.part? (off / 0x20), off % 0x20 with
    | some _, 0x00 => s.partMode (off / 0x20)
    | some P, 0x04 => causeMask P.mode.causes
    | some P, 0x08 => P.remote.budget.data
    | some P, 0x0C => P.remote.budget.charged
    | _, _ => 0
  else 0

/-- Boundary of the latest minute cut of any partition (R766). -/
def State.lastCut (s : State) : Nat := (s.parts.map (fun e => e.2.meters.lastCut.getD 0)).foldl max 0

def timeModeCode : TimeMode → Nat
  | .acquiring => 0 | .locked => 1 | .holdover => 2 | .lost => 3

def State.timeReg (s : State) (off : Nat) : Nat :=
  if off == 0x00 then lo32 (fab s)
  else if off == 0x04 then hi32 (fab s)
  else if off == 0x08 then timeModeCode s.time.mode + 4 * b2n s.time.arb + 8 * b2n s.time.everLocked
  else if off == 0x10 then lo32 s.time.changedAt
  else if off == 0x14 then hi32 s.time.changedAt
  else if off == 0x18 then signedField 32 (max (-(2 ^ 31 - 1)) (min (2 ^ 31 - 1) s.time.offset))
  else if off == 0x20 then lo32 s.lastCut
  else if off == 0x24 then hi32 s.lastCut
  else 0

/-- A 3-bit field of each die, die 0 lowest. -/
def dieFields (l : List (Nat × DieTherm)) (f : DieTherm → Nat) : Nat :=
  ((List.range 8).map (fun d => match aget l d with | some x => f x % 8 * 2 ^ (3 * d) | none => 0)).sum

/-- Step of R623 or R631 that the sequencer reached last, and the entry of that step. -/
def SeqPhase.stepField : SeqPhase → Nat × Nat
  | .off => (0, 0) | .waitChainUp => (1, 0) | .waitPg e => (3, e) | .stepDelay e => (4, e) | .waitPll => (5, 0) | .loadFw => (7, 0)
  | .checkImage => (8, 0) | .up => (9, 0) | .waitChainDn => (2, 0) | .discharge e => (4, e)

def State.seqStatus (s : State) : Nat :=
  let q := s.svc.seq
  let st := q.phase.stepField
  let down := match q.phase with | .waitChainDn | .discharge _ => true | _ => false
  st.1 + 16 * st.2 + 256 * b2n down + 512 * b2n q.reversal + 1024 * (q.retries % 4)

/-- PIN_STATUS (R767): the supply pins after their filters, the others by level. -/
def State.pinStatus (s : State) : Nat :=
  let p := s.svc.pins
  b2n p.pwrFail + 2 * b2n p.holdupOk + 4 * b2n p.pwrReq + 8 * b2n p.thermTrip + 16 * b2n p.chainUpIn + 32 * b2n p.chainDnIn

/-- A word of a die's temperature and rise. -/
def DieTherm.word (x : DieTherm) : Nat := sixteenths x.temp + 65536 * sixteenths x.rise

/-- The ambient in use, in 1/16 °C: 50 °C while none has been written for 30 s (R650). -/
def State.ambientInUse (s : State) : Int := if s.svc.thermal.stale then 0x320 else s.svc.thermal.ambient

def State.heatReg (s : State) (off : Nat) : Nat :=
  let th := s.svc.thermal
  if off == 0x00 then s.svc.powerMw / 100 % 65536
  else if off == 0x04 then dieFields th.dies DieTherm.band
  else if off == 0x08 then dieFields th.dies DieTherm.throttle
  else if 0x10 ≤ off && off < 0x30 then
    match aget th.dies ((off - 0x10) / 4) with
    | some x => x.word
    | none => 0
  else if off == 0x30 then ((aget th.dies svcDie).map (fun x => DieTherm.word { x with temp := th.svcTemp })).getD 0
  else if off == 0x34 then signedField 16 s.ambientInUse + 65536 * b2n th.stale
  else if off == 0x40 then s.seqStatus
  else if off == 0x44 then s.pinStatus
  else 0

/-! ### Error capture, die blocks, MSI-X (R768-R770) -/

def State.errReg (s : State) (off : Nat) : Nat :=
  match s.die? (off / 8) with
  | some D => if off % 8 == 0 then lo32 D.remote.errReg else hi32 D.remote.errReg
  | none => 0

def sat32 (n : Nat) : Nat := min n (2 ^ 32 - 1)

/-- The fabric counters of a die block, in the order of their offsets. -/
def fabricNames : List String :=
  ["BAD_HEADER", "MISDIRECTED", "MALFORMED", "NOT_JOINED", "REASM_FULL", "DUPLICATE", "LATE_FRAGMENT", "REASM_TIMEOUT", "RESEND"]

/-- The partition that a die is assigned to, if it is. -/
def State.assigned (s : State) (d : Nat) : Option Nat := (List.range 4).find? (fun p => bit (s.field 1 p 0 0 1 0) d)

/-- DIE_STATUS (R769). A die's stewards are up while it is not lost. -/
def State.dieStatus (s : State) (d : Nat) (D : Die) : Nat :=
  let a := s.assigned d
  1 + 2 * b2n a.isSome + 4 * (a.getD 0 % 4) + 16 * b2n D.lost + 32 * (D.lostCause % 4) + (if D.lost then 0 else 128 * 15) +
    ((List.range 4).map (fun k => b2n ((D.meshUp[k]?).getD false) * 2 ^ (11 + k))).sum

def State.dieReg (s : State) (d off : Nat) : Nat :=
  match s.die? d with
  | none => 0
  | some D =>
    if off == 0x000 then s.dieStatus d D
    else if off == 0x004 then sat32 D.remote.wrongPort
    else if 0x100 ≤ off && off < 0x200 then sat32 (agetD D.remote.causes ((off - 0x100) / 4) 0)
    else if 0x200 ≤ off && off < 0x224 then
      match fabricNames[(off - 0x200) / 4]? with
      | some name => sat32 (agetD D.fabricCounters name 0)
      | none => 0
    else if 0x240 ≤ off && off < 0x250 then sat32 (agetD D.replays ((off - 0x240) / 4) (0, 0)).2
    else if off == 0x250 then sat32 D.dram.corrected
    else if off == 0x254 then sat32 D.dram.flagged
    else if off == 0x258 then sat32 D.dram.lostMerge
    else if off == 0x25C then sat32 D.remote.immDiscarded
    else if off == 0x260 then sat32 D.remote.badStatus
    else 0

/-- Word `off` of the MSI-X table: of a vector control word, bit 0 is the mask (R770). -/
def CtlPort.msixReg (p : CtlPort) (off : Nat) : Nat :=
  if off % 16 == 12 then b2n (!p.unmasked.contains (off / 16)) else agetD p.msixTable off 0

/-- Word `off` of the pending-bit array. -/
def CtlPort.pbaReg (p : CtlPort) (off : Nat) : Nat :=
  ((List.range 32).map (fun i => b2n (p.pendingBits.contains (8 * off + i)) * 2 ^ i)).sum

/-- The doubleword at an aligned offset of a port's BAR0; an offset not listed reads 0 (R752). -/
def State.bar0 (s : State) (i off : Nat) : Nat :=
  match s.port? i with
  | none => 0
  | some p =>
    if off < 0x1000 then s.idReg i off
    else if off < 0x2000 then p.controlReg (off - 0x1000)
    else if off < 0x3000 then p.intReg (off - 0x2000)
    else if off < 0x4000 then p.ringReg (off - 0x3000)
    else if off < 0x5000 then s.partReg (off - 0x4000)
    else if off < 0x6000 then s.timeReg (off - 0x5000)
    else if off < 0x7000 then s.heatReg (off - 0x6000)
    else if off < 0x7040 then s.errReg (off - 0x7000)
    else if 0x10000 ≤ off && off < 0x18000 then s.dieReg ((off - 0x10000) / 0x1000) (off % 0x1000)
    else if 0xF0000 ≤ off && off < 0xF1000 then p.msixReg (off - 0xF0000)
    else if 0xF8000 ≤ off && off < 0xF8020 then p.pbaReg (off - 0xF8000)
    else 0

/-- A read of the bytes at any offset (R753). -/
def State.readBar0 (s : State) (i off : Nat) : Nat → List Byte
  | 0 => []
  | n + 1 => BitVec.ofNat 8 (s.bar0 i (off / 4 * 4) / 256 ^ (off % 4)) :: State.readBar0 s i (off + 1) n

/-! ### The test multiplexer's signals (R710) -/

/-- The low bits of a number, least significant first. -/
def lowBits (n v : Nat) : List Bool := (List.range n).map (fun i => bit v i)

/-- Whether a pulse or an erase of the NV store is under way that no brown-out has stopped. -/
def State.nvBusy (s : State) : Bool := s.svc.nv.erasing.isSome && !s.svc.nv.eraseStopped

/-- A die's band for group 3. -/
def State.bandAt (s : State) (d : Nat) : Nat := (agetD s.svc.thermal.dies d DieTherm.reset).band

/-- The severe flag of the controller die with the highest temperature, the lower number first among equals. -/
def State.hottestSevere (s : State) : Bool :=
  let l := s.svc.thermal.dies.filter (fun e => decide (e.1 < 64))
  match l.find? (fun e => l.all (fun x => decide (x.2.temp ≤ e.2.temp))) with
  | some e => e.2.severe
  | none => false

/-- The signals of a group for its die, TMUX0 first (R710). A strobe is low between its pulses, which no state holds; within a group whose fields the manual only names in a
row, the order is the model's (log 210). -/
def State.tmuxSignals (s : State) (g d : Nat) : List Bool :=
  let q := s.svc.seq
  let p := s.svc.pins
  let st := q.phase.stepField
  let D := s.dram d
  match g with
  | 1 =>
    [bit (s.now / 4) 4] ++ lowBits 2 (if s.svc.watchdog.recovery then 1 else 0) ++ [s.svc.brownOut, s.nvBusy, s.nvBusy] ++ lowBits 4 st.1 ++ lowBits 4 st.2 ++
      [q.reversal, q.latched]
  | 2 =>
    let good := q.good.filterMap (fun i => (s.seqEntry i).map (·.pg))
    (List.range 12).map (fun i => good.contains i) ++ [!p.pwrFail, p.holdupOk, !p.thermTrip, p.pwrReq]
  | 3 => (List.range 5).flatMap (fun d => lowBits 3 (s.bandAt d)) ++ [s.hottestSevere]
  | 4 => [false, bit (fab s / 1000000) 0, false, false, false] ++ lowBits 2 (match s.time.mode with | .acquiring => 0 | .locked => 1 | .holdover => 2 | .lost => 3) ++ fill' 9
  | 5 => [bit s.now 7] ++ List.replicate 4 q.pllLocked ++ [!q.pllLocked, (match s.die? d with | some D => D.serviceLink | none => false)] ++ fill' 9
  | 6 =>
    (List.range 8).flatMap (fun i =>
      let port := 2 * d + i / 4
      [(agetD s.links (port, i % 4) LinkSt.reset).up, s.pfc.any (fun e => e.1.1 == port && (match e.2.pausedUntil with | some c => decide (s.now < c) | none => false))])
  | 7 =>
    let busy (c : Nat) : Bool := D.ranks.any (fun e => e.1.1 == c && decide (s.now < e.2.busyUntil))
    let window (c : Nat) : Bool := D.ranks.any (fun e => e.1.1 == c && decide (s.now < e.2.windowUntil))
    (List.range 4).map busy ++ (List.range 4).map window ++ lowBits 3 (agetD s.svc.thermal.dies d DieTherm.reset).throttle ++ [D.channels.any (fun e => e.2.hot)] ++ fill' 4
  | 8 =>
    let busy (c : Nat) : Bool := match s.partOfDie d with
      | some p => (s.flash p).wbs.any (fun w => (s.flash p).channels[w.loc.ch]? == some (d, c)) || (s.flash p).reads.any (fun r => match (s.flash p).entry r.brick r.unit with | some e => (s.flash p).channels[e.loc.ch]? == some (d, c) | none => false)
      | none => false
    (List.range 8).map busy ++ fill' 8
  | 9 => (List.range 4).flatMap (fun l => [(match s.die? d with | some D => D.meshUp[l]? == some true | none => false), false]) ++ fill' 8
  | 10 => (List.range 4).flatMap (fun p => lowBits 3 (s.partMode p % 8) ++ [(s.modeSt p).halted])
  | _ => fill' 16
where fill' (n : Nat) : List Bool := List.replicate n false

/-- What TMUX0 to TMUX15 carry (R710). -/
def State.tmuxPins (s : State) : List Bool := s.tmuxSignals s.tmuxDriven s.svc.pins.tmuxDie

/-! ### The sideband's registers (R702) -/

/-- SB_STATUS. -/
def State.sbStatus (s : State) : Nat :=
  s.svc.fwStatus % 4 + 4 * (match s.pkg with | .cold => 0 | .seqUp | .seqDown => 1 | .on => 2) + 16 * b2n s.svc.seq.latched +
    32 * b2n s.svc.thermal.lockout + 64 * b2n s.svc.pins.thermTrip + 128 * b2n (logFrozen s) + 256 * (s.ropLevel % 4) + 1024 * b2n s.svc.thermal.stale

/-- SB_PART_p. -/
def State.sbPart (s : State) (p : Nat) : List Byte :=
  match s.part? p with
  | some P => natLE 4 (s.partMode p % 16 + 16 + 32 * b2n P.twin.paired) ++ natLE 4 (causeMask P.mode.causes)
  | none => fill 8 0

/-- Offsets 0x0000 to 0x00BF of the register map, as bytes; write-only and unlisted offsets read 0 (R701, R702). -/
def State.sbRegs (s : State) : List Byte :=
  let b := s.svc.sideband
  natLE 4 (s.idReg 0 0) ++ natLE 4 (s.hw.revision % 16 + 16 * s.dieCount + 256) ++ natLE 8 Config.serial.toNat ++ natLE 4 s.sbStatus ++
    natLE 4 s.pinStatus ++ fill 8 0 ++ s.sbPart 0 ++ s.sbPart 1 ++ s.sbPart 2 ++ s.sbPart 3 ++ natLE 2 (signedField 16 s.ambientInUse) ++
    fill 14 0 ++ ((List.range 8).map (fun d => natLE 2 (s.heatReg (0x10 + 4 * d)))).flatten ++ natLE 2 (s.heatReg 0x30) ++ fill 2 0 ++
    natLE 4 (s.heatReg 0x04) ++ natLE 2 (s.heatReg 0x00) ++ fill 22 0 ++
    natLE 1 (2 * b2n b.busy + 4 * b2n b.doneBit) ++ natLE 1 b.status ++ natLE 2 b.resultLen ++ natLE 2 b.opcode ++ fill 2 0 ++ b.params

/-- The byte that a private read takes at an offset (R701). -/
def State.sbByte (s : State) (off : Nat) : Byte :=
  if off < 0xC0 then (s.sbRegs[off]?).getD 0
  else if off < 0xF4 then (s.svc.sideband.result[off - 0xC0]?).getD 0
  else if 0x1000 ≤ off && off < 0x2000 then Memory.read s.svc.sideband.data (off - 0x1000)
  else 0

end Sys2Proof.Machine
end

