-- ==== Sys2Proof/Machine/NvView.lean ====
section
/-! DEFINITION. What BAR2 shows of the configuration image (R565, R566) and of the NV store (R668): views of the state, by byte. Where the spec names a
structure and gives it no layout, the layout is the model's own (log 205). -/
namespace Sys2Proof.Machine
open Sys2Proof

/-- A table of the state aperture: the code that names it in the directory, its partition or die, the stride of its entries, its offset, its length, the count of
entries, and the bytes of each (R747). -/
structure Region where
  code : Nat
  who : Nat
  size : Nat
  off : Nat
  len : Nat
  count : Nat
  entry : Nat → List Byte

/-- Byte `i` of a string; past its end 0. -/
def byteAt (bs : List Byte) (i : Nat) : Byte := (bs[i]?).getD 0

/-- A byte of a table, by its offset in BAR2; past the end of an entry or of the table it reads 0 (R747). -/
def Region.read (r : Region) (x : Nat) : Byte :=
  let o := x - r.off
  if o / r.size < r.count then byteAt (r.entry (o / r.size)) (o % r.size) else 0

def Region.holds (r : Region) (x : Nat) : Bool := decide (r.off ≤ x) && decide (x < r.off + r.len)

/-- A byte of a list of tables; 0 where none lies (R747). -/
def readRegions (l : List Region) (x : Nat) : Byte := match l.find? (·.holds x) with | some r => r.read x | none => 0

/-- A table whose entries are single bytes. -/
def bytesRegion (code who off len : Nat) (bs : List Byte) : Region :=
  { code := code, who := who, size := 1, off := off, len := len, count := min len bs.length, entry := fun i => [byteAt bs i] }

/-- A table of one entry. -/
def oneEntry (code who off len : Nat) (bs : List Byte) : Region :=
  { code := code, who := who, size := len, off := off, len := len, count := 1, entry := fun _ => bs }

/-- A table of numbered entries of a stride. -/
def rowsRegion (code who off size count : Nat) (f : Nat → List Byte) : Region :=
  { code := code, who := who, size := size, off := off, len := size * count, count := count, entry := f }

/-! ### The image (R535-R539, R553, R565, R566) -/

/-- The bytes of a record: header, padded payload, CRC-32C and four zero bytes (R537). -/
def ImgRec.bytes (r : ImgRec) : List Byte :=
  let b := natLE 2 r.typ ++ natLE 1 r.part ++ natLE 1 r.inst ++ natLE 4 r.payload.length ++ r.payload ++ fill (ceilDiv r.payload.length 8 * 8 - r.payload.length) 0
  b ++ natLE 4 (crc32c b) ++ fill 4 0

/-- A stored image as it was loaded: its bytes and its trailer (R539). The signature is the owner's (log 206). -/
def StoredImage.bytes (i : StoredImage) : List Byte := i.body ++ i.digest ++ i.ownerKey ++ (Config.ownerSign i.digest i.ownerKey).take 4627

/-- Zeros up to the next multiple of 4,096 bytes. -/
def to4k (n : Nat) : Nat := ceilDiv n 4096 * 4096 - n

/-- The chain of a copy, from a 4,096-byte boundary on (R553). -/
def patchesBytes : Nat → List StoredImage → List Byte
  | _, [] => []
  | i, q :: qs =>
    let b := natLE 4 i ++ natLE 4 q.length ++ fill 244 0 ++ natLE 4 (if q.committed then 0x5A5A5A5A else 0xFFFFFFFF) ++ q.bytes
    b ++ fill (to4k b.length) 0xFF ++ patchesBytes (i + 1) qs

/-- A copy region: header, full image, chain (R553). A copy that holds nothing is erased. -/
def ImageCopy.bytes (c : ImageCopy) : List Byte :=
  match c.full with
  | none => []
  | some f =>
    let b := f.bytes
    natLE 4 0x434F5059 ++ natLE 8 c.gen ++ natLE 4 f.length ++ fill 236 0 ++ natLE 4 (if c.committed then 0x5A5A5A5A else 0xFFFFFFFF) ++ fill 3840 0 ++
      b ++ fill (to4k b.length) 0xFF ++ patchesBytes 1 c.patches

/-- DERIVED_PARTITION (R566): what depends on the geometry reads 0 until BUILD has measured it. -/
def State.derivedPartition (s : State) (p : Nat) : List Byte :=
  let S := s.store p
  let F := S.flash
  let built := !S.courses.isEmpty
  let known (n : Nat) : Nat := if built then n else 0
  natLE 4 (s.brickCount p) ++ natLE 4 (known (F.capacity (s.field 16 p 0 0 2 120))) ++ natLE 4 (S.courses.map (fun e => e.2.frames)).sum ++
    natLE 4 S.metaFrames ++ natLE 4 S.pool ++ natLE 2 (s.nTenants p) ++ natLE 2 (known (F.channels.length * F.ces * F.luns)) ++
    natLE 2 (known F.groups.length) ++ fill 2 0 ++ natLE 8 S.metaBytes ++ natLE 4 (s.windowLimit p) ++ fill 24 0

/-- DERIVED_COURSE (R566). -/
def State.derivedCourse (s : State) (p i : Nat) (b : List Byte) : List Byte :=
  match aget (s.store p).courses i with
  | some C => b.take 4 ++ natLE 1 C.r ++ natLE 1 C.h ++ fill 2 0 ++ natLE 4 C.rows ++ natLE 4 C.frames ++ natLE 4 C.metaFrames ++ fill 4 0 ++
      (List.range 32).map (fun j => match C.channels[j]? with | some c => BitVec.ofNat 8 (4 * c.1 + c.2) | none => 0xFF)
  | none => b.take 4 ++ fill 20 0 ++ fill 32 0xFF

/-- DERIVED_PANTRY (R566): entries of each region, at its unit (R545). -/
def derivedPantry (b : List Byte) : List Byte :=
  let n (off per : Nat) : List Byte := natLE 4 (leAt b off 2 * per)
  n 0 1024 ++ n 2 256 ++ n 4 2048 ++ n 8 1024 ++ n 10 16 ++ n 12 4096 ++ n 14 128 ++ n 16 512

/-- The derived records, in the order of R538. -/
def State.derived (s : State) : List ImgRec :=
  let of (t : Nat) : List ImgRec := s.image.eff.filter (fun r => r.typ == t)
  (of 1).map (fun r => { typ := 0x4001, part := r.part, inst := 0, payload := s.derivedPartition r.part }) ++
    (of 2).map (fun r => { typ := 0x4002, part := r.part, inst := r.inst, payload := s.derivedCourse r.part r.inst r.payload }) ++
    (of 3).map (fun r => { typ := 0x4003, part := 0xFF, inst := r.inst, payload := derivedPantry r.payload })

/-- Every record of the effective image: those in effect and the derived ones, by the order of R538 (optional types come last). -/
def State.effRecords (s : State) : List ImgRec :=
  s.image.eff.filter (fun r => decide (r.typ < 0x4000)) ++ s.derived ++ s.image.eff.filter (fun r => decide (0x4000 ≤ r.typ))

/-- The effective image (R565): a header with KIND 2 and C_0, its records, and a trailer that holds the chain digest. The generation counter stands at bytes 28 to 35 of the
header (log 207). Without an effective image nothing is shown. -/
def State.effBytes (s : State) : List Byte :=
  if s.image.eff.isEmpty then []
  else
    let recs := (s.effRecords.map ImgRec.bytes).flatten
    let n := memberDies s.hw.member
    natLE 4 0x58414556 ++ natLE 2 1 ++ [2, BitVec.ofNat 8 n, BitVec.ofNat 8 n, 0, 0, 0] ++ natLE 4 (128 + recs.length + trailerLen) ++ natLE 4 s.effRecords.length ++
      natLE 8 s.image.effSeq ++ natLE 8 s.image.gen ++ fill 28 0 ++ pad64 s.image.c0 ++ recs ++ pad64 s.image.chain ++ fill 7219 0

/-- The image region of BAR2 (R747): the copy in use, then the effective image. -/
def State.imageRegions (s : State) : List Region :=
  let inUse := match s.image.inUse.bind (fun k => s.image.copies[k]?) with | some c => c.bytes | none => []
  [bytesRegion 0x0701 0 0x800000 0x400000 inUse, bytesRegion 0x0702 0 0xC00000 0x400000 s.effBytes]

/-! ### The NV store (R668) -/

/-- A boot anchor record (R671). -/
def Anchor.bytes (a : Anchor) : List Byte :=
  let b := natLE 1 a.typ ++ fill 3 0 ++ natLE 8 a.seq ++ natLE 8 a.value ++ fill 8 0
  b ++ natLE 2 (crc16 b) ++ [0, 0x5A]

/-- An entry of the sequence table (R616). -/
def SeqEntry.bytes (e : SeqEntry) : List Byte :=
  natLE 1 e.en ++ natLE 1 e.pg ++ natLE 1 (e.sns.getD 0xFF) ++ natLE 1 (e.avs.getD 0xFF) ++ natLE 2 e.nominalMv ++ natLE 2 e.offMv ++ natLE 2 e.pgTimeout ++
    natLE 2 e.stepDelay ++ natLE 2 e.discharge ++ natLE 2 e.nominalW

/-- A sequence table (R616). -/
def SeqTable.bytes (t : SeqTable) : List Byte :=
  let b := natLE 4 0x53514E31 ++ natLE 1 t.entries.length ++ natLE 1 (b2n t.follow) ++ natLE 2 t.upTimeout ++ natLE 2 t.dnTimeout ++ natLE 1 t.coreEntry ++ fill 5 0 ++
    (t.entries.map SeqEntry.bytes).flatten
  b ++ natLE 4 (crc32c b)

/-- An option record (R673). -/
def OptionRec.bytes (o : OptionRec) (dies : Nat) : List Byte :=
  let table := if o.seqTable.isEmpty then (SeqTable.factory dies).bytes else o.seqTable
  let b := natLE 4 0x4F505431 ++ natLE 8 o.gen ++ natLE 1 (b2n o.vendorDebug + 2 * b2n o.logCompat + 4 * b2n o.logFrozen) ++ natLE 1 (o.i3cAddr % 128) ++ fill 2 0 ++
    pad64 o.ownerHash ++ (table ++ fill 240 0).take 240 ++ fill 696 0
  b ++ natLE 4 (crc32c b) ++ natLE 4 0x5A5A5A5A

/-- An entry of the erase journal (R681). -/
def EraseEntry.bytes (e : EraseEntry) : List Byte :=
  natLE 2 e.sector ++ natLE 1 e.reason ++ [0] ++ natLE 4 e.count ++ natLE 6 e.jseq ++ [0x5A, if e.done then 0xA5 else 0xFF]

/-- An evidence record as the ring holds it (R502). -/
def Evidence.record (e : Evidence) : List Byte := (e.bytes ++ fill 3273 0xFF).take 8188 ++ natLE 4 0x5A5A5A5A

/-- A record of the object table (R274). -/
def Object.bytes (o : Object) : List Byte :=
  natLE 4 (o.first % 2 ^ 28 + o.part % 4 * 2 ^ 28 + 3 * 2 ^ 30) ++ natLE 4 (o.bricks % 2 ^ 24 + o.placement % 4 * 2 ^ 24 + 63 * 2 ^ 26) ++
    natLE 2 (o.tenant % 4096 + 15 * 4096) ++ natLE 2 o.courses ++ fill 3 0xFF ++ [if o.removed && o.freeing.isNone then 0 else 0x5A]

/-- Logbook records laid out from a position of their region, none across a 256-byte page (R684): the byte at `x`. -/
def logByte (x : Nat) : Nat → List LogRec → Byte
  | _, [] => 0xFF
  | used, r :: rs =>
    let g := granules r.payload.length
    let at_ := placeInSector used g
    if x < at_ then 0xFF else if x < at_ + g then byteAt r.bytes (x - at_) else logByte x (at_ + g) rs

/-- A byte of a rolling sector: its header, then its records (R685). -/
def Logbook.rolling (l : Logbook) (sector x : Nat) : Byte :=
  let rs := l.recs.filter (fun r => r.sector == some sector)
  match rs with
  | [] => 0xFF
  | r :: _ => if x < 32 then byteAt (natLE 4 0x4C4F4752 ++ natLE 4 r.seq ++ fill 24 0) x else logByte x 32 rs

/-- The PHY that a code names: 0 DRAM, 1 ONFI, 2 port, 3 mesh, with its numbers. -/
def phyBytes : PhyId → List Byte
  | .dram d c r => [0, BitVec.ofNat 8 d, BitVec.ofNat 8 c, BitVec.ofNat 8 r]
  | .onfi d c => [1, BitVec.ofNat 8 d, BitVec.ofNat 8 c, 0]
  | .port p => [2, BitVec.ofNat 8 p, 0, 0]
  | .mesh d p => [3, BitVec.ofNat 8 d, BitVec.ofNat 8 p, 0]

/-- Settings of a PHY, two bytes each. -/
def settingBytes (l : List Int) : List Byte := (l.map (fun v => natLE 2 (signedField 16 v))).flatten

/-- The spare-row map of a DIMM slot (R216): the SPD serial number, its marks from byte 64 on in entries of 16 bytes, its rows from byte 4,096 on. -/
def StoreNv.slotMap (N : StoreNv) (die ch slot i : Nat) : List Byte :=
  let marks := N.marks.filter (fun m => m.die == die && m.ch == ch && m.slot == slot)
  let rows := N.spare.filter (fun r => r.die == die && r.ch == ch && r.slot == slot)
  if i == 0 then natLE 8 (agetD N.slotSerials (die, ch, slot) 0)
  else if i < 4 then []
  else if i < 256 then match marks[i - 4]? with | some m => natLE 1 m.rank ++ natLE 1 m.sub ++ natLE 1 m.pos ++ [0x5A] ++ fill 4 0 ++ natLE 8 m.served | none => []
  else match rows[i - 256]? with | some r => r.bytes | none => []

/-- The bad-block table (R320): every bad block of a partition. -/
def State.badList (s : State) : List (Nat × (Nat × Nat × Nat × Nat)) := (List.range 4).flatMap (fun p => (s.store p).flash.badBlocks.map (fun b => (p, b)))

/-- The firmware copy `k` of a target as its region holds it. -/
def fwCopyBytes (l : List FwCopy) (k : Nat) : List Byte := match l[k]? with | some c => c.bytes | none => []

/-- The copy `k` of the image. -/
def State.imageCopyBytes (s : State) (k : Nat) : List Byte := match s.image.copies[k]? with | some c => c.bytes | none => []

/-- An entry of the object table: erased where no record stands (R274). -/
def StoreNv.objectBytes (N : StoreNv) (i : Nat) : List Byte := match aget N.objects i with | some o => o.bytes | none => fill 16 0xFF

/-- A record of the evidence ring; erased where none stands. -/
def State.evidenceAt (s : State) (i : Nat) : List Byte :=
  match (s.parts.flatMap (fun e => e.2.meters.evidence)).find? (fun e => (e.seq - 1) % 2880 == i) with
  | some e => e.record
  | none => fill 8192 0xFF

/-- The NV store by its own offsets (R668, R747), from `base` on. The key records, the private identity key and the wrapped fields of the authorisation records read 0: they
have no table here. Of superseded anchors and option records only what the state keeps is shown (log 205). -/
def State.nvRegions (s : State) (base : Nat) : List Region :=
  let n := s.svc.nv
  let N := s.storeNv
  let log := s.svc.log
  let perm := log.recs.filter (fun r => r.sector.isNone)
  let bad := s.badList
  [{ code := 0x0801, who := 0, size := 32, off := base + 65536 * n.anchorSector, len := 65536, count := n.anchors.length, entry := fun i => match n.anchors[i]? with | some a => a.bytes | none => [] },
   bytesRegion 0x0802 0 (base + 0x20000) 0x10000 Config.identityKey,
   bytesRegion 0x0803 0 (base + 0x30000) 0x30000 n.certChain,
   oneEntry 0x0804 0 (base + 0x60000 + 65536 * n.optionSector + 1024 * (n.optionUsed - 1)) 1024 (match n.option with | some o => o.bytes s.dieCount | none => []),
   rowsRegion 0x0805 0 (base + 0x80000) 16 8192 (fun i => match n.journal.find? (fun e => (e.jseq - 1) % 8192 == i) with | some e => e.bytes | none => fill 16 0xFF),
   bytesRegion 0x0806 0 (base + 0x100000) 0x400000 (fwCopyBytes n.svcFw 0),
   bytesRegion 0x0806 1 (base + 0x500000) 0x400000 (fwCopyBytes n.svcFw 1),
   bytesRegion 0x0807 0 (base + 0x900000) 0x800000 (fwCopyBytes n.stewFw 0),
   bytesRegion 0x0807 1 (base + 0x1100000) 0x800000 (fwCopyBytes n.stewFw 1),
   bytesRegion 0x0808 0 (base + 0x1900000) 0x400000 (s.imageCopyBytes 0),
   bytesRegion 0x0808 1 (base + 0x1D00000) 0x400000 (s.imageCopyBytes 1),
   rowsRegion 0x0809 0 (base + 0x2500000) 16 65536 (fun i => N.slotMap (i / 8192) (i / 2048 % 4) (i / 1024 % 2) (i % 1024)),
   rowsRegion 0x080A 0 (base + 0x2600000) 32 4096 (fun i => slice N.lostBytes (32 * i) 32),
   rowsRegion 0x080B 0 (base + 0x2700000) 1024 4096 (fun i => match N.phySettings[i]? with | some e => phyBytes e.1 ++ fill 4 0 ++ natLE 8 e.2.1 ++ settingBytes e.2.2 | none => []),
   rowsRegion 0x080C 0 (base + 0x2B00000) 8 2097152 (fun i => match bad[i]? with
      | some (p, b) => natLE 1 p ++ natLE 1 b.1 ++ natLE 1 b.2.1 ++ natLE 1 b.2.2.1 ++ natLE 4 b.2.2.2
      | none => fill 8 0xFF),
   rowsRegion 0x080D 0 (base + 0x3B00000) 16 1048576 N.objectBytes,
   rowsRegion 0x080E 0 (base + 0x4B00000) 8192 2880 s.evidenceAt,
   { code := 0x080F, who := 0, size := 1, off := base + 0x6200000, len := 0x400000, count := 0x400000, entry := fun i => [logByte i 0 perm] },
   { code := 0x0810, who := 0, size := 1, off := base + 0x6600000, len := 0x1C00000, count := 0x1C00000, entry := fun i => [log.rolling (i / 65536) (i % 65536)] }]

end Sys2Proof.Machine
end

