-- ==== Sys2Proof/Machine/Aperture.lean ====
section
/-! DEFINITION. The state aperture BAR2 (R745-R750): its directory, its regions, the table window and the version counters, as views of the state by byte. A
read changes nothing, so the table has no row for one. The offsets within a region, the region codes of the directory and the layouts of structures to which the spec gives
none are the model's own (log 205). -/
namespace Sys2Proof.Machine
open Sys2Proof

/-- Bytes of each of a list of numbers. -/
def leAll (n : Nat) (l : List Nat) : List Byte := (l.map (natLE n)).flatten

/-- A rational temperature or power in 32 bits of two's complement, in 1/16 of its unit. -/
def sixteenths32 (x : Rat) : Nat := signedField 32 (x * 16).floor

/-! ### Package, thermal, registers, journals, EAPOL slots -/

/-- A partition's entry of the package region: mode, causes, HALTED, owner, drain and restore step, budget terms, hold-up time (R353, R357, R729, R747). -/
def State.partEntry (s : State) (p : Nat) : List Byte :=
  match s.part? p with
  | none => []
  | some P =>
    let b := P.remote.budget
    natLE 4 (s.partMode p) ++ natLE 4 (causeMask P.mode.causes) ++ natLE 4 (causeMask P.mode.haltCauses) ++ [BitVec.ofNat 8 (b2n P.mode.halted), BitVec.ofNat 8 (ownerCode P.owner)] ++
      natLE 1 P.store.drain.step ++ natLE 1 P.store.drain.rstep ++
      leAll 8 [b.b, b.pages, b.data, b.meta_, b.homeFree, b.charged, b.wP, b.pMeas, s.field 0xB 0xFF 0 0 4 0, s.field 0xB 0xFF 0 4 4 0]

/-- The package's own entry: CONFIG_GEN, ROP level, mode, causes, time state, sequencer step (R485, R747, R748). -/
def State.packageEntry (s : State) : List Byte :=
  natLE 8 s.configGen ++ natLE 1 s.ropLevel ++ natLE 1 s.pkg.code ++ natLE 1 (timeModeCode s.time.mode) ++ natLE 1 (b2n s.time.arb) ++ natLE 4 (causeMask s.pkgCauses) ++
    natLE 8 s.time.changedAt ++ natLE 4 s.seqStatus ++ natLE 4 s.svc.powerMw

/-- A node of the thermal model (R747): model temperature, θ and diode reading in 1/16 °C, and its power in 1/16 mW. A node without a diode reading reads 0x8000_0000 there. -/
def State.nodeEntry (s : State) (n : Nat) : List Byte :=
  match aget s.svc.thermal.nodes n with
  | none => []
  | some x => leAll 4 [sixteenths32 x.temp, sixteenths32 (s.theta n x), (match x.diode with | some d => sixteenths32 d | none => 2 ^ 31), sixteenths32 x.power]

/-- A die's bands, throttle level and rise rate; entry 8 is the service die's. -/
def State.thermEntry (s : State) (d : Nat) : List Byte :=
  match aget s.svc.thermal.dies (if d == 8 then svcDie else d) with
  | some x => leAll 4 [sixteenths32 x.temp, sixteenths32 x.rise] ++ [BitVec.ofNat 8 x.band, BitVec.ofNat 8 x.throttle]
  | none => []

/-- A journal entry (R749). PHASE of the completion reads 0: the journal is written before the ring (log 205). -/
def JEntry.bytes (e : JEntry) : List Byte :=
  let part (n : Nat) (bs : List Byte) : List Byte := (bs ++ fill n 0).take n
  let st : Nat := match e.completed with | some _ => e.status.code | none => 0xFF
  part 64 e.desc ++ natLE 4 e.tag.toNat ++ natLE 2 e.opcode ++ natLE 1 st ++ [0] ++ natLE 4 e.detail ++ part 52 e.result ++ natLE 8 e.jseq ++ natLE 8 e.fetched ++
    natLE 8 (e.completed.getD 0) ++ [BitVec.ofNat 8 (b2n e.written)]

/-- Entry `j` of a port's journal: slot JSEQ mod 4,096 (R749). -/
def State.journalAt (s : State) (i j : Nat) : List Byte :=
  match s.port? i with
  | some p => (match (p.journal.filter (fun e => e.jseq % 4096 == j)).getLast? with | some e => e.bytes | none => [])
  | none => []

/-- A receive slot of a port: length, zero, frame (R743, R747). -/
def State.eapolAt (s : State) (port slot : Nat) : List Byte :=
  match aget s.eapol port with
  | some x => (match x.2.find? (·.slot == slot) with | some e => natLE 2 e.frame.length ++ fill 14 0 ++ e.frame | none => [])
  | none => []

def State.packageRegions (s : State) : List Region :=
  let v := s.svc
  [oneEntry 0x0101 0 0x10000 0x20 (leAll 4 ((List.range 7).map (fun k => s.idReg 0 (4 * k)))),
   oneEntry 0x0102 0 0x10100 0x40 s.packageEntry,
   rowsRegion 0x0103 0 0x11000 128 4 s.partEntry,
   rowsRegion 0x0104 0 0x12000 4 12 (fun i => natLE 4 (agetD v.seq.sns i 0)),
   rowsRegion 0x0105 0 0x13000 16 16 (fun i => match aget v.avs i with | some r => leAll 4 [r.mv, r.ma] ++ natLE 8 r.lastGood | none => []),
   rowsRegion 0x0106 0 0x14000 16 256 (fun i => match (s.remote (i / 64)).budget.wC[i % 64]? with | some x => natLE 1 x.1.1 ++ natLE 1 x.1.2 ++ fill 6 0 ++ natLE 8 x.2 | none => []),
   rowsRegion 0x0201 0 0x100000 32 256 s.nodeEntry,
   rowsRegion 0x0202 0 0x110000 32 9 s.thermEntry,
   oneEntry 0x0203 0 0x120000 16 (natLE 4 v.thermal.restarts.length ++ natLE 4 (signedField 32 v.thermal.ambient)),
   rowsRegion 0x0301 0 0x200000 4 0x40000 (fun i => natLE 4 (s.bar0 0 (4 * i))),
   rowsRegion 0x0301 1 0x300000 4 0x40000 (fun i => natLE 4 (s.bar0 1 (4 * i))),
   rowsRegion 0x0401 0 0x400000 256 4096 (s.journalAt 0),
   rowsRegion 0x0401 1 0x500000 256 4096 (s.journalAt 1),
   rowsRegion 0x0501 0 0x600000 2048 512 (fun i => s.eapolAt (i / 256) (i % 256))]

/-! ### Die regions (R23, R545, R747) -/

/-- A window-table entry (R107). -/
def Win.word (w : Win) : Nat :=
  w.baseVa % 2 ^ 64 + w.length % 2 ^ 50 * 2 ^ 64 + w.gen % 256 * 2 ^ 120 + w.firstBrick % 2 ^ 28 * 2 ^ 128 + w.tenant % 4096 * 2 ^ 156 + w.profile % 16 * 2 ^ 168 +
    w.rights.toNat * 2 ^ 172 + w.farDevice % 4096 * 2 ^ 180 + b2n w.valid * 2 ^ 192 + b2n w.far * 2 ^ 193
def Win.bytes (w : Win) : List Byte := natLE 32 w.word

/-- An entry of the operation table (log 205). -/
def Op.bytes (o : Op) : List Byte :=
  natLE 8 o.id ++ natLE 4 o.qpn.toNat ++ natLE 4 o.psn.toNat ++ natLE 4 o.msn.toNat ++
    natLE 1 (match o.kind with | .write => 1 | .writeImm _ => 2 | .read => 3 | .cas _ _ => 4 | .fadd _ => 5 | .atomicWrite => 6 | .flush _ _ _ => 7 | .status => 8) ++
    natLE 1 (b2n o.accepted.isSome + 2 * b2n o.last + 4 * b2n o.farTo.isSome + 8 * b2n o.silent + 16 * b2n o.duplicate) ++ natLE 2 o.tenant ++ natLE 4 o.win ++ natLE 4 o.gen ++
    natLE 8 o.addr ++ natLE 4 o.len ++ natLE 4 o.msgLen ++ natLE 8 o.decided ++ natLE 8 (o.accepted.getD 0) ++ natLE 8 (o.sseq.getD 0) ++ natLE 4 (o.ring.getD 0)

/-- The courses with a share of a die's grout cache: course, first line of its share, first entry, entries (R193). -/
def StoreP.groutShares (S : StoreP) (d : Nat) : List (Nat × (Course × (Nat × Nat))) :=
  (S.courses.foldl (fun (a : Nat × List (Nat × (Course × (Nat × Nat)))) e =>
    let n := S.groutEntries e.2 d
    (a.1 + n, a.2 ++ [(e.1, (e.2, (a.1, n)))])) (0, [])).2

/-- The page whose entry stands in a way of a set of a course's share: the ways hold the set's entries in the order of the pages (log 205). -/
def StoreP.groutAt (S : StoreP) (c : Nat) (C : Course) (d i : Nat) : Option ((Nat × Nat) × (Nat × Nat)) :=
  let n := max 1 (S.groutSets C d)
  ((S.groutHeld c C d).filter (fun x => x.2.1 % n == i / 16))[i % 16]?

/-- A tag of a die's grout cache (R194). -/
def StoreP.groutTagAt (S : StoreP) (d i : Nat) : List Byte :=
  match (S.groutShares d).find? (fun x => decide (x.2.2.1 ≤ i) && decide (i < x.2.2.1 + x.2.2.2)) with
  | some (c, C, first, _) => (match S.groutAt c C d (i - first) with | some x => natLE 8 (groutTag c x.2.1 x.2.2) | none => [])
  | none => []

/-- A line of the delta area (R193): the P delta lines of an entry follow one another. -/
def StoreP.groutLineAt (S : StoreP) (d i : Nat) : List Byte :=
  match (S.groutShares d).find? (fun x => decide (x.2.2.1 * x.2.1.p ≤ i) && decide (i < (x.2.2.1 + x.2.2.2) * x.2.1.p)) with
  | some (c, C, first, _) =>
    (match S.groutAt c C d (i / max 1 C.p - first) with
     | some x => (match (S.page x.1.1 x.1.2).grout with | some gr => Memory.readN gr.delta (64 * (i % max 1 C.p)) 64 | none => [])
     | none => [])
  | none => []

/-- The reassembly granules of a die: each slot's granules follow one another (R453). -/
def State.reasmGranulesOf (s : State) (p d : Nat) : List (Slot × Nat) :=
  ((s.fabric p).slots.filter (fun e => e.2.home == d)).flatMap (fun e => (List.range (max 1 (ceilDiv e.2.total 4096))).map (fun k => (e.2, k)))

def StoreP.cachesOf (S : StoreP) (d : Nat) : Caches := agetD S.caches d { lines := [], bricks := [], states := [] }

/-- A brick's entry of the brick map: all zero where it is not allocated (R59). -/
def StoreP.brickBytes (S : StoreP) (b : Nat) : List Byte := match S.brick? b with | some B => natLE 8 B.word | none => fill 8 0

/-- The granules of a pantry region and of those before it (R545): its offset and its bytes. -/
def State.pantryAt (s : State) (d i : Nat) : Nat × Nat := (65536 * ((List.range i).map (s.pantryUnits d)).sum, 65536 * s.pantryUnits d i)

/-- A key slot as R568 has it: no key material. -/
def KeySlot.view (k : KeySlot) : List Byte :=
  natLE 1 k.state.code ++ natLE 1 k.currentHalf ++ fill 2 0 ++ natLE 4 k.loadCount ++ natLE 8 k.lastLoad ++ natLE 8 k.lastErase

/-- The tenant key slots that a die holds: those of its partition. -/
def State.keyView (s : State) (d i : Nat) : List Byte :=
  match aget s.sec.slots i with
  | some k => if k.part == s.partOfDie d then k.view else []
  | none => []

/-- A PHY's settings and eye figure with the fabric time of the run that set it (R253). -/
def State.phyView (s : State) (x : PhyId × Phy) : List Byte :=
  phyBytes x.1 ++ leAll 4 ((List.range 7).map (fun i => x.2.eye.getD i 0)) ++ natLE 8 (fabAt s x.2.runAt) ++ natLE 4 (signedField 32 x.2.runTemp) ++ natLE 1 (b2n x.2.works) ++ fill 3 0 ++ settingBytes x.2.setting

def phyDie : PhyId → Nat
  | .dram d _ _ => d | .onfi d _ => d | .port p => p / 2 | .mesh d _ => d

/-- A DIMM's last temperature reading, its sample time and its PMIC status (R251). -/
def State.dimmView (s : State) (x : (Nat × Nat) × Dimm) : List Byte :=
  natLE 1 x.1.1 ++ natLE 1 x.1.2 ++ natLE 1 x.2.kind ++ natLE 1 x.2.pmic.toNat ++ natLE 4 (signedField 32 x.2.temp) ++ natLE 8 (fabAt s x.2.sampleAt) ++ natLE 8 x.2.serial ++
    natLE 1 (b2n x.2.tempOk + 2 * b2n x.2.pmicFailed)

/-- The regions of a die, in the order of PANTRY_LAYOUT, and its die block (R747). -/
def State.dieRegions (s : State) (d : Nat) : List Region :=
  match s.die? d with
  | none => []
  | some D =>
    let base := 0x100000000 + d * 0x10000000
    let p := (s.partOfDie d).getD 4
    let R := s.remote p
    let S := s.store p
    let ops := R.ops.filter (·.die == d)
    let region (code i size : Nat) (f : Nat → List Byte) : Region :=
      let a := s.pantryAt d i
      { code := code, who := d, size := size, off := base + a.1, len := a.2, count := a.2 / size, entry := f }
    let phys := s.phys.filter (fun x => phyDie x.1 == d)
    let block := base + 0xC000000
    [region 0x0901 0 64 (fun i => match aget D.remote.qps i with | some q => qpBytes q | none => []),
     region 0x0902 1 256 (fun i => match ops[i]? with | some o => o.bytes | none => []),
     region 0x0903 2 32 (fun i => match aget R.windows i with | some w => w.bytes | none => []),
     { code := 0x0904, who := d, size := 64, off := base + (s.pantryAt d 3).1, len := min (s.pantryAt d 3).2 (64 * groutLines), count := groutLines, entry := S.groutLineAt d },
     { code := 0x0905, who := d, size := 8, off := base + (s.pantryAt d 3).1 + 64 * groutLines, len := (s.pantryAt d 3).2 - 64 * groutLines, count := 262144, entry := S.groutTagAt d },
     region 0x0906 4 64 (fun i => match (S.cachesOf d).lines[i]? with | some x => S.lineBytes (x / 65536) (x / 128 % 512) (x % 128) | none => []),
     region 0x0907 5 4096 (fun i => match (s.reasmGranulesOf p d)[i]? with | some x => Memory.readN x.1.data (4096 * x.2) 4096 | none => []),
     region 0x0908 6 16 (fun i => match (S.cachesOf d).bricks[i]? with | some b => S.brickBytes b ++ natLE 4 b | none => []),
     region 0x0909 7 512 (fun i => (List.range 512).map (fun k =>
       let n (j : Nat) : Nat := match (S.cachesOf d).states[1024 * i + 2 * k + j]? with | some x => S.nibble (x / 512) (x % 512) | none => 0
       BitVec.ofNat 8 (n 0 + 16 * n 1))),
     region 0x090A 8 128 (fun i => match aget D.meters i with | some l => leAll 8 l | none => []),
     rowsRegion 0x0A01 d block 32 65536 (s.keyView d),
     rowsRegion 0x0A02 d (block + 0x200000) 512 128 (fun i => match phys[i]? with | some x => s.phyView x | none => []),
     rowsRegion 0x0A03 d (block + 0x300000) 64 8 (fun i => match D.dram.dimms[i]? with | some x => s.dimmView x | none => []),
     rowsRegion 0x0A04 d (block + 0x310000) 16 4 (fun i => [BitVec.ofNat 8 (b2n ((D.meshUp[i]?).getD false)), 0, 0, 0] ++ natLE 4 (agetD D.replays i (0, 0)).1 ++ natLE 8 (agetD D.replays i (0, 0)).2),
     rowsRegion 0x0A05 d (block + 0x320000) 16 4 (fun i => [BitVec.ofNat 8 (b2n (!D.lost)), 0, 0, 0] ++ natLE 4 (match aget s.svc.stewards (d, i) with | some w => w.resets.length | none => 0)),
     rowsRegion 0x0A06 d (block + 0x330000) 4 0x400 (fun i => natLE 4 (s.dieReg d (4 * i)))]

/-! ### Partition regions (R747) -/

def EntryState.code : EntryState → Nat
  | .queued => 0 | .filling => 1 | .held => 2 | .late => 3 | .abandoned => 4 | .done => 5 | .skipped => 6

/-- A hamper entry (R300; log 205). -/
def Entry.bytes (e : Entry) : List Byte :=
  natLE 4 e.object ++ natLE 1 e.state.code ++ natLE 1 (b2n e.persistent) ++ natLE 2 e.holdMs ++ natLE 4 e.first ++ natLE 4 e.pages ++ natLE 8 e.deadline ++ natLE 8 e.heldAt ++ natLE 8 (e.holdEnd.getD 0)

def DirectWin.bytes (w : DirectWin) : List Byte := leAll 4 [w.hamper, w.entry, w.object, w.first, w.pages, b2n w.ends.isSome] ++ natLE 8 (w.ends.getD 0)

def Tenant.bytes (t : Tenant) : List Byte :=
  natLE 2 t.cls ++ natLE 2 t.slot ++ natLE 2 t.meter ++ [BitVec.ofNat 8 (b2n t.hostHampers), 0x5A] ++ natLE 4 t.reserve ++ natLE 4 t.badCredentials ++ natLE 4 t.degradedFlush ++
    natLE 4 t.farDevices.length ++ leAll 2 t.farDevices

def PeerState.code : PeerState → Nat
  | .empty => 0 | .announced => 1 | .pending => 2 | .joining => 3 | .joined => 4 | .conflict => 5
def PathState.code : PathState → Nat
  | .untried => 0 | .up => 1 | .down => 2

/-- A path record (R446); CUM_PSEQ and CE marks are those received under the label. -/
def Peer.pathBytes (e : Peer) (l : Nat) (x : Path) : List Byte :=
  let r := agetD e.rx l x
  natLE 2 l ++ natLE 1 x.state.code ++ [0] ++ natLE 4 x.cwnd ++ natLE 4 x.baseRtt ++ natLE 4 x.srtt ++ natLE 4 x.nextPseq ++ natLE 4 r.cum ++ natLE 4 x.retrans ++ natLE 4 r.ce

/-- A peer entry with its path records (R446). FAR is class 5. -/
def Peer.bytes (e : Peer) (device : Nat) : List Byte :=
  natLE 2 (device % 4096 + e.state.code * 4096) ++ natLE 1 e.mode ++ natLE 1 e.paths.length ++ natLE 8 e.ident.toNat ++ natLE 8 e.lastAnnounce ++ natLE 8 e.slotOrJoin ++
    natLE 8 (agetD e.nextMsg 5 1) ++ natLE 8 (agetD e.closed 5 (1, [])).1 ++ natLE 4 e.sent.length ++ natLE 4 e.late ++ natLE 4 e.reasm ++ natLE 4 e.resend ++ fill 4 0 ++
    (e.paths.map (fun x => e.pathBytes x.1 x.2)).flatten

/-- The twin state: role, ROLE_EPOCH, lease expiry and the last matched digest epoch, with the rest of R387 to R435 (R747). -/
def TwinP.bytes (T : TwinP) : List Byte :=
  [BitVec.ofNat 8 (b2n T.paired), BitVec.ofNat 8 T.roleField,
   BitVec.ofNat 8 (b2n T.solo + 2 * b2n T.freeRunning + 4 * b2n T.peerFenced + 8 * b2n T.mirrorLost + 16 * b2n T.resync + 32 * b2n T.mapsHeld + 64 * b2n T.curA),
   BitVec.ofNat 8 ((T.paths.zipIdx.map (fun x => b2n x.1.up * 2 ^ x.2)).sum)] ++
    natLE 4 T.epoch ++ natLE 8 (T.tExp.getD 0) ++ natLE 4 T.digest.lastMatched ++ natLE 4 T.epochSeen ++ natLE 8 T.mseqNext ++ natLE 8 T.confirmed ++ natLE 8 T.delivered ++
    natLE 4 T.badTags ++ natLE 4 T.splitWrites

/-- The progress of a scrub, in the form of its summary (R215). -/
def State.scrubView (s : State) (p : Nat) : List Byte := match (s.store p).scrub with | some x => x.bytes 0 0 | none => []

/-- A running REKEY of a key slot, and the bricks of its tenant that still lie on the old half (R579). -/
def State.rekeyView (s : State) (p i : Nat) : List Byte :=
  match aget s.sec.slots i with
  | some k => (match k.sweep with
    | some w => if k.part == some p then [BitVec.ofNat 8 w.newHalf, BitVec.ofNat 8 w.rate, BitVec.ofNat 8 (b2n w.silent), 0x5A] ++
        natLE 4 ((s.store p).bricks.filter (fun e => some e.2.tenant == k.tenant && !(e.2.keyHalf == w.newHalf && e.2.cursor == 512))).length else []
    | none => [])
  | none => []

/-- The wear of a stripe group (R350): mean and largest erase count, grown bad blocks, and the life used in units of 0.01 %. -/
def State.wear (s : State) (p m : Nat) : Option (Nat × Nat × Nat × Nat) :=
  let F := s.flash p
  (aget F.groups m).map (fun g =>
    let counts := (g.sbs.map (fun e => e.2.erases)).flatten
    let n := max 1 counts.length
    (counts.sum / n, counts.foldl max 0, (F.grown.filter (fun b => (F.memberOf { ch := b.1, ce := b.2.1, lun := b.2.2.1, block := 0, page := 0 }).1 == m)).length,
      counts.sum * 10000 / (n * max 1 (s.field 16 p 0 12 4 0))))

/-- An entry of the lost-page list that belongs to a partition, as it stands in the list (R221). -/
def State.lostView (s : State) (p i : Nat) : List Byte :=
  match s.storeNv.lost.find? (fun l => l.slot == i && l.part == p) with | some l => l.bytes 0x5A | none => []

/-- The regions of a partition (R747). -/
def State.partRegions (s : State) (p : Nat) : List Region :=
  match s.part? p with
  | none => []
  | some P =>
    let base := 0x300000000 + p * 0x40000000
    let S := P.store
    [rowsRegion 0x0B01 p base 512 4096 (fun t => match aget P.remote.tenants t with | some x => x.bytes | none => []),
     rowsRegion 0x0B02 p (base + 0x1000000) 16 1048576 (fun i => match aget s.storeNv.objects i with | some o => if o.part == p && !o.removed then o.bytes else [] | none => []),
     rowsRegion 0x0B03 p (base + 0x2000000) 64 256 (fun h => match aget S.hampers h with
       | some x => natLE 2 x.tenant ++ [BitVec.ofNat 8 (b2n x.byHost), 0x5A] ++ natLE 4 x.entries.length ++ natLE 8 x.changed ++ natLE 8 x.direct
       | none => []),
     rowsRegion 0x0B04 p (base + 0x3000000) 64 65536 (fun i => match aget S.hampers (i / 256) with
       | some x => (match x.entries[i % 256]? with | some e => e.bytes | none => [])
       | none => []),
     rowsRegion 0x0B05 p (base + 0x4000000) 32 65536 (fun i => match S.direct[i]? with | some w => w.bytes | none => []),
     rowsRegion 0x0B06 p (base + 0x5000000) 512 4096 (fun d => match aget P.fabric.peers d with | some e => e.bytes d | none => []),
     oneEntry 0x0B07 p (base + 0x6000000) 256 P.twin.bytes,
     rowsRegion 0x0B08 p (base + 0x6001000) 8 512 (fun i => match S.mapFrames[i]? with | some x => natLE 4 x.1 ++ natLE 4 x.2 | none => []),
     oneEntry 0x0B09 p (base + 0x6003000) 256 (s.scrubView p),
     rowsRegion 0x0B0A p (base + 0x6100000) 16 65536 (s.rekeyView p),
     rowsRegion 0x0B0B p (base + 0x7000000) 32 4096 (s.lostView p),
     rowsRegion 0x0B0C p (base + 0x7100000) 16 4096 (fun m => match s.wear p m with | some w => leAll 4 [w.1, w.2.1, w.2.2.1, w.2.2.2] | none => [])]

/-! ### The table window (R750) -/

/-- A flash-map entry (R326). -/
def FMap.word (f : FMap) : Nat :=
  1 + f.loc.ch % 64 * 2 + f.loc.ce % 8 * 2 ^ 7 + f.loc.lun % 4 * 2 ^ 10 + f.loc.block % 2 ^ 17 * 2 ^ 12 + f.loc.page % 2 ^ 12 * 2 ^ 29 +
    ((List.range 4).map (fun i => f.keyHalf.getD i 0 % 2 * 2 ^ (41 + i))).sum

/-- The frame of a partition by its number over all courses in increasing order: its brick, if one holds it. -/
def StoreP.frameBrick (S : StoreP) (i : Nat) : Option Nat :=
  let at_ := S.courses.foldl (fun (a : Nat × Option (Nat × Nat)) e =>
    (a.1 + e.2.frames, if a.2.isNone && decide (i < a.1 + e.2.frames) then some (e.1, i - a.1) else a.2)) (0, none)
  match at_.2 with
  | some x => (S.bricks.find? (fun e => e.2.res == some x)).map (·.1)
  | none => none

/-- The 256-byte page-state record of a frame (R71): page p in byte p div 2, in the low nibble for even p. -/
def StoreP.frameRecord (S : StoreP) (i : Nat) : List Byte :=
  match S.frameBrick i with
  | some b => (List.range 256).map (fun k => BitVec.ofNat 8 (S.nibble b (2 * k) + 16 * S.nibble b (2 * k + 1)))
  | none => []

/-- A keystone ring control block: key, order, virtual address, next index (log 205). -/
def Ring.bytes (r : Ring) : List Byte := natLE 4 r.key.toNat ++ natLE 4 r.order ++ natLE 8 r.va ++ natLE 8 r.next

/-- A byte of a change map: a bit per brick (R428). -/
def mapByte (l : List Nat) (i : Nat) : List Byte := natLE 1 ((List.range 8).map (fun k => b2n (l.contains (8 * i + k)) * 2 ^ k)).sum

/-- A table that the window can show, from the table's own start; nothing for a TABLE of 0 or above 8 (R750, R756). -/
def State.bigTable (s : State) (p t : Nat) : Option Region :=
  match s.part? p with
  | none => none
  | some P =>
    let S := P.store
    let n := s.brickCount p
    let rows (size count : Nat) (f : Nat → List Byte) : Option Region := some (rowsRegion (0x0C00 + t) p 0 size count f)
    match t with
    | 1 => rows 8 n S.brickBytes
    | 2 => rows 64 n (fun b => match S.brick? b with | some B => natLE 64 B.valid.toNat | none => [])
    | 3 => rows 8 (128 * n) (fun i => match aget S.flash.fmap (i / 128, i % 128) with | some f => natLE 8 f.word | none => [])
    | 4 => rows 256 (S.courses.map (fun e => e.2.frames)).sum S.frameRecord
    | 5 => rows 128 (1440 * s.nTenants p) (fun i => match aget P.meters.ring (i % 1440) with | some c => c.bytes (i / 1440) | none => [])
    | 6 => rows 32 (s.windowLimit p) (fun i => match (aget P.remote.windows i).bind (·.ring) with | some r => r.bytes | none => [])
    | 7 => rows 1 (ceilDiv n 8) (mapByte P.twin.mapA)
    | 8 => rows 1 (ceilDiv n 8) (mapByte P.twin.mapB)
    | _ => none

/-- A byte of the table window of a port, under the selection in force (R750): a table shorter than BASE reads 0. -/
def State.windowByte (s : State) (port off : Nat) : Byte :=
  match s.port? port with
  | none => 0
  | some c =>
    let a := c.apertureSel.toNat
    match s.bigTable (a % 4) (a / 16 % 16) with
    | some r => r.read (a / 65536 * 2 ^ 30 + off)
    | none => 0

/-! ### Directory, version counters, reads (R745-R747) -/

/-- Where the table window starts and ends, and VBASE. -/
def windowBase : Nat := 0x700000000
def windowEnd : Nat := 0xF00000000
def vBase : Nat := 0xFF0000000

/-- Every region below the table window but the directory. -/
def State.regions (s : State) : List Region :=
  s.packageRegions ++ s.imageRegions ++ s.nvRegions 0x10000000 ++ (List.range s.dieCount).flatMap s.dieRegions ++ (List.range 4).flatMap s.partRegions

/-- A descriptor of the directory (R747). -/
def Region.descriptor (r : Region) : List Byte := natLE 2 r.code ++ natLE 1 r.who ++ [0] ++ natLE 4 r.size ++ natLE 8 r.off ++ natLE 8 r.len ++ natLE 8 r.count

/-- The directory as seen over a port: every region, then the table window, then REGION 0. -/
def State.directory (s : State) (port : Nat) : List Region :=
  let a := match s.port? port with | some c => c.apertureSel.toNat | none => 0
  let w : List Region := match s.bigTable (a % 4) (a / 16 % 16) with
    | some r => [{ r with off := windowBase, len := windowEnd - windowBase }]
    | none => []
  s.regions ++ w

/-- The version counter of every unit (R745): even, because a step holds whole updates, and never decreasing, because the count of updates only grows (log 176). -/
def State.version (s : State) : Nat := 2 * s.updates

/-- A byte of BAR2 as a read over a port returns it (R745-R747): all its bytes are of one cycle (R746), since a read lies between two steps. -/
def State.bar2 (s : State) (port off : Nat) : Byte :=
  if vBase ≤ off then byteAt (natLE 8 (s.version % 2 ^ 64)) (off % 8)
  else if windowEnd ≤ off then 0
  else if windowBase ≤ off then s.windowByte port (off - windowBase)
  else if off < 65536 then (match (s.directory port)[off / 32]? with | some r => byteAt r.descriptor (off % 32) | none => 0)
  else readRegions s.regions off

/-- A read of bytes of BAR2 over a port. -/
def State.readBar2 (s : State) (port off : Nat) : Nat → List Byte
  | 0 => []
  | n + 1 => s.bar2 port off :: State.readBar2 s port (off + 1) n

end Sys2Proof.Machine
end

