-- ==== Sys2Proof/Safety.lean ====
section
/-! DEFINITION. What a safe run of this block is, and the terms in which statements are made: a command that answers a next state, the outcomes that wait
for a completion, frames, and the conditions that every step keeps. -/
namespace Sys2Proof.Machine
open Sys2Proof

/-- A step is safe when it answers a next state: no fault, no refusal. -/
def Safe (s : State) : Prop := ∃ u, step s = .next u

/-- A command answers a next state of which `Q` holds. -/
def Answers (i : Instr) (s : State) (Q : State → Prop) : Prop := ∃ u, exec i s = .next u ∧ Q u

/-- A command's next state is exactly this one, clock and all. -/
def Gives (i : Instr) (s u : State) : Prop := exec i s = .next u

/-- The ended commands of a port whose outcome waits to be written: of control port 0 or 1, or of the mailbox, which is port 2 (R703, R721). -/
def State.outcomes (s : State) (port : Nat) : List Ended :=
  if port < 2 then (match s.ports[port]? with | some p => p.ended | none => []) else if port = 2 then s.svc.sideband.ended else []

/-- Whether a command can end as its own checks decide: its outcome can be held, as it came over a control port that stands or over the mailbox, and the NV store
verifies what it has programmed (R670). -/
def State.canEnd (s : State) (c : CmdRef) : Bool := ((decide (c.port < 2) && s.ports[c.port]?.isSome) || c.port == 2) && decide (c.nvFails < 2)

/-- How a command has ended. -/
def outcome (c : CmdRef) (op : Nat) (st : Status) (result : List Byte := []) (cfg : Bool := false) : Ended :=
  { tag := c.tag, opcode := op, irq := c.irq, status := st, detail := 0, result := result, cfg := cfg }

/-- The command ends in `u` with this outcome, behind those that waited in `s`. -/
def EndsAs (s u : State) (c : CmdRef) (op : Nat) (st : Status) (result : List Byte := []) (cfg : Bool := false) : Prop :=
  u.outcomes c.port = s.outcomes c.port ++ [outcome c op st result cfg]

/-- A command that names a partition meets no failure but its own: its outcome can be held, the partition stands in one of its modes and is its port's. -/
def State.admits (s : State) (c : CmdRef) (p : Nat) (ms : List Mode) : Bool := s.canEnd c && s.inMode p ms && s.owns c p

/-- Nothing is under way in a partition: it has no twin, no operation in flight, no stream from another package and no revocation, and the package runs
no command. -/
def State.still (s : State) (p : Nat) : Bool :=
  !(s.twin p).paired && (s.remote p).ops.isEmpty && (s.fabric p).farStreams.isEmpty && (s.remote p).windows.all (fun e => e.2.revoking.isNone) && s.running.isEmpty

/-- Nothing in a partition's neighbourhood waits on its operations: no twin, no stream from another package, no revocation, no command under way. -/
def State.quiet (s : State) (p : Nat) : Bool :=
  !(s.twin p).paired && (s.fabric p).farStreams.isEmpty && (s.remote p).windows.all (fun e => e.2.revoking.isNone) && s.running.isEmpty

/-! ### Requests -/

/-- A request packet reaches the pipeline of a READY ordinary QP at its expected PSN: it comes in at the QP's port, where MACsec is off, under RoCEv2's
UDP port and without a congestion mark, and no message is under way. -/
def State.meets (s : State) (p : Nat) (q : Qp) (k : Pkt) : Prop :=
  s.qp? k.dqpn = some q ∧ s.partOfDie (qpnDie k.dqpn) = some p ∧ k.dport = 2 * qpnDie k.dqpn + q.port ∧ q.port < 2 ∧ k.udp = 4791 ∧ (s.macPort k.dport k.brk).mode = 0 ∧
    (s.macPort k.dport q.brk).mode = 0 ∧ k.ce = false ∧ q.twinned = false ∧ q.state = .ready ∧ q.cur = none ∧ k.psn = q.epsn

/-- What the device sends on a QP leaves as it is: MACsec is off where the QP's packets leave, and its partition's ports are in service. -/
def State.sendsOn (s : State) (p : Nat) (q : Qp) : Prop := (s.macPort (2 * qpnDie q.qpn + q.port) q.brk).mode = 0 ∧ s.portsOut p = false

/-- MACsec is off at every port, so that what arrives and leaves is neither filtered nor counted (R596, R598). -/
def State.plain (s : State) : Prop := ∀ port brk, (s.macPort port brk).mode = 0

/-- Whether a tenant's class sets no ceiling (R137). -/
def State.noCeiling (s : State) (p tenant : Nat) : Bool :=
  match s.tenantClass p tenant with
  | some c => c.byteRate == 0 && c.reqRate == 0
  | none => true

/-- Cycle 5 lets a request of a QP in (R116): its partition serves and is not halted, nothing is under way there, the operation table of the QP's die has a
place, and its tenant's class sets no ceiling. -/
def State.lets (s : State) (p : Nat) (q : Qp) : Prop :=
  s.still p = true ∧ (s.mode p = .serve ∨ s.mode p = .solo) ∧ (s.modeSt p).halted = false ∧
    s.opsOn (qpnDie q.qpn) < 256 * s.field 3 0xFF (qpnDie q.qpn) 2 2 0 ∧ s.noCeiling p q.tenant = true

/-- Every page that some bytes touch is ready for a merge and holds data. -/
def State.readyAt (s : State) (p addr len : Nat) : Prop :=
  ∀ x ∈ spans addr len, s.pageReady p x.1 x.2.1 x.2.2.1 x.2.2.2 = true ∧ (s.store p).valid x.1 x.2.1 = true

/-- The lines of some bytes of a page are stored without error, and no line of the page is poisoned. -/
def State.cleanAt (s : State) (p b g off len : Nat) : Prop :=
  ((s.store p).page b g).poison = 0 ∧ ∀ k ∈ lineRange off len, s.lineOutcome p b g k = (.clean, [])

/-- A delta of a page finds a place in the grout cache without another entry giving way (R195, R196). -/
def State.wayFree (s : State) (p b g : Nat) : Prop := ((s.store p).page b g).grout.isSome = true ∨ ((s.store p).groutSet b g).length < 16

/-- A pair whose stream is worked off and whose numbering has no gap: nothing of it waits, and nothing else is under way in the partition. -/
def State.twinIdle (s : State) (p : Nat) : Bool :=
  let T := s.twin p
  T.paired && T.pairing.isNone && T.unpairing.isNone && T.stream.isEmpty && T.digest.theirs.isEmpty && T.pageWaits.isEmpty && T.backlog.isEmpty && T.beyond.isEmpty &&
    T.endSeq.isNone && decide (T.sent - T.confirmed < 4096) && s.pkg == .on && (s.remote p).ops.isEmpty && (s.fabric p).farStreams.isEmpty &&
    (s.remote p).windows.all (fun e => e.2.revoking.isNone) && s.running.isEmpty

/-- A mirror message of this pair under the next MSEQ of the numbering that stands (R410-R412). -/
def State.nextMsg (s : State) (p : Nat) (h : MirHdr) : Prop :=
  s.mirrorOurs p h = true ∧ h.mseq = (s.twin p).delivered + 1 ∧ h.epoch = (s.twin p).epochSeen ∧ (h.mseq = 1 → (s.twin p).startTime = some h.time)

/-- A twin that follows its lead, outside a resynchronisation. -/
def TwinP.following (T : TwinP) : Bool := T.role == .follower && !T.freeRunning && !T.resync

/-- A mirror message of a partition, as `s` words it, has left on both paths (R410). -/
def MirrorSent (s u : State) (p kind mseq : Nat) (body : List Byte) : Prop :=
  ∀ path < 2, Out.mirror p path kind (mirrorBytes s p path kind mseq body) ∈ u.out

/-- An arbiter message has left, and nothing else but the packets that carry it (R418, R479). -/
def ArbiterSent (s u : State) (p kind : Nat) (m : List Byte) : Prop :=
  ∃ f : List Out, u.out = s.out ++ Out.arbiter p kind m :: f ∧ ∀ o ∈ f, ∃ d l w b, o = Out.fabric p d l 4 w b

/-- From one storage to the next nothing has changed but the bytes stored from an address upward. -/
def Stored (m m' : Memory) (addr : Nat) (bytes : List Byte) : Prop :=
  Memory.readN m' addr bytes.length = bytes ∧ ∀ a, ¬(addr ≤ a ∧ a < addr + bytes.length) → Memory.read m' a = Memory.read m a

/-! ### Frames -/

/-- Nothing but the clock and the count of updates has changed. -/
def SameBut (s u : State) : Prop := ∃ n k, u = { s with now := n, updates := k }

/-- Nothing of the security state has changed but what MACsec counts as frames come and go (R596-R599). -/
def KeysKept (s u : State) : Prop := ∃ m, u.sec = { s.sec with macsec := m }

/-- Nothing but the clock, the count of updates and the service die's part has changed. -/
def OnlySvc (s u : State) : Prop := ∃ n k v, u = { s with now := n, updates := k, svc := v }

/-- Nothing but the clock, the count of updates and the sideband target has changed. -/
def OnlySideband (s u : State) : Prop := ∃ n k b, u = { s with now := n, updates := k, svc := { s.svc with sideband := b } }

/-- Nothing but the clock, the count of updates, the sideband target and what left the device has changed. -/
def OnlySidebandOut (s u : State) : Prop := ∃ n k o b, u = { s with now := n, updates := k, out := o, svc := { s.svc with sideband := b } }

/-- Nothing but the clock, the count of updates and the TAP has changed. -/
def OnlyTap (s u : State) : Prop := ∃ n k b, u = { s with now := n, updates := k, svc := { s.svc with tap := b } }

/-- Nothing but the clock, the count of updates and the control ports has changed. -/
def OnlyPorts (s u : State) : Prop := ∃ n k ps, u = { s with now := n, updates := k, ports := ps }

/-- Nothing but the clock, the count of updates, the control ports and what left the device has changed. -/
def OnlyPortsOut (s u : State) : Prop := ∃ n k ps o, u = { s with now := n, updates := k, ports := ps, out := o }

/-- Only outcomes were recorded: nothing but the clock, the count of updates, the control ports and the sideband target has changed. -/
def OnlyOutcomes (s u : State) : Prop := ∃ n k ps b, u = { s with now := n, updates := k, ports := ps, svc := { s.svc with sideband := b } }

/-- Nothing but the clock, the count of updates and the partitions has changed. -/
def OnlyParts (s u : State) : Prop := ∃ n k ps, u = { s with now := n, updates := k, parts := ps }

/-- Nothing but the clock, the count of updates, the partitions and what left the device has changed. -/
def OnlyPartsOut (s u : State) : Prop := ∃ n k ps o, u = { s with now := n, updates := k, parts := ps, out := o }

/-- Nothing but the clock, the count of updates and the controller dies has changed. -/
def OnlyDies (s u : State) : Prop := ∃ n k ds, u = { s with now := n, updates := k, dies := ds }

/-! ### What every step keeps -/

/-- What R672 and R675 promise of the boot anchors from one state to a later one: the floors and the seal counter's end have only risen, the
revocation mask has only gained bits, ROP2 stands for good. -/
def AnchorsKept (s u : State) : Prop :=
  s.anchor 3 ≤ u.anchor 3 ∧ s.anchor 4 ≤ u.anchor 4 ∧ s.anchor 5 ≤ u.anchor 5 ∧ s.anchor 6 ≤ u.anchor 6 ∧
    s.anchor 2 &&& u.anchor 2 = s.anchor 2 ∧ (s.ropLevel = 2 → u.ropLevel = 2)

/-- From one state to a later one: neither time nor the count of updates has gone back, and what manufacture fixed is as it was. -/
def Later (s u : State) : Prop := s.now ≤ u.now ∧ s.updates ≤ u.updates ∧ u.hw = s.hw

/-- A part locked for good: read-out protection at ROP2, firmware floors and image floor at or above given values. -/
def Locked (svc stew image : Nat) (s : State) : Prop := s.ropLevel = 2 ∧ svc ≤ s.anchor 3 ∧ stew ≤ s.anchor 4 ∧ image ≤ s.anchor 5

end Sys2Proof.Machine
end

