-- ==== Sys2Proof/WellFormed.lean ====
section
/-! DEFINITION. Which commands are well formed: every operand within the range that the manual gives what it names. A command outside it is one that no
wire, descriptor or engine of the device can carry. -/
namespace Sys2Proof

/-- Partitions 0-3 (R3). -/
def partOk (p : Nat) : Bool := decide (p < 4)
/-- Controller dies 0-7 (R1). -/
def dieOk (d : Nat) : Bool := decide (d < 8)
/-- Ethernet ports 2 × die + port, 0-15 (R1). -/
def ethPortOk (p : Nat) : Bool := decide (p < 16)
/-- PCIe control ports 0 and 1 (R1). -/
def ctlPortOk (p : Nat) : Bool := decide (p < 2)
/-- Breakouts 0-7 of a port. -/
def breakoutOk (b : Nat) : Bool := decide (b < 8)
/-- Mortar-link ports 0-3 of a die (R769). -/
def meshPortOk (p : Nat) : Bool := decide (p < 4)
/-- Tenants and meter indices (R2). -/
def tenantOk (n : Nat) : Bool := decide (n < 4096)
/-- Windows of the device (R2). -/
def windowOk (n : Nat) : Bool := decide (n < 262144)
/-- Hampers of a partition, and entries of a hamper (R2). -/
def hamperOk (n : Nat) : Bool := decide (n < 64)
def hamperEntryOk (n : Nat) : Bool := decide (n < 256)
/-- Entries of the power sequence table (R616). -/
def seqEntryOk (n : Nat) : Bool := decide (n < 12)
/-- Bricks of a partition, pages of a brick and flash units of a brick (R51). -/
def brickOk (b : Nat) : Bool := decide (b < 268435456)
def pageOk (g : Nat) : Bool := decide (g < 512)
def unitOk (u : Nat) : Bool := decide (u < 128)
/-- Courses of a partition (R543). -/
def courseOk (c : Nat) : Bool := decide (c < 16)
/-- DDR5 and ONFI channels of a die (R1). -/
def dramChOk (c : Nat) : Bool := decide (c < 4)
def onfiChOk (c : Nat) : Bool := decide (c < 8)
/-- DEVICE numbers of a fabric domain. -/
def deviceOk (d : Nat) : Bool := decide (d < 4096)
/-- A received EAPOL frame fits its slot behind the slot's header (R747). -/
def frameOk (f : List Byte) : Bool := decide (f.length ≤ 2032)

def Pkt.wf (p : Pkt) : Bool := ethPortOk p.dport && breakoutOk p.brk && decide (p.len < 4294967296) && decide (p.payload.length ≤ 4096)
def CmReq.wf (r : CmReq) : Bool := ethPortOk r.dport && breakoutOk r.brk && decide (r.priv.length = 92)
def CmdRef.wf (c : CmdRef) : Bool := decide (c.port < 4)
def MirHdr.wf (h : MirHdr) : Bool := decide (h.epoch < 4294967296)
def PqHdr.wf (h : PqHdr) : Bool := decide (h.cls < 8) && deviceOk h.src && decide (h.pseq < 4294967296)
def RawErr.wf (e : RawErr) : Bool := decide (e.idx < 80)
def PhyId.wf : PhyId → Bool
  | .dram d c r => dieOk d && dramChOk c && decide (r < 8)
  | .onfi d c => dieOk d && onfiChOk c
  | .port p => ethPortOk p
  | .mesh d p => dieOk d && meshPortOk p

/-- A line of a frame, with what is wrong with it. -/
def LineErr.wf (e : LineErr) : Bool := decide (e.course < 16) && pageOk e.page && decide (e.k < 72) && e.err.all RawErr.wf

/-- Whether a command's operands are within their ranges. -/
def Instr.wf : Instr → Bool
  | .rdmaWrite _ p => p.wf
  | .rdmaWriteWithImmediate _ p _ => p.wf
  | .rdmaReadRequest _ p => p.wf
  | .compareSwap _ p _ _ => p.wf
  | .fetchAdd _ p _ => p.wf
  | .atomicWrite _ p => p.wf
  | .flush _ p _ _ => p.wf
  | .send _ p => p.wf
  | .cnp _ _ => true
  | .rateIncrease _ _ => true
  | .cmReq _ r => r.wf
  | .cmRtu _ _ => true
  | .cmDreq _ _ => true
  | .cmDrep _ _ => true
  | .repResend _ _ => true
  | .closingTimeout _ _ => true
  | .timewaitExpiry _ _ => true
  | .ackCoalesce _ _ => true
  | .budgetAccept _ part die => partOk part && dieOk die
  | .budgetWait _ part die => partOk part && dieOk die
  | .budgetRecompute _ => true
  | .placement _ part _ => partOk part
  | .flushResponse _ _ _ => true
  | .qpFlushComplete _ _ => true
  | .serviceMsgDequeue _ part tenant => partOk part && tenantOk tenant
  | .statusRecordPlace _ part => partOk part
  | .hostHamperPost _ part tenant => partOk part && tenantOk tenant
  | .hostHamperCancel _ part tenant => partOk part && tenantOk tenant
  | .hostHamperQuery _ part tenant => partOk part && tenantOk tenant
  | .linkDown _ port brk => ethPortOk port && breakoutOk brk
  | .linkLost _ port brk => ethPortOk port && breakoutOk brk
  | .linkUp _ port brk => ethPortOk port && breakoutOk brk
  | .revokeForced _ part idx => partOk part && windowOk idx
  | .correctiveWrite _ part fr page k => partOk part && decide (fr.1 < 16) && pageOk page && decide (k < 72)
  | .correctiveReread _ part fr page k err => partOk part && decide (fr.1 < 16) && pageOk page && decide (k < 72) && err.all RawErr.wf
  | .pageRebuild _ part brick page => partOk part && brickOk brick && pageOk page
  | .groutWriteback _ part brick page _ => partOk part && brickOk brick && pageOk page
  | .parityRecompute _ part brick page => partOk part && brickOk brick && pageOk page
  | .evacuateFrame _ part course _ => partOk part && courseOk course
  | .patrolRead _ part course err => partOk part && courseOk course && err.all RawErr.wf
  | .refresh _ die ch rank _ _ => dieOk die && dramChOk ch && decide (rank < 8)
  | .rfm _ die ch sub rank b => dieOk die && dramChOk ch && decide (sub < 2) && decide (rank < 8) && decide (b.bank < 32)
  | .rowHammerRfm _ die ch sub rank bank rows => dieOk die && dramChOk ch && decide (sub < 2) && decide (rank < 8) && decide (bank < 32) && !rows.isEmpty
  | .activateTableReset _ => true
  | .dimmTempSample _ die ch slot _ _ => dieOk die && dramChOk ch && decide (slot < 2)
  | .thermalExitReturn _ die ch => dieOk die && dramChOk ch
  | .sidebandLost _ die ch slot => dieOk die && dramChOk ch && decide (slot < 2)
  | .pmicStatusRead _ die ch slot _ _ => dieOk die && dramChOk ch && decide (slot < 2)
  | .calibrationTrigger _ phy _ => phy.wf
  | .calibrationRun _ phy _ => phy.wf
  | .calibrationWindow _ phy => phy.wf
  | .settingStep _ phy => phy.wf
  | .meshLinkRetrain _ a port _ => dieOk a && meshPortOk port
  | .serviceLink _ die => dieOk die
  | .flashReadComplete _ part brick unit _ => partOk part && brickOk brick && unitOk unit
  | .lowMarkEviction _ part course => partOk part && courseOk course
  | .eviction _ part brick => partOk part && brickOk brick
  | .frameRelease _ part brick => partOk part && brickOk brick
  | .evictionRetry _ part _ => partOk part
  | .agingSweep _ part => partOk part
  | .hamperEntryStart _ part hamper => partOk part && hamperOk hamper
  | .hamperDeadline _ part hamper entry => partOk part && hamperOk hamper && hamperEntryOk entry
  | .directWindowRecord _ die part hamper entry => dieOk die && partOk part && hamperOk hamper && hamperEntryOk entry
  | .directWindowClose _ part hamper entry => partOk part && hamperOk hamper && hamperEntryOk entry
  | .holdEnd _ part hamper entry => partOk part && hamperOk hamper && hamperEntryOk entry
  | .writeBack _ part brick unit _ => partOk part && brickOk brick && unitOk unit
  | .writeBackComplete _ part brick unit _ _ => partOk part && brickOk brick && unitOk unit
  | .relocation _ part _ => partOk part
  | .readDisturbRelocate _ part ch _ _ _ => partOk part && onfiChOk ch
  | .wearLevel _ part _ => partOk part
  | .eraseSuperblock _ part _ _ => partOk part
  | .objectSectorErase _ _ => true
  | .trackedPageWrite _ part _ _ => partOk part
  | .checkpoint _ part => partOk part
  | .checkpointFooter _ part => partOk part
  | .pwrFailNAssert _ => true
  | .pwrFailNDeassert _ => true
  | .holdupOkLoss _ => true
  | .holdupOkHold _ => true
  | .bmcEmergencyDrain _ => true
  | .drainSet _ part => partOk part
  | .drainDone _ part => partOk part
  | .restore _ r => partOk r.part && r.bad.all (fun x => decide (x.1 < 2 ^ 28) && decide (x.2 < 512))
  | .restoreTwinWait _ part => partOk part
  | .restoreExit _ part => partOk part
  | .buildDone _ part _ => partOk part
  | .haltComplete _ part => partOk part
  | .restartAfterCooling _ part => (match part with | some p => partOk p | none => true)
  | .powerDown _ => true
  | .apply _ part h _ => partOk part && h.wf
  | .replicate _ part h _ => partOk part && h.wf
  | .confirm _ part h _ => partOk part && h.wf
  | .progress _ part h _ => partOk part && h.wf
  | .digest _ part h _ _ _ => partOk part && h.wf
  | .fetchReq _ part h _ _ _ => partOk part && h.wf
  | .fetchData _ part h _ _ => partOk part && h.wf
  | .fetchNone _ part h _ => partOk part && h.wf
  | .twinFetchTimeout _ _ => true
  | .pageReq _ part h brick page => partOk part && h.wf && brickOk brick && pageOk page
  | .pageData _ part h brick page data => partOk part && h.wf && brickOk brick && pageOk page && data.length == 4096
  | .tableSync _ part h _ => partOk part && h.wf
  | .qpOpen _ part h _ => partOk part && h.wf
  | .qpState _ part h _ => partOk part && h.wf
  | .brickData _ part h _ => partOk part && h.wf
  | .resyncEnd _ part h => partOk part && h.wf
  | .heartbeat _ part h => partOk part && h.wf
  | .fenceNotice _ part h _ => partOk part && h.wf
  | .applySend _ part => partOk part
  | .progressSend _ part => partOk part
  | .heartbeatSend _ part _ => partOk part
  | .digestEpoch _ part => partOk part
  | .mirrorPathDown _ part _ => partOk part
  | .mirrorLost _ part => partOk part
  | .followerLagging _ part => partOk part
  | .changeMapSwap _ part => partOk part
  | .leaseRenew _ part => partOk part
  | .grant _ part _ => partOk part
  | .fence _ part _ => partOk part
  | .renew _ part _ => partOk part
  | .report _ part _ => partOk part
  | .release _ part _ => partOk part
  | .leaseExpiry _ part _ => partOk part
  | .leaseGuard _ part => partOk part
  | .arbiterLost _ part => partOk part
  | .releaseResend _ part => partOk part
  | .penquavinData _ part die h _ _ => partOk part && dieOk die && h.wf
  | .penquavinAck _ part h _ => partOk part && h.wf
  | .resend _ part h => partOk part && h.wf
  | .ackSend _ part peer _ => partOk part && deviceOk peer
  | .retransmitTimeout _ part peer _ _ => partOk part && deviceOk peer
  | .pathDown _ part peer _ => partOk part && deviceOk peer
  | .pathProbe _ part peer _ => partOk part && deviceOk peer
  | .reasmTimeout _ part src _ _ => partOk part && deviceOk src
  | .announceSend _ part => partOk part
  | .announce _ part src _ => partOk part && deviceOk src
  | .peerSilence _ part peer => partOk part && deviceOk peer
  | .joinReq _ part src _ => partOk part && deviceOk src
  | .joinAccept _ part src _ => partOk part && deviceOk src
  | .joinRefuse _ part src _ _ => partOk part && deviceOk src
  | .leave _ part src => partOk part && deviceOk src
  | .joinResend _ part peer => partOk part && deviceOk peer
  | .joinSlot _ part peer => partOk part && deviceOk peer
  | .joinSlotRelease _ part peer => partOk part && deviceOk peer
  | .farRequest _ part src _ => partOk part && deviceOk src
  | .farResult _ part src _ => partOk part && deviceOk src
  | .farRetry _ part _ _ => partOk part
  | .farTimeout _ part _ _ => partOk part
  | .farClose _ part src _ => partOk part && deviceOk src
  | .pauseFrame _ port prio quanta => ethPortOk port && decide (prio < 8) && decide (quanta < 65536)
  | .pauseRepeat _ port f => ethPortOk port && decide (f.prio < 8) && decide (f.occupancy ≤ 4194304)
  | .ptpAnnounce _ f _ => ethPortOk f.port
  | .ptpSync _ f _ _ _ => ethPortOk f.port
  | .ppsEdge _ _ => true
  | .holdover _ => true
  | .timeLost _ => true
  | .meterSample _ part => partOk part
  | .minuteCut _ part => partOk part
  | .hourlyEvidence _ part => partOk part
  | .maintenanceSlot _ part slot _ => partOk part && decide (slot < 4096)
  | .meterIndexFree _ part idx => partOk part && tenantOk idx
  | .powerRequest _ => true
  | .powerWithdraw _ => true
  | .latchClear _ => true
  | .chainUpIn _ _ => true
  | .chainDnIn _ _ => true
  | .chainTimeout _ => true
  | .seqPgAssert _ entry _ _ => seqEntryOk entry
  | .pgTimeout _ entry => seqEntryOk entry
  | .stepDelayEnd _ entry => seqEntryOk entry
  | .pllLock _ _ => true
  | .seqRetry _ => true
  | .railFault _ entry => seqEntryOk entry
  | .railDischarge _ entry _ => seqEntryOk entry
  | .avsRead _ rail _ _ _ _ => decide (rail < 12)
  | .avsLost _ rail => decide (rail < 12)
  | .avsTargetWrite _ => true
  | .thermalUpdate _ _ => true
  | .diodeRead _ diode _ => decide (diode < 9)
  | .ambientWrite _ _ => true
  | .ambientStale _ => true
  | .throttleTick _ => true
  | .criticalTrip _ => true
  | .refclkLoss _ => true
  | .refclkRecover _ => true
  | .boot _ => true
  | .watchdogRestart _ => true
  | .watchdogRecovery _ => true
  | .watchdogReset _ => true
  | .stewardReset _ die _ => dieOk die
  | .bootOk _ target => decide (target < 2)
  | .brownOut _ => true
  | .brownOutRelease _ => true
  | .logSuppressed _ => true
  | .logSummary _ => true
  | .logSectorErase _ => true
  | .entropyFail _ => true
  | .unwrapBurst _ => true
  | .rekeyUnit _ part slot => partOk part && decide (slot < 4096)
  | .debugExpiry _ => true
  | .eapolRx _ port brk frame => ethPortOk port && breakoutOk brk && frameOk frame
  | .functionLevelReset _ port => ctlPortOk port
  | .d3hotEntry _ port => ctlPortOk port
  | .perstN _ port _ => ctlPortOk port
  | .dmaFail _ port _ _ => ctlPortOk port
  | .ownerLost _ port => ctlPortOk port
  | .bar2Write _ port _ => ctlPortOk port
  | .registerWrite _ port off size v => ctlPortOk port && decide (off < 1048576) && decide (size = 4 ∨ size = 8) && v.descs.all (fun d => d.length == 64)
  | .cfgLockOpen _ port => ctlPortOk port
  | .cfgLockClose _ port => ctlPortOk port
  | .intStatusClear _ port _ => ctlPortOk port
  | .intEnableWrite _ port _ => ctlPortOk port
  | .ringEnable _ port _ => ctlPortOk port
  | .ringDisable _ port _ => ctlPortOk port
  | .cmdTailDoorbell _ port _ descs => ctlPortOk port && descs.all (fun d => d.length == 64)
  | .cplHeadWrite _ port _ => ctlPortOk port
  | .evtHeadWrite _ port _ => ctlPortOk port
  | .tmuxSelectWrite _ port _ => ctlPortOk port
  | .msixUnmask _ port _ => ctlPortOk port
  | .completionIntTimer _ port => ctlPortOk port
  | .commandStart _ port => ctlPortOk port
  | .commandCompletion _ port _ => ctlPortOk port
  | .sidebandWrite _ off _ => decide (off < 65536)
  | .mailboxGo _ => true
  | .fwLoadChunk _ _ _ _ _ => true
  | .ibi _ _ _ => true
  | .entdaa _ _ => true
  | .setdasa _ _ => true
  | .setnewda _ _ => true
  | .rstdaa _ => true
  | .enec _ => true
  | .disec _ => true
  | .getpid _ => true
  | .getbcr _ => true
  | .getdcr _ => true
  | .getstatus _ => true
  | .getmwl _ => true
  | .getmrl _ => true
  | .setmwl _ _ => true
  | .setmrl _ _ => true
  | .rstact _ _ => true
  | .extest _ => true
  | .idcode _ => true
  | .samplePreload _ _ => true
  | .clamp _ => true
  | .highz _ => true
  | .extestPulse _ => true
  | .extestTrain _ => true
  | .jtagStatus _ => true
  | .tmuxSel _ _ => true
  | .jtagDebug _ _ => true
  | .bypass _ _ => true
  | .nop _ c => c.wf
  | .portClaim _ c _ _ => c.wf
  | .portRelease _ c _ => c.wf
  | .modeRequest _ c part _ => c.wf && partOk part
  | .imageLoad _ c _ _ _ => c.wf
  | .imagePatch _ c _ _ => c.wf
  | .timeSet _ c _ => c.wf
  | .twinPair _ c part _ _ => c.wf && partOk part
  | .twinUnpair _ c part => c.wf && partOk part
  | .tenantAuthorise _ c part _ => c.wf && partOk part
  | .tenantWithdraw _ c part _ => c.wf && partOk part
  | .createQp _ c part _ => c.wf && partOk part
  | .destroyQp _ c part _ => c.wf && partOk part
  | .openWindow _ c part _ => c.wf && partOk part
  | .revokeWindow _ c part _ => c.wf && partOk part
  | .loadKey _ c part _ _ _ => c.wf && partOk part
  | .rekey _ c part _ _ _ _ => c.wf && partOk part
  | .eraseKey _ c part _ => c.wf && partOk part
  | .importKeySet _ c _ => c.wf
  | .systemKeySet _ c part _ _ => c.wf && partOk part
  | .macsecMode _ c _ _ _ _ => c.wf
  | .macsecKey _ c _ _ _ => c.wf
  | .macsecTxSelect _ c _ _ _ => c.wf
  | .macsecDelete _ c _ _ _ _ _ => c.wf
  | .eapolSend _ c _ _ _ frame => c.wf && frameOk frame
  | .attest _ c part _ _ _ => c.cmd.wf && partOk part
  | .attestCert _ c _ => c.cmd.wf
  | .debugChallenge _ c => c.cmd.wf
  | .debugUnlock _ c _ => c.wf
  | .ownerSet _ c _ => c.wf
  | .fwLoad _ c _ _ _ => c.wf
  | .ropSet _ c _ => c.wf
  | .registerObject _ c part _ => c.wf && partOk part
  | .unregisterObject _ c part _ => c.wf && partOk part
  | .promote _ c part _ _ _ _ _ => c.wf && partOk part
  | .demote _ c part _ _ _ => c.wf && partOk part
  | .hamperPost _ c part _ _ _ => c.wf && partOk part
  | .hamperCancel _ c part _ => c.wf && partOk part
  | .hamperQuery _ c part _ => c.wf && partOk part
  | .scrub _ c part q => c.wf && partOk part && (q.found ++ q.back).all LineErr.wf
  | .pprApply _ c part _ _ _ _ => c.wf && partOk part
  | .clearLost _ c part _ _ _ => c.wf && partOk part
  | .logFreeze _ c _ => c.wf
  | .logRead _ c _ _ => c.cmd.wf
  | .optionSet _ c _ _ => c.wf
  | .seqTableSet _ c _ => c.wf
  | .buildEntry _ _ => true
  | .buildFail _ part _ _ => partOk part
  | .deviceConflictRetry _ part peer => partOk part && deviceOk peer
  | .joinRetry _ part peer => partOk part && deviceOk peer
  | .arpRequest _ f _ => partOk f.part
  | .pcieLinkDown _ port _ => ctlPortOk port
  | .warmReset _ die => dieOk die
  | .lunRetired _ part ch _ _ => partOk part && onfiChOk ch
  | .holdupOkEdge _ _ => true
  | .relocationComplete _ part _ _ => partOk part
  | .blockEraseComplete _ part _ _ _ => partOk part

end Sys2Proof
end

