-- ==== Sys2Proof/Certificates/Slice0/Obligations.lean ====
section
/-! DEFINITION. The statements for the provers: what the commands do and what the machine keeps, from the manual's numbered rules. -/
open Sys2Proof Sys2Proof.Machine

/-! ### The queue, the clock, and what no command can undo -/

/-- One step runs the command at the front of the queue on the state with the queue's rest; an empty queue leaves the block idle (the model's choice, log 1). -/
def Obligations.StepRunsFront : Prop :=
  (∀ (c : Instr) (rest : List Instr) (s : State), step { s with pending := c :: rest } = exec c { s with pending := rest }) ∧
    ∀ s : State, s.pending = [] → step s = .next s

/-- Every command of the table answers a next state, on every state and with every operand: the clock stands at its decision cycle or later than before, the
queue is untouched, and the member and revision are as manufactured. -/
def Obligations.EveryCommandAnswers : Prop :=
  ∀ (c : Instr) (s : State), ∃ (t : Nat) (u : State), exec c s = .next u ∧ u.now = decided t s ∧ s.now ≤ u.now ∧ u.updates = s.updates + 1 ∧ u.pending = s.pending ∧ u.hw = s.hw

/-- R672 and R675 over every step: floors and the seal counter's end only rise, the revocation mask only gains bits, and ROP2 stands for good. -/
def Obligations.AnchorsOnlyRise : Prop := ∀ s u : State, step s = .next u → AnchorsKept s u

/-- Once a part is at ROP2 with its firmware and image floors at some values, every step leaves it so. -/
def Obligations.LockedForGood : Prop := ∀ (svc stew image : Nat) (s u : State), Locked svc stew image s → step s = .next u → Locked svc stew image u

/-- Steps of any number, from any state: time never goes back, the hardware is the one manufactured, and the boot anchors keep R672. -/
def Obligations.RunsKeepTheAnchors : Prop :=
  ∀ (n : Nat) (s u : State), Host.Core.run Sys2Proof.core n s = .next u → AnchorsKept s u ∧ Later s u

/-! ### The sideband (R700-R706) -/

/-- R700: ENTDAA and SETDASA give a target without a dynamic address one, SETNEWDA changes the one it has, RSTDAA returns it to the static address; ENEC and
DISEC enable and disable in-band interrupts, DISEC dropping those pending. Nothing else changes.
R700: SETMWL and SETMRL set the largest write and read, never above 4,160 bytes. RSTACT resets the sideband interface alone (the values it takes are the
model's choice, log 66); asked to reset the whole target it changes nothing. -/
def Obligations.SidebandSettings : Prop :=
  (∀ (t : Nat) (a : BitVec 7) (s : State), s.svc.booted = true →
    Gives (.entdaa t a) s ((s.upTo t).modSb (fun b => { b with dynAddr := some (b.dynAddr.getD a.toNat) })) ∧
    Gives (.setdasa t a) s ((s.upTo t).modSb (fun b => { b with dynAddr := some (b.dynAddr.getD a.toNat) })) ∧
    Gives (.setnewda t a) s ((s.upTo t).modSb (fun b => { b with dynAddr := b.dynAddr.map (fun _ => a.toNat) })) ∧
    Gives (.rstdaa t) s ((s.upTo t).modSb (fun b => { b with dynAddr := none })) ∧
    Gives (.enec t) s ((s.upTo t).modSb (fun b => { b with ibiEnabled := true })) ∧
    Gives (.disec t) s ((s.upTo t).modSb (fun b => { b with ibiEnabled := false, ibiPending := [] }))) ∧
  (∀ (t : Nat) (n : BitVec 16) (s : State), s.svc.booted = true →
    Gives (.setmwl t n) s ((s.upTo t).modSb (fun b => { b with mwl := min n.toNat 4160 })) ∧
    Gives (.setmrl t n) s ((s.upTo t).modSb (fun b => { b with mrl := min n.toNat 4160 })) ∧
    Gives (.rstact t true) s (s.upTo t) ∧
    Gives (.rstact t false) s
      ((s.upTo t).modSb (fun b => { b with dynAddr := none, readPtr := 0, mwl := 4160, mrl := 4160, ibiEnabled := false, ibiPending := [] })))

/-- R700: what each common command code that reads puts on the bus: the provisional ID with bit 32 set over the low half of the serial number, BCR 0x06, DCR 0x00,
the largest write and read; GETSTATUS shows the lowest pending cause (PRESUMED, log 59). Nothing else changes.
R701, R703: a private write of the offset alone sets the read pointer; one with data never moves it. One that covers neither SB_AMBIENT nor GO and is not at
SB_EMERGENCY changes only the sideband, and each byte of the mailbox's data buffer that it does not cover reads as before. A write of SB_AMBIENT, of the drain word to
SB_EMERGENCY and of GO, where the largest write has room for it, is AMBIENT_WRITE, BMC_EMERGENCY_DRAIN and MAILBOX_GO.
R703, R704, R705: GO starts a mailbox command only while none runs, and one whose opcode the mailbox does not accept ends with BAD_OPCODE; a chunk of a
firmware load is answered; the lowest pending cause of an in-band interrupt leaves and is no longer pending. -/
def Obligations.SidebandTransfers : Prop :=
  (∀ (t : Nat) (s : State), s.svc.booted = true →
    Gives (.getbcr t) s (((s.upTo t).modSb (fun b => { b with lastCcc := [0x06] })).send (.sideband [0x06])) ∧
    Gives (.getdcr t) s (((s.upTo t).modSb (fun b => { b with lastCcc := [0x00] })).send (.sideband [0x00])) ∧
    Answers (.getpid t) s (fun u => OnlySidebandOut s u ∧ beNat u.svc.sideband.lastCcc = 2 ^ 32 + Config.serial.toNat % 2 ^ 32 ∧
      u.svc.sideband.lastCcc.length = 6) ∧
    Answers (.getmwl t) s (fun u => OnlySidebandOut s u ∧ u.svc.sideband.lastCcc = natBE 2 s.svc.sideband.mwl) ∧
    Answers (.getmrl t) s (fun u => OnlySidebandOut s u ∧ u.svc.sideband.lastCcc = natBE 2 s.svc.sideband.mrl) ∧
    Answers (.getstatus t) s (fun u => OnlySidebandOut s u ∧ u.svc.sideband.lastCcc.length = 2)) ∧
  (∀ (t off : Nat) (bytes : List Byte) (s : State), s.svc.booted = true → off < 65536 →
    Gives (.sidebandWrite t off []) s ((s.upTo t).modSb (fun b => { b with readPtr := off })) ∧
    (bytes ≠ [] → ¬(off ≤ 0x40 ∧ 0x42 ≤ off + bytes.length) → ¬(off ≤ 0x80 ∧ 0x81 ≤ off + bytes.length) → off ≠ 0x44 →
      Answers (.sidebandWrite t off bytes) s (fun u => OnlySideband s u ∧ u.svc.sideband.readPtr = s.svc.sideband.readPtr ∧
        u.svc.sideband.busy = s.svc.sideband.busy ∧
        ∀ x, ¬(off ≤ 0x1000 + x ∧ 0x1000 + x < off + bytes.length) → Memory.read u.svc.sideband.data x = Memory.read s.svc.sideband.data x)) ∧
    (∀ v : BitVec 16, 4 ≤ s.svc.sideband.mwl → s.svc.fwStatus ≠ 1 →
      exec (.sidebandWrite t 0x40 (natLE 2 v.toNat)) s = exec (.ambientWrite t (natLE 2 v.toNat)) s) ∧
    (6 ≤ s.svc.sideband.mwl → exec (.sidebandWrite t 0x44 (natLE 4 0x44524E31)) s = exec (.bmcEmergencyDrain t) s) ∧
    (3 ≤ s.svc.sideband.mwl → exec (.sidebandWrite t 0x80 [0x01]) s = exec (.mailboxGo t) s)) ∧
  (∀ (t : Nat) (s : State), s.svc.booted = true →
    (s.svc.sideband.busy = true → Gives (.mailboxGo t) s (s.upTo t)) ∧
    (s.svc.sideband.busy = false → s.mbxTakes s.svc.sideband.opcode = false → Answers (.mailboxGo t) s (fun u => OnlySideband s u ∧
      u.svc.sideband.busy = true ∧ EndsAs s u mbxRef s.svc.sideband.opcode .badOpcode)) ∧
    (s.svc.sideband.busy = false → s.mbxTakes s.svc.sideband.opcode = true →
      fieldsFit (fill 8 0 ++ s.svc.sideband.params) (mbxFields s.svc.sideband.opcode) 8 = true →
      Gives (.mailboxGo t) s ((s.upTo t).modSb (fun b => { b with busy := true, resultLen := 0 }))) ∧
    (∀ (cause : BitVec 8), s.svc.sideband.ibiEnabled = true → s.svc.sideband.dynAddr.isSome = true → s.svc.sideband.ibiPending = [cause.toNat] →
      aget s.svc.sideband.ibiLast cause.toNat = none → Gives (.ibi t cause true) s
        (((s.upTo t).modSb (fun b => { b with ibiPending := [], ibiLast := aset b.ibiLast cause.toNat (decided t s) })).send (.ibi cause.toNat))) ∧
    (∀ (off len : BitVec 32) (flags : BitVec 2) (ok : Bool), s.svc.sideband.busy = true → s.svc.sideband.opcode = 0x310 → s.fwMode = true → len ≠ 0 →
      len.toNat ≤ 4096 → off ≠ 0 → flags.getLsbD 1 = false → (∃ l, s.svc.sideband.fwLoad = some l ∧ l.bytes.length = off.toNat) →
      Answers (.fwLoadChunk t off len flags ok) s (fun u => OnlySideband s u ∧ EndsAs s u mbxRef 0x310 .ok ∧
        (u.svc.sideband.fwLoad.map (·.bytes)) = (s.svc.sideband.fwLoad.map (fun l => l.bytes ++ Memory.readN s.svc.sideband.data 0 len.toNat)))))

/-! ### Test access (R707-R710) -/

/-- R709: the pin instructions are taken while the package is in COLD or every partition is in SERVICE; otherwise they act as BYPASS and set STATUS bit 6. SAMPLE/PRELOAD
fills the boundary register with what its cells see, the cells of the controller dies seeing 0 in COLD. Nothing but the TAP changes. -/
def Obligations.PinInstructions : Prop :=
  ∀ (t : Nat) (s : State),
    (∀ x ∈ [(Instr.extest t, TapPins.extest, 0x00), (Instr.clamp t, TapPins.clamp, 0x03), (Instr.highz t, TapPins.highz, 0x04),
        (Instr.extestPulse t, TapPins.pulse, 0x09), (Instr.extestTrain t, TapPins.train, 0x0A)],
      Answers x.1 s (fun u => OnlyTap s u ∧
        (s.pinsFree = true → u.svc.tap.pins = x.2.1 ∧ u.svc.tap.instr = x.2.2 ∧ u.svc.tap.refused = false) ∧
        (s.pinsFree = false → u.svc.tap.pins = .system ∧ u.svc.tap.instr = 0xFF ∧ u.svc.tap.refused = true ∧ bit u.tapStatus 6 = true))) ∧
    ∀ service dies : List Bool, Answers (.samplePreload t ⟨service, dies⟩) s (fun u => OnlyTap s u ∧ u.svc.tap.instr = 0x02 ∧ u.svc.tap.pins = .system ∧
      u.svc.tap.boundary = service ++ (if s.pkg = .cold then dies.map (fun _ => false) else dies))

/-- R707, R708, R710: IDCODE and STATUS read as their tables say; TMUX_SEL writes the one selection of the package, but where a control port has written it on the same
cycle of the service die; DEBUG reaches a scope that is open and acts as BYPASS for one that is not where ROP stands above ROP0; every code that the table does not
list acts as BYPASS. -/
def Obligations.TapReads : Prop :=
  ∀ (t : Nat) (s : State),
    Answers (.idcode t) s (fun u => OnlyTap s u ∧ u.svc.tap.dr = natLE 4 s.idcode ∧ u.svc.tap.instr = 0x01) ∧
    Answers (.jtagStatus t) s (fun u => OnlyTap s u ∧ u.svc.tap.dr = natLE 4 s.tapStatus ∧ u.svc.tap.instr = 0x22) ∧
    (∀ v : BitVec 8, ¬(s.svc.pins.tmuxAt.1 / 4 = decided t s / 4 ∧ 0 < s.svc.pins.tmuxAt.2) → Answers (.tmuxSel t v) s (fun u => u.svc.pins.tmuxGroup = v.toNat % 16 ∧ u.svc.pins.tmuxDie = v.toNat / 16 % 8 ∧ u.parts = s.parts ∧
      u.sec = s.sec ∧ u.out = s.out)) ∧
    (∀ scope : BitVec 2, s.sec.scopes.contains scope.toNat = true →
      Answers (.jtagDebug t scope) s (fun u => OnlyTap s u ∧ u.svc.tap.instr = 0x30 + scope.toNat)) ∧
    (∀ scope : BitVec 2, s.sec.scopes.contains scope.toNat = false → s.ropLevel ≠ 0 →
      Answers (.jtagDebug t scope) s (fun u => OnlyTap s u ∧ u.svc.tap.instr = 0xFF)) ∧
    (∀ code : BitVec 8, tapKnown code.toNat = false → Answers (.bypass t code) s (fun u => OnlyTap s u ∧ u.svc.tap.instr = 0xFF ∧ u.svc.tap.dr = [0]))

/-! ### Control ports: registers (R15-R17, R713, R752-R764, R770) -/

/-- R756, R757: writing the key to CFG_LOCK opens this port's lock and any other value closes it; the other port keeps its own, and nothing but the ports changes.
R16, R758: with the port's lock open a write to TMUX_SELECT is the package's one selection, but where the higher port writes it on the same cycle of the service die;
with the lock closed it is discarded and counted as a violation, up to 65,535, and is no Unsupported Request. The lock is that which a write to CFG_LOCK of the same
cycle leaves. -/
def Obligations.LockedRegisters : Prop :=
  (∀ (t port : Nat) (s : State), (s.upTo t).portOpen port = true →
    Answers (.cfgLockOpen t port) s (fun u => OnlyPorts s u ∧ u.ports[port]?.map (·.lockOpen) = some true ∧ ∀ j, j ≠ port → u.ports[j]? = s.ports[j]?) ∧
    Answers (.cfgLockClose t port) s (fun u => OnlyPorts s u ∧ u.ports[port]?.map (·.lockOpen) = some false ∧ ∀ j, j ≠ port → u.ports[j]? = s.ports[j]?)) ∧
  (∀ (t port : Nat) (v : BitVec 32) (s : State) (p : CtlPort), (s.upTo t).portOpen port = true → s.ports[port]? = some p →
    ((s.upTo t).lockNow port p = true → ¬(s.svc.pins.tmuxAt.1 / 4 = decided t s / 4 ∧ port + 1 < s.svc.pins.tmuxAt.2) → Answers (.tmuxSelectWrite t port v) s (fun u => u.svc.pins.tmuxGroup = v.toNat % 16 ∧ u.svc.pins.tmuxDie = v.toNat / 16 % 8 ∧
      u.parts = s.parts ∧ u.dies = s.dies ∧ u.sec = s.sec ∧ u.out = s.out)) ∧
    ((s.upTo t).lockNow port p = false → p.violations < 65535 → Answers (.tmuxSelectWrite t port v) s (fun u => u.svc = s.svc ∧
      u.ports[port]?.map (fun q => (q.violations, q.unsupported)) = some (p.violations + 1, p.unsupported) ∧ u.parts = s.parts ∧ u.dies = s.dies ∧ u.sec = s.sec)) ∧
    ((s.upTo t).lockNow port p = false → p.violations = 65535 → Answers (.tmuxSelectWrite t port v) s (fun u => u.svc = s.svc ∧
      u.ports[port]?.map (fun q => (q.violations, q.unsupported)) = some (65535, p.unsupported) ∧ u.out = s.out)))

/-- R15, R759-R761: a write of 1 clears a status bit and leaves the others, and a bit whose event falls on the same cycle stays as it is; INT_ENABLE holds what is written, and with no status bit set nothing leaves the device.
R744, R770: unmasking a vector whose pending bit is set sends the message once and clears the bit; without the bit nothing is sent.
R723: once CPL_INT_TIME has passed since the oldest unsignalled completion, the completion vector is raised and both triggers start over. -/
def Obligations.Interrupts : Prop :=
  (∀ (t port : Nat) (mask : BitVec 32) (s : State) (p : CtlPort), (s.upTo t).portOpen port = true → s.ports[port]? = some p →
    (p.intAt.all (fun e => e.2 != decided t s) = true → Answers (.intStatusClear t port mask) s (fun u => OnlyPorts s u ∧
      u.ports[port]?.map (·.intStatus) = some (p.intStatus &&& ~~~(mask.setWidth 17)) ∧ u.ports[port]?.map (·.intEnable) = some p.intEnable)) ∧
    (∀ b, (b, decided t s) ∈ p.intAt → b < 17 → Answers (.intStatusClear t port mask) s (fun u => OnlyPorts s u ∧
      u.ports[port]?.map (fun q => q.intStatus.getLsbD b) = some (p.intStatus.getLsbD b))) ∧
    (p.intStatus = 0 → Answers (.intEnableWrite t port mask) s (fun u => OnlyPorts s u ∧ u.ports[port]?.map (·.intEnable) = some (mask.setWidth 17)))) ∧
  (∀ (t port vec : Nat) (s : State) (p : CtlPort), (s.upTo t).portOpen port = true → s.ports[port]? = some p → vec < 256 → p.msixEnable = true →
    Answers (.msixUnmask t port vec) s (fun u => OnlyPortsOut s u ∧
      u.out = s.out ++ (if p.pendingBits.contains vec then [Out.vector port vec] else []) ∧
      u.ports[port]?.map (fun q => q.unmasked.contains vec) = some true ∧ u.ports[port]?.map (fun q => q.pendingBits.contains vec) = some false)) ∧
  (∀ (t port : Nat) (s : State) (p : CtlPort) (since : Nat), s.ports[port]? = some p → p.oldestUnsignalled = some since → p.cplIntTime ≠ 0 →
    since + p.cplIntTime * 1600 ≤ decided t s → p.msixEnable = true → p.unmasked.contains 0 = true →
    Answers (.completionIntTimer t port) s (fun u => OnlyPortsOut s u ∧ u.out = s.out ++ [Out.vector port 0] ∧
      u.ports[port]? = some { p with unsignalled := 0, oldestUnsignalled := none }))

/-- R13, R15, R713, R753, R756, R759-R763: a register write that is not of 4 or 8 bytes on its natural boundary is discarded and reported as an Unsupported Request, and so
is a write to the state aperture. A write of 4 bytes to a register with a row of its own is that row's command; to any other register outside the port's control it
changes nothing but the port and is not reported. A write of 8 bytes at APERTURE_SEL takes its low word there and its high word at TMUX_SELECT, which a closed lock
counts as a violation. With the brick map of a partition selected, the table window shows an allocated brick's entry (R59, R750). -/
def Obligations.RegisterWrites : Prop :=
  ∀ (t port off size : Nat) (v : BitVec 64) (ds : List (List Byte)) (s : State) (p : CtlPort), (s.upTo t).portOpen port = true → s.ports[port]? = some p →
    (¬(size = 4 ∧ off % 4 = 0) → ¬(size = 8 ∧ off % 8 = 0) → Answers (.registerWrite t port off size ⟨v, ds⟩) s (fun u => OnlyPorts s u ∧
      u.ports[port]? = some { p with linkUp := true, linkDownSince := none, d3hot := false, unsupported := p.unsupported + 1 })) ∧
    (off % 4 = 0 → off < 0x1000 ∨ 0x2010 ≤ off ∧ off < 0x3000 ∨ 0x4000 ≤ off ∧ off < 0xF0000 → Answers (.registerWrite t port off 4 ⟨v, ds⟩) s (fun u => OnlyPorts s u ∧
      u.ports[port]?.map (·.unsupported) = some p.unsupported ∧ ∀ j, j ≠ port → u.ports[j]? = s.ports[j]?)) ∧
    Answers (.registerWrite t port 0x1008 4 ⟨v, ds⟩) s (fun u => OnlyPorts s u ∧
      u.ports[port]?.map (·.apertureSel) = some (BitVec.ofNat 32 (v.toNat % 2 ^ 32) &&& 0xFFFF00F3)) ∧
    ((s.upTo t).lockNow port p = false → p.violations < 65535 → Answers (.registerWrite t port 0x1008 8 ⟨v, ds⟩) s (fun u => u.svc = s.svc ∧ u.parts = s.parts ∧
      u.ports[port]?.map (fun q => (q.apertureSel, q.violations)) = some (BitVec.ofNat 32 (v.toNat % 2 ^ 32) &&& 0xFFFF00F3, p.violations + 1))) ∧
    (∀ (q b k : Nat) (B : Brick), q < 4 → (s.part? q).isSome = true → (s.store q).brick? b = some B → b < s.brickCount q → k < 8 → 8 * b + k < windowEnd - windowBase →
      v.toNat % 2 ^ 32 = q + 16 → Answers (.registerWrite t port 0x1008 4 ⟨v, ds⟩) s (fun u => u.bar2 port (windowBase + 8 * b + k) = BitVec.ofNat 8 (B.word / 256 ^ k))) ∧
    (v.toNat % 2 ^ 32 = 0x52454731 → exec (.registerWrite t port 0x1000 4 ⟨v, ds⟩) s = exec (.cfgLockOpen t port) s) ∧
    (v.toNat % 2 ^ 32 ≠ 0x52454731 → exec (.registerWrite t port 0x1000 4 ⟨v, ds⟩) s = exec (.cfgLockClose t port) s) ∧
    exec (.registerWrite t port 0x100C 4 ⟨v, ds⟩) s = exec (.tmuxSelectWrite t port (v.setWidth 32)) s ∧
    exec (.registerWrite t port 0x2000 4 ⟨v, ds⟩) s = exec (.intStatusClear t port (v.setWidth 32)) s ∧
    exec (.registerWrite t port 0x2004 4 ⟨v, ds⟩) s = exec (.intEnableWrite t port (v.setWidth 32)) s ∧
    (∀ x ∈ [(0x300C, RingId.cmd), (0x304C, RingId.cpl), (0x308C, RingId.evt)],
      (v.getLsbD 0 = true → exec (.registerWrite t port x.1 4 ⟨v, ds⟩) s = exec (.ringEnable t port x.2) s) ∧
      (v.getLsbD 0 = false → exec (.registerWrite t port x.1 4 ⟨v, ds⟩) s = exec (.ringDisable t port x.2) s)) ∧
    exec (.registerWrite t port 0x3014 4 ⟨v, ds⟩) s = exec (.cmdTailDoorbell t port (v.toNat % 2 ^ 32) ds) s ∧
    exec (.registerWrite t port 0x3058 4 ⟨v, ds⟩) s = exec (.cplHeadWrite t port (v.toNat % 2 ^ 32)) s ∧
    exec (.registerWrite t port 0x3098 4 ⟨v, ds⟩) s = exec (.evtHeadWrite t port (v.toNat % 2 ^ 32)) s ∧
    (off < 2 ^ 36 → Answers (.bar2Write t port off) s (fun u => OnlyPorts s u ∧ u.ports[port]?.map (·.unsupported) = some (p.unsupported + 1)))

/-! ### Control ports: rings (R715-R724, R762-R764) -/

/-- R715, R763: setting ENABLE with LOG2 in 6-12 starts the ring at index 0, phase 1, cause NONE; outside it the ring stays stopped with cause BAD_SIZE and ENABLE
reads 0. Clearing ENABLE on a working command ring stops it with cause DISABLED. -/
def Obligations.RingEnableAndDisable : Prop :=
  ∀ (t port : Nat) (r : RingId) (s : State) (p : CtlPort), (s.upTo t).portOpen port = true → s.ports[port]? = some p →
    ((p.ring r).enable = false → 6 ≤ (p.ring r).log2 → (p.ring r).log2 ≤ 12 → Answers (.ringEnable t port r) s (fun u => OnlyPorts s u ∧
      u.ports[port]?.map (fun q => q.ring r) = some { p.ring r with enable := true, stopped := false, cause := .none, tail := 0, head := 0, phase := true })) ∧
    ((p.ring r).enable = false → ¬(6 ≤ (p.ring r).log2 ∧ (p.ring r).log2 ≤ 12) → p.unwritten = [] → Answers (.ringEnable t port r) s (fun u =>
      u.svc = s.svc ∧ u.parts = s.parts ∧ ∃ q, u.ports[port]? = some q ∧ (q.ring r).stopped = true ∧ (q.ring r).cause = .badSize ∧ (q.ring r).enable = false)) ∧
    ((p.ring .cmd).enable = true → (p.ring .cmd).stopped = false → Answers (.ringDisable t port .cmd) s (fun u => OnlyPorts s u ∧
      ∃ q, u.ports[port]? = some q ∧ q.cmd.enable = false ∧ q.cmd.stopped = true ∧ q.cmd.cause = .disabled ∧ q.posted = [] ∧ q.journal = p.journal))

/-- R17, R716, R717, R763: a doorbell to a ring whose ENABLE is clear is ignored; an index, of its 12 bits, past the ring stops it with BAD_DOORBELL; a good one is the new tail, and the
first posted descriptor is fetched into the journal as running, under the port's next JSEQ.
R17, R717, R722, R742: an index written to CPL_HEAD or EVT_HEAD of a working ring is its head; one past the ring stops it with BAD_DOORBELL. -/
def Obligations.Doorbells : Prop :=
  (∀ (t port tail : Nat) (d : List Byte) (s : State) (p : CtlPort), (s.upTo t).portOpen port = true → s.ports[port]? = some p →
    (p.cmd.enable = false → Answers (.cmdTailDoorbell t port tail [d]) s (fun u => OnlyPorts s u ∧ u.ports[port]?.map (·.cmd) = some p.cmd)) ∧
    (p.cmd.enable = true → p.cmd.size ≤ tail % 4096 → Answers (.cmdTailDoorbell t port tail [d]) s (fun u => u.svc = s.svc ∧ u.parts = s.parts ∧
      u.ports[port]?.map (fun q => (q.cmd.stopped, q.cmd.cause, q.cmd.tail)) = some (true, .badDoorbell, p.cmd.tail))) ∧
    (p.cmd.enable = true → p.cmd.stopped = false → p.cmd.log2 = 6 → p.cmd.tail = 0 → p.cmd.head = 0 → p.posted = [] → p.journal = [] → p.unwritten = [] →
      d.length = 64 → Answers (.cmdTailDoorbell t port 1 [d]) s (fun u => OnlyPorts s u ∧ ∃ q, u.ports[port]? = some q ∧ q.cmd.tail = 1 ∧ q.cmd.head = 1 ∧
        q.posted = [] ∧ q.jseq = p.jseq + 1 ∧ q.journal.map (fun e => (e.desc, e.status, e.jseq)) = [(d, .running, p.jseq + 1)]))) ∧
  (∀ (t port head : Nat) (s : State) (p : CtlPort), (s.upTo t).portOpen port = true → s.ports[port]? = some p →
    (p.cpl.enable = true → head < p.cpl.size → head < 4096 → p.unwritten = [] → p.posted = [] → Answers (.cplHeadWrite t port head) s (fun u => OnlyPorts s u ∧
      u.ports[port]?.map (·.cpl) = some { p.cpl with head := head })) ∧
    (p.evt.enable = true → head < p.evt.size → head < 4096 → p.eventsDropped = 0 → Answers (.evtHeadWrite t port head) s (fun u => OnlyPorts s u ∧
      u.ports[port]?.map (·.evt) = some { p.evt with head := head })) ∧
    (p.cpl.enable = true → p.cpl.size ≤ head % 4096 → p.unwritten = [] → Answers (.cplHeadWrite t port head) s (fun u => u.svc = s.svc ∧
      u.ports[port]?.map (fun q => (q.cpl.stopped, q.cpl.cause)) = some (true, .badDoorbell))))

/-! ### Control ports: resets and links (R18, R714, R730, R743, R757, R782) -/

/-- R714, R757: a function level reset and an entry to D3hot close the port's lock, stop its rings with cause RESET and bring its registers back to their reset
values; the journal stays.
R712, R730, R782: PERST_N's deassertion is noted with its cycle; its assertion, a link that goes down and a lost reference clock take the port's link down, and the
rings stop with cause RESET.
R730: a port whose link has been down for 1 s loses its partitions, which become BOTH; other partitions keep their owner. -/
def Obligations.PortResetsAndLinks : Prop :=
  (∀ (t port : Nat) (s : State) (p : CtlPort), s.portExists port = true → s.ports[port]? = some p → p.unwritten = [] →
    (∀ c ∈ [Instr.functionLevelReset t port, Instr.d3hotEntry t port], Answers c s (fun u => u.parts = s.parts ∧ u.svc = s.svc ∧
      ∃ q, u.ports[port]? = some q ∧ q.lockOpen = false ∧ q.intEnable = 0 ∧ q.apertureSel = 0 ∧ q.cmd = RingSt.reset ∧ q.cpl = RingSt.reset ∧ q.evt = RingSt.reset ∧
        q.journal = p.journal ∧ q.jseq = p.jseq)) ∧
    Answers (.d3hotEntry t port) s (fun u => u.ports[port]?.map (·.d3hot) = some true)) ∧
  (∀ (t port : Nat) (s : State) (p : CtlPort), s.ports[port]? = some p →
    (p.perst = true → Answers (.perstN t port true) s (fun u => OnlyPorts s u ∧
      u.ports[port]? = some { p with perst := false, perstHighAt := decided t s })) ∧
    (s.portExists port = true → p.unwritten = [] → Answers (.perstN t port false) s (fun u => u.parts = s.parts ∧ u.svc = s.svc ∧
      u.ports[port]?.map (fun q => (q.perst, q.linkUp, q.cmd.cause)) = some (true, false, .reset))) ∧
    (∀ why, s.portExists port = true → p.unwritten = [] → Answers (.pcieLinkDown t port why) s (fun u => u.parts = s.parts ∧ u.sec = s.sec ∧
      u.ports[port]?.map (fun q => (q.linkUp, q.linkDownSince.isSome, q.evt.cause)) = some (false, true, .reset)))) ∧
  (∀ (t port : Nat) (s : State) (p : CtlPort) (since i : Nat) (P : Part), s.ports[port]? = some p → p.linkDownSince = some since →
    since + 1600000000 ≤ decided t s → i < 4 → s.part? i = some P → P.owner = portOwner port →
    Answers (.ownerLost t port) s (fun u => (∃ Q, u.part? i = some Q ∧ Q.owner = .both) ∧ u.dies = s.dies ∧ u.sec = s.sec ∧ u.image = s.image ∧
      ∀ j Q, s.part? j = some Q → Q.owner ≠ portOwner port → u.part? j = some Q))

/-- R18, R199, R769: a warm reset of a die brings its error counters to 0 and leaves the other dies alone. -/
def Obligations.WarmReset : Prop :=
  ∀ (t d : Nat) (s : State) (D : Die), s.pkg ≠ .cold → s.die? d = some D → (∀ p, s.ports[d]? = some p → p.unwritten = []) →
    Answers (.warmReset t d) s (fun u => (∃ E, u.die? d = some E ∧ E.fabricCounters = [] ∧ E.replays = [] ∧ E.dram.corrected = 0 ∧ E.dram.flagged = 0 ∧
      E.remote.causes = [] ∧ E.remote.errReg = 0 ∧ E.remote.qps = D.remote.qps) ∧ (∀ e, e ≠ d → u.die? e = s.die? e) ∧ u.sec = s.sec ∧ u.image = s.image)

/-- R714, R728: a failed fetch of a descriptor, write of a completion or of an event stops that ring with cause DMA; a failed access of a running command ends it with
DMA_FAIL.
R743, R747: a received EAPOL frame takes the next of its port's 256 receive slots, and the slot after it is the next. -/
def Obligations.DmaFailuresAndFrames : Prop :=
  (∀ (t port : Nat) (tag : BitVec 32) (s : State) (p : CtlPort), s.portExists port = true → s.ports[port]? = some p → p.unwritten = [] →
    Answers (.dmaFail t port .descriptor tag) s (fun u => u.parts = s.parts ∧ u.ports[port]?.map (fun q => (q.cmd.stopped, q.cmd.cause)) = some (true, .dma)) ∧
    Answers (.dmaFail t port .completion tag) s (fun u => u.parts = s.parts ∧ u.ports[port]?.map (fun q => (q.cpl.stopped, q.cpl.cause)) = some (true, .dma)) ∧
    (∀ e, p.entry? tag = some e → p.ended = [] → Answers (.dmaFail t port .command tag) s (fun u => u.parts = s.parts ∧ u.sec = s.sec ∧
      ∃ x, u.outcomes port = [x] ∧ x.tag = tag ∧ x.status = .dmaFail ∧ x.opcode = e.opcode))) ∧
  (∀ (t port brk n : Nat) (frame : List Byte) (slots : List EapolSlot) (s : State), s.pkg = .on → port < 2 * s.dieCount → frame.length ≤ 2032 →
    aget s.eapol port = some (n, slots) → Answers (.eapolRx t port brk frame) s (fun u => u.parts = s.parts ∧ u.svc = s.svc ∧
      aget u.eapol port = some ((n + 1) % 256, slots.filter (fun e => e.slot != n) ++ [{ slot := n, frame := frame }]) ∧
      ∀ q, q ≠ port → aget u.eapol q = aget s.eapol q))

/-! ### Control ports: commands (R720, R721, R726, R748, R749, R703) -/

/-- R720, R726: a fetched command that nothing holds back starts, its descriptor in order, and no outcome is recorded by that; one whose opcode R733 does not list
ends with BAD_OPCODE.
R703, R721, R722, R724, R748: the completion of a mailbox command writes its status, clears BUSY and sets DONE; CONFIG_GEN advances by one when the command has changed
what it counts, and by nothing otherwise. A port's completed command leaves the outcomes that wait: with the completion ring at work and a slot free its completion is
written at CPL_TAIL, unless ENABLE is cleared on the same cycle; with the ring off nothing is written there. -/
def Obligations.CommandsStartAndComplete : Prop :=
  (∀ (t port : Nat) (s : State) (p : CtlPort) (e : JEntry), port < 2 → s.ports[port]? = some p → p.journal = [e] → e.status = .running → e.started = none →
    s.mayStart { port := port, entry := e } = true →
    (descFault e.desc = none → Answers (.commandStart t port) s (fun u => OnlyPorts s u ∧ u.outcomes port = s.outcomes port ∧
      u.ports[port]?.map (·.journal) = some [{ e with started := some (decided t s) }])) ∧
    (cmdFields (leAt e.desc 0 2) = none → Answers (.commandStart t port) s (fun u => OnlyPorts s u ∧
      ∃ x, u.outcomes port = s.outcomes port ++ [x] ∧ x.status = .badOpcode ∧ x.tag = e.tag))) ∧
  (∀ (t port : Nat) (tag : BitVec 32) (s : State) (e : Ended) (rest : List Ended), s.heldEnds = [] → s.running.all (fun r => !(r.cmd.port == port && r.cmd.tag == tag)) = true →
    (port = 2 → s.svc.sideband.ended = e :: rest → Answers (.commandCompletion t port tag) s (fun u => u.svc.sideband.busy = false ∧ u.svc.sideband.doneBit = true ∧
      u.svc.sideband.status = e.status.code ∧ u.svc.sideband.ended = rest ∧ u.parts = s.parts ∧ u.ports = s.ports ∧
      u.configGen = s.configGen + (if e.cfg && (e.status == .ok || e.status == .forced) then 1 else 0))) ∧
    (∀ p : CtlPort, port < 2 → s.ports[port]? = some p → p.ended = [e] → e.tag = tag → p.posted = [] →
      (p.cpl.enable = false → Answers (.commandCompletion t port tag) s (fun u => u.outcomes port = [] ∧ u.parts = s.parts ∧ u.svc = s.svc ∧
        u.configGen = s.configGen + (if e.cfg && (e.status == .ok || e.status == .forced) then 1 else 0))) ∧
      (p.cpl.active = true → p.cpl.full = false → p.unwritten = [] → (s.upTo t).cplStops port = false → e.irq = false → p.cplIntCount = 0 →
        Answers (.commandCompletion t port tag) s (fun u => u.outcomes port = [] ∧ u.parts = s.parts ∧ u.svc = s.svc ∧ u.out = s.out ++ [Out.completion port p.cpl.tail p.cpl.phase e] ∧
          u.ports[port]?.map (·.cpl) = some p.cpl.push))))

/-! ### Commands of the package (R605, R675-R677, R694, R695, R717, R729-R731, R739) -/

/-- R733, R695: NOP ends OK; LOG_READ ends OK with the oldest and the newest LOG_SEQ and writes whole records to the host, leaving the logbook as it is. Outcomes apart,
nothing else changes.
R673, R694, R695, R617: OPTION_SET, LOG_FREEZE and SEQ_TABLE_SET write a new option record with GEN one higher, that differs from the one before in their field alone;
the partitions and the dies are untouched. R670: where their program fails to verify twice, OPTION_SET and LOG_FREEZE end with NV_FAIL and change nothing but outcomes. -/
def Obligations.LogAndOptionCommands : Prop :=
  (∀ (t : Nat) (c : CmdRef) (s : State), s.canEnd c = true →
    Answers (.nop t c) s (fun u => EndsAs s u c 0x001 .ok ∧ OnlyOutcomes s u) ∧
    (∀ (first : BitVec 32) (n : BitVec 16) (addr : BitVec 64) (r : LogRec), s.svc.log.recs = [r] → first.toNat ≤ r.seq → 0 < n.toNat → c.port < 2 →
      Answers (.logRead t ⟨c, addr⟩ first n) s (fun u => EndsAs s u c 0x602 .ok (natLE 4 r.seq ++ natLE 4 r.seq) ∧ u.out = s.out ++ [Out.dma c.port addr.toNat r.bytes] ∧
        u.svc = s.svc ∧ u.parts = s.parts)) ∧
    (∀ (first : BitVec 32) (n : BitVec 16) (addr : BitVec 64), s.svc.log.recs = [] → c.port < 2 →
      Answers (.logRead t ⟨c, addr⟩ first n) s (fun u => EndsAs s u c 0x602 .ok (fill 8 0) ∧ u.out = s.out ++ [Out.dma c.port addr.toNat []] ∧ u.svc = s.svc))) ∧
  (∀ (t : Nat) (c : CmdRef) (s : State), s.canEnd c = true → s.ownsAll c = true →
    (∀ (n : Nat) (compat freeze : Bool) (a : BitVec 7),
      Answers (.optionSet t { c with nvFails := n + 2 } compat a) s (fun u => EndsAs s u c 0x603 .nvFail ∧ OnlyOutcomes s u) ∧
      Answers (.logFreeze t { c with nvFails := n + 2 } freeze) s (fun u => EndsAs s u c 0x601 .nvFail ∧ OnlyOutcomes s u)) ∧
    (∀ (compat : Bool) (a : BitVec 7), Answers (.optionSet t c compat a) s (fun u => EndsAs s u c 0x603 .ok ∧ u.parts = s.parts ∧ u.dies = s.dies ∧
      u.svc.nv.option = some { s.svc.nv.opt with logCompat := compat, i3cAddr := a.toNat, gen := s.svc.nv.opt.gen + 1 })) ∧
    (∀ freeze : Bool, Answers (.logFreeze t c freeze) s (fun u => EndsAs s u c 0x601 .ok ∧ u.parts = s.parts ∧ u.dies = s.dies ∧
      u.svc.nv.option = some { s.svc.nv.opt with logFrozen := freeze, gen := s.svc.nv.opt.gen + 1 })) ∧
    (∀ tab : List Byte, s.pkg = .cold ∨ s.allService = true → (parseSeqTable tab).isSome = true →
      Answers (.seqTableSet t c tab) s (fun u => EndsAs s u c 0x604 .ok ∧ u.parts = s.parts ∧ u.dies = s.dies ∧
        u.svc.nv.option = some { s.svc.nv.opt with seqTable := tab, gen := s.svc.nv.opt.gen + 1 })) ∧
    (∀ tab : List Byte, s.pkg = .cold ∨ s.allService = true → parseSeqTable tab = none →
      Answers (.seqTableSet t c tab) s (fun u => EndsAs s u c 0x604 .badTable ∧ OnlyOutcomes s u)))

/-- R729, R731: PORT_CLAIM makes the command's port the owner of every partition in its mask, when they exist and are the port's to claim; PORT_RELEASE makes those it
owns BOTH again. Partitions outside the mask keep their owner.
R520, R739: a MODE_REQUEST for SERVE in SERVE ends OK at once and leaves the mode; one for DRAIN in SERVE puts the partition into DRAIN and waits; TIME_SET with
the PPS as source waits for the next edge with its second. -/
def Obligations.ClaimsModesAndTime : Prop :=
  (∀ (t : Nat) (c : CmdRef) (mask : BitVec 4) (s : State), s.canEnd c = true → c.port < 2 → (∀ p ∈ maskParts mask, (s.part? p).isSome = true) →
    ((∀ p ∈ maskParts mask, s.owns c p = true) → Answers (.portClaim t c mask false) s (fun u => EndsAs s u c 0x101 .ok [] true ∧ u.dies = s.dies ∧ u.sec = s.sec ∧
      (∀ p ∈ maskParts mask, (u.part? p).map (·.owner) = some (claimOwner c.port)) ∧ ∀ p, p ∉ maskParts mask → u.part? p = s.part? p)) ∧
    Answers (.portClaim t c mask true) s (fun u => EndsAs s u c 0x101 .ok [] true ∧ u.dies = s.dies ∧ u.sec = s.sec ∧
      (∀ p ∈ maskParts mask, (u.part? p).map (·.owner) = some (claimOwner c.port)) ∧ ∀ p, p ∉ maskParts mask → u.part? p = s.part? p) ∧
    Answers (.portRelease t c mask) s (fun u => EndsAs s u c 0x102 .ok [] true ∧ u.dies = s.dies ∧ u.sec = s.sec ∧
      (∀ p P, p ∈ maskParts mask → s.part? p = some P → P.owner = claimOwner c.port → (u.part? p).map (·.owner) = some .both) ∧
      ∀ p, p ∉ maskParts mask → u.part? p = s.part? p)) ∧
  (∀ (t : Nat) (c : CmdRef) (s : State), s.canEnd c = true →
    (∀ (p : Nat) (P : Part), s.pkg = .on → s.part? p = some P → s.owns c p = true → P.mode.mode = .serve → P.mode.pending = none →
      Answers (.modeRequest t c p 4) s (fun u => EndsAs s u c 0x103 .ok ∧ (u.part? p).map (·.mode.mode) = some .serve ∧ u.dies = s.dies ∧ u.sec = s.sec) ∧
      Answers (.modeRequest t c p 6) s (fun u => (u.part? p).map (·.mode.mode) = some .drain ∧ u.hw = s.hw)) ∧
    (∀ seconds : BitVec 64, s.ownsAll c = true → s.timeSource = 1 → Answers (.timeSet t c seconds) s (fun u =>
      u = { s.upTo t with time := { s.time with nextPps := some (seconds.toNat, c) }, running := s.running ++ [{ cmd := c, opcode := 0x106, op := .timeSet, since := decided t s, mseq := 0 }] })))

/-- R601, R605: FW_LOAD of an image that passes the checks commits it in the copy not in use and ends OK; one that fails them ends with BAD_FIRMWARE and changes
nothing but the outcomes. -/
def Obligations.FirmwareLoad : Prop :=
  ∀ (t : Nat) (c : CmdRef) (len : BitVec 32) (flags : BitVec 1) (fw : Signed) (s : State), s.canEnd c = true → s.ownsAll c = true → s.fwMode = true →
    s.svc.sideband.fwLoad = none →
    ((s.fwOk fw && fw.bytes.length == len.toNat) = false → Answers (.fwLoad t c len flags fw) s (fun u => EndsAs s u c 0x310 .badFirmware ∧ OnlyOutcomes s u)) ∧
    (s.fwOk fw = true → fw.bytes.length = len.toNat → leAt fw.bytes 4 1 = 0 → s.svc.runningSvc = 0 → s.svc.nv.svcFw.length = 2 →
      Answers (.fwLoad t c len flags fw) s (fun u => EndsAs s u c 0x310 .ok ∧ u.parts = s.parts ∧ u.dies = s.dies ∧ u.sec = s.sec ∧
        u.svc.nv.svcFw[0]? = s.svc.nv.svcFw[0]? ∧ u.svc.nv.svcFw[1]?.map (fun f => (f.committed, f.bytes, f.seq)) = some (true, fw.bytes, leAt fw.bytes 8 4)))

/-- R675, R676: ROP_SET to a higher level is in force on its cycle, closes every debug scope and ends OK; from ROP2 to any level it ends with PERMANENT and nothing but the
outcomes changes; lowering ROP1 outside SERVICE ends with MODE. -/
def Obligations.ReadOutProtection : Prop :=
  ∀ (t : Nat) (c : CmdRef) (n : BitVec 2) (s : State), s.canEnd c = true → s.ownsAll c = true → n ≠ 3 →
    (s.ropLevel < n.toNat → s.svc.nv.anchorUsed < 2048 → Answers (.ropSet t c n) s (fun u => EndsAs s u c 0x311 .ok ∧ u.ropLevel = n.toNat ∧ u.sec.scopes = [] ∧
      u.parts = s.parts ∧ u.dies = s.dies)) ∧
    (s.ropLevel = 2 → Answers (.ropSet t c n) s (fun u => EndsAs s u c 0x311 .permanent ∧ OnlyOutcomes s u)) ∧
    (s.ropLevel = 1 → n = 1 → Answers (.ropSet t c n) s (fun u => EndsAs s u c 0x311 .permanent ∧ OnlyOutcomes s u)) ∧
    (s.ropLevel = 1 → n = 0 → s.allService = false → Answers (.ropSet t c n) s (fun u => EndsAs s u c 0x311 .mode ∧ OnlyOutcomes s u))

/-! ### Keys, MACsec, attestation and debug access (R567-R585, R594-R615, R740) -/

/-- R568, R578, R582, R585: LOAD_KEY puts a drawn key into half 0 of an EMPTY slot, which is ACTIVE and bound to its partition; REKEY puts one into the other half of an
ACTIVE slot and begins its sweep, unless an ERASE_KEY of the slot waits for the same service-die cycle: then it ends with NOT_LOADED; a key whose halves are the same leaves the slot and ends with WEAK_KEY. ERASE_KEY zeroises both halves on the command's cycle. The
other slots, the system slots and the partitions keep what they have. -/
def Obligations.TenantKeys : Prop :=
  ∀ (t : Nat) (c : CmdRef) (p : Nat) (slot : BitVec 16) (s : State), s.still p = true → slot.toNat < 4096 →
    (s.admits c p modesOpen = true → s.engine = true → (s.slot slot.toNat).state = .empty → Answers (.loadKey t c p slot 0 []) s (fun u =>
      let k := (State.drawBytes 64 s).1
      u.parts = s.parts ∧ u.dies = s.dies ∧ u.sec.sys = s.sec.sys ∧ (∀ i, i ≠ slot.toNat → u.slot i = s.slot i) ∧
      if weakKey k then EndsAs s u c 0x301 .weakKey ∧ u.slot slot.toNat = s.slot slot.toNat
      else EndsAs s u c 0x301 .ok [] true ∧ (u.slot slot.toNat).state = .active ∧ (u.slot slot.toNat).currentHalf = 0 ∧ (u.slot slot.toNat).half0 = k ∧
        (u.slot slot.toNat).part = some p ∧ (u.slot slot.toNat).loadCount = (s.slot slot.toNat).loadCount + 1)) ∧
    (∀ rate : BitVec 6, s.admits c p modesServing = true → s.engine = true → (s.slot slot.toNat).state = .active → (s.slot slot.toNat).part = some p →
      1 ≤ rate.toNat → rate.toNat ≤ 50 → if (s.upTo t).soonerSvc (.erase slot.toNat) = true then Answers (.rekey t c p slot 0 [] rate) s (fun u =>
        EndsAs s u c 0x302 .notLoaded ∧ OnlyOutcomes s u) else Answers (.rekey t c p slot 0 [] rate) s (fun u =>
        let k := (State.drawBytes 64 s).1
        let h := 1 - (s.slot slot.toNat).currentHalf
        u.parts = s.parts ∧ u.dies = s.dies ∧ u.sec.sys = s.sec.sys ∧ (∀ i, i ≠ slot.toNat → u.slot i = s.slot i) ∧
        if weakKey k then EndsAs s u c 0x302 .weakKey ∧ u.slot slot.toNat = s.slot slot.toNat
        else u.running = [{ cmd := c, opcode := 0x302, op := .rekey p slot.toNat h, since := decided t s, mseq := 0 }] ∧
          (u.slot slot.toNat).state = .rekeying ∧ (u.slot slot.toNat).currentHalf = (s.slot slot.toNat).currentHalf ∧
          (u.slot slot.toNat).sweep = some { newHalf := h, rate := rate.toNat, silent := false } ∧ (h = 1 → (u.slot slot.toNat).half1 = k))) ∧
    (s.admits c p modesOpen = true → (s.slot slot.toNat).state ≠ .empty → (s.slot slot.toNat).part = some p → Answers (.eraseKey t c p slot) s (fun u =>
      EndsAs s u c 0x303 .ok [] true ∧ u.parts = s.parts ∧ u.sec.sys = s.sec.sys ∧ (∀ i, i ≠ slot.toNat → u.slot i = s.slot i) ∧
      u.slot slot.toNat = { KeySlot.reset with loadCount := (s.slot slot.toNat).loadCount, lastLoad := (s.slot slot.toNat).lastLoad, lastErase := fabAt s (decided t s) } ∧
      ∀ d ∈ s.partDies p, ∀ D, u.die? d = some D → aget D.remote.eraseStamps slot.toNat = some (decided t s)))

/-- R570, R586, R590: IMPORT_KEY_SET loads the IMPORT slot while every partition is in SERVICE; SYSTEM_KEY_SET opens its blob under IMPORT and loads TWIN_WRAP or ARBITER of
its partition, or ends with UNWRAP and changes no slot. -/
def Obligations.SystemKeys : Prop :=
  ∀ (t : Nat) (c : CmdRef) (s : State), s.canEnd c = true → s.engine = true →
    (∀ key : List Byte, s.ownsAll c = true → s.allService = true → s.ropLevel ≠ 2 → key.length = 32 → Answers (.importKeySet t c key) s (fun u =>
      EndsAs s u c 0x304 .ok ∧ u.parts = s.parts ∧ u.sec.slots = s.sec.slots ∧ aget u.sec.sys 1 = some key ∧ ∀ i, i ≠ 1 → aget u.sec.sys i = aget s.sec.sys i)) ∧
    (∀ (p : Nat) (which : BitVec 1) (imp blob : List Byte), s.pkg = .on → s.hasPart p = true → s.owns c p = true → s.mode p ≠ .drain → s.sec.unwrapFails = [] →
      s.sec.unwrapRefuseUntil = none → aget s.sec.sys 1 = some imp → Answers (.systemKeySet t c p which blob) s (fun u =>
        let i := (if which = 0 then 6 else 10) + p
        u.parts = s.parts ∧ u.sec.slots = s.sec.slots ∧ (∀ j, j ≠ i → aget u.sec.sys j = aget s.sec.sys j) ∧
        match (kwUnwrap imp blob).filter (fun k => k.length == 32) with
        | some k => EndsAs s u c 0x305 .ok ∧ aget u.sec.sys i = some k
        | none => EndsAs s u c 0x305 .unwrap ∧ aget u.sec.sys i = aget s.sec.sys i))

/-- R596-R599, R740: the MACsec mode and window of a port, an association put in from a blob under IMPORT, the transmit association selected and an association deleted,
each at its own port alone; EAPOL_SEND puts the frame on the port unprotected, whatever its mode. In MUST a frame that no association
protects is dropped and counted, and in either protecting mode a protected one that has fallen out of the replay window; a frame that leaves takes the transmit association's
next packet number, and at the last one it is dropped and counted instead. -/
def Obligations.MacsecCommands : Prop :=
  ∀ (t : Nat) (c : CmdRef) (port : BitVec 4) (brk : BitVec 3) (p : Nat) (s : State), s.canEnd c = true → s.portPart port.toNat brk.toNat = some p → s.owns c p = true →
    (∀ (mode : BitVec 2) (w : BitVec 32), mode ≠ 3 → w.toNat ≤ 2 ^ 30 → Answers (.macsecMode t c port brk mode w) s (fun u => EndsAs s u c 0x306 .ok ∧
      u.parts = s.parts ∧ u.macPort port.toNat brk.toNat = { s.macPort port.toNat brk.toNat with mode := mode.toNat, window := w.toNat } ∧
      ∀ x, x ≠ (port.toNat, brk.toNat) → u.macPort x.1 x.2 = s.macPort x.1 x.2)) ∧
    (∀ (k : MacKey) (imp : List Byte), k.salt.length = 12 → s.engine = true → (s.macPort port.toNat brk.toNat).full k = false → s.sec.unwrapFails = [] →
      s.sec.unwrapRefuseUntil = none → aget s.sec.sys 1 = some imp → Answers (.macsecKey t c port brk k) s (fun u =>
        match (kwUnwrap imp k.blob).filter (fun x => x.length == 32) with
        | some x => EndsAs s u c 0x307 .ok ∧ (u.macPort port.toNat brk.toNat).assocs =
            (s.macPort port.toNat brk.toNat).assocs.filter (fun b => !b.is k.tx k.sci k.an.toNat) ++
              [{ tx := k.tx, sci := k.sci, an := k.an.toNat, ssci := k.ssci.toNat, salt := k.salt, pn := k.pn.toNat, key := x }]
        | none => EndsAs s u c 0x307 .unwrap ∧ u.macPort port.toNat brk.toNat = s.macPort port.toNat brk.toNat)) ∧
    (∀ an : BitVec 2, (s.macPort port.toNat brk.toNat).assocs.any (fun a => a.tx && a.an == an.toNat) = true → Answers (.macsecTxSelect t c port brk an) s (fun u =>
      EndsAs s u c 0x308 .ok ∧ u.parts = s.parts ∧ u.macPort port.toNat brk.toNat = { s.macPort port.toNat brk.toNat with txAn := some an.toNat })) ∧
    (∀ (sci : BitVec 64) (an : BitVec 2), (s.macPort port.toNat brk.toNat).assocs.any (fun a => !a.tx && a.an == an.toNat && a.sci == sci) = true →
      Answers (.macsecDelete t c port brk 0 sci an) s (fun u => EndsAs s u c 0x309 .ok ∧ u.parts = s.parts ∧
        (u.macPort port.toNat brk.toNat).assocs = (s.macPort port.toNat brk.toNat).assocs.filter (fun a => !(!a.tx && a.an == an.toNat && a.sci == sci)) ∧
        (u.macPort port.toNat brk.toNat).txAn = (s.macPort port.toNat brk.toNat).txAn)) ∧
    (∀ (frame : List Byte) (len : BitVec 16), 60 ≤ len.toNat → len.toNat ≤ 1514 → frame.length = len.toNat → beAt frame 12 2 = 0x888E →
      Answers (.eapolSend t c port brk len frame) s (fun u => EndsAs s u c 0x30A .ok ∧ u.out = s.out ++ [Out.frame port.toNat brk.toNat frame] ∧
        u.parts = s.parts ∧ u.sec = s.sec ∧ u.dies = s.dies)) ∧
    (let m := s.macPort port.toNat brk.toNat
     let dropped (u : State) : Prop := u.parts = s.parts ∧ u.dies = s.dies ∧ u.out = s.out ∧ KeysKept s u ∧ u.macPort port.toNat brk.toNat = { m with drops := satInc m.drops } ∧
        ∀ x, x ≠ (port.toNat, brk.toNat) → u.macPort x.1 x.2 = s.macPort x.1 x.2
     (∀ (arr : Arrival) (q : BitVec 24) (i : Instr), arr.port = port.toNat → arr.brk = brk.toNat → i ∈ [Instr.cnp t ⟨arr, q⟩, .cmRtu t ⟨arr, q⟩, .cmDreq t ⟨arr, q⟩, .cmDrep t ⟨arr, q⟩] →
        (m.mode = 2 → m.covers arr.tag = false → Answers i s dropped) ∧ (m.mode ≠ 0 → m.covers arr.tag = true → m.fresh arr.tag = false → Answers i s dropped)) ∧
     ∀ (arr : Arrival) (n : BitVec 24) (q : Qp) (d : Nat) (a : Assoc), s.qp? n = some q → s.partOfDie (qpnDie n) = some d → q.state = .timewait → s.mode d ≠ .drain →
        2 * qpnDie n + q.port = port.toNat → q.brk = brk.toNat → (s.macPort arr.port arr.brk).mode = 0 → m.txAssoc = some a →
        (a.pn < 2 ^ 64 - 1 → a.pn + 1 ≠ 0xC000000000000000 → Answers (.cmDreq t ⟨arr, n⟩) s (fun u => u.parts = s.parts ∧ u.dies = s.dies ∧ KeysKept s u ∧
          u.out = s.out ++ [Out.cm (udpSource 1) n .drep] ∧ u.macPort port.toNat brk.toNat =
            { m with assocs := m.assocs.map (fun b => if b.tx && b.an == a.an then { b with pn := b.pn + 1 } else b) })) ∧
        (2 ^ 64 - 1 ≤ a.pn → Answers (.cmDreq t ⟨arr, n⟩) s dropped))

/-- R606, R609, R612-R615: ATTEST sends a record of 512 bytes and its signature and counts it; ATTEST_CERT sends as much of the chain as asked; DEBUG_CHALLENGE keeps the 64
bytes it sends, the one current challenge. At ROP0 DEBUG_UNLOCK answers NOT_NEEDED or BAD_CHALLENGE, and presenting the challenge consumes it. OWNER_SET with the
challenge, on a package without an owner and in SERVICE, sets hash and VENDOR_DEBUG. -/
def Obligations.AttestationAndDebug : Prop :=
  ∀ (t : Nat) (c : CmdRef) (s : State), s.canEnd c = true → c.port < 2 →
    (∀ (p : Nat) (kind : BitVec 1) (slot : BitVec 12) (nonce : List Byte) (addr : BitVec 64), nonce.length = 64 → addr.toNat % 64 = 0 → s.hasPart p = true → s.engine = true → s.pkg = .on →
      Answers (.attest t ⟨c, addr⟩ p kind slot nonce) s (fun u => EndsAs s u c 0x30B .ok ∧ u.sec.attestSeq = s.sec.attestSeq + 1 ∧ u.parts = s.parts ∧ u.svc = s.svc ∧
        ∃ b, u.out = s.out ++ [Out.dma c.port addr.toNat (b ++ Config.mldsaSign b)] ∧ slice b 64 64 = nonce)) ∧
    (∀ (addr : BitVec 64) (len : BitVec 32), Answers (.attestCert t ⟨c, addr⟩ len) s (fun u => EndsAs s u c 0x30C .ok ∧ u.out = s.out ++ [Out.dma c.port addr.toNat (s.svc.nv.certChain.take len.toNat)] ∧
      u.parts = s.parts ∧ u.sec = s.sec)) ∧
    (∀ addr : BitVec 64, s.ownsAll c = true → s.sec.drbgStopped = false → Answers (.debugChallenge t ⟨c, addr⟩) s (fun u => EndsAs s u c 0x30D .ok ∧ u.parts = s.parts ∧
      ∃ b : List Byte, b.length = 64 ∧ u.sec.challenge = some b ∧ u.out = s.out ++ [Out.dma c.port addr.toNat b])) ∧
    (∀ (tok : Signed), s.ownsAll c = true → s.ropLevel = 0 → (s.upTo t).raiseWaits = false → Answers (.debugUnlock t c tok) s (fun u => u.parts = s.parts ∧ u.sec.scopes = s.sec.scopes ∧
      if s.sec.challenge = some (slice tok.bytes 16 64) then u.sec.challenge = none ∧
        (leAt tok.bytes 8 8 = Config.serial.toNat → EndsAs s u c 0x30E .notNeeded ∧ u.svc = s.svc)
      else u.sec.challenge = s.sec.challenge ∧ EndsAs s u c 0x30E .badChallenge)) ∧
    (∀ (tok : Signed), s.ownsAll c = true → (s.upTo t).raiseWaits = true → Answers (.debugUnlock t c tok) s (fun u => u.parts = s.parts ∧ u.sec.scopes = s.sec.scopes ∧
      EndsAs s u c 0x30E .badChallenge)) ∧
    (∀ blob : Signed, s.ownsAll c = true → s.allService = true → s.svc.nv.opt.ownerHash = [] → blob.bytes.length = 7355 → leAt blob.bytes 128 1 ≤ 1 →
      allZero (slice blob.bytes 129 7) = true → allZero (blob.bytes.drop 136) = true → allZero (slice blob.bytes 0 64) = false → s.sec.challenge = some (slice blob.bytes 64 64) →
      Answers (.ownerSet t c blob) s (fun u => EndsAs s u c 0x30F .ok ∧ u.parts = s.parts ∧ u.sec.challenge = none ∧
        u.svc.nv.opt.ownerHash = slice blob.bytes 0 64 ∧ u.svc.nv.opt.vendorDebug = (leAt blob.bytes 128 1 == 1)))

/-! ### Tenants, queue pairs and windows (R101-R131, R734-R738) -/

/-- R569, R734-R736: TENANT_AUTHORISE enters a tenant that had no entry under its class with a meter index of its own, and binds the key slot that it names; TENANT_WITHDRAW
removes the entry of a tenant without windows, QPs and hampers and leaves the key slots; CREATE_QP puts a READY context into the lowest free slot and answers its QPN;
DESTROY_QP of a CONNECTING or READY QP sends a DREQ by a port without MACsec, the QP is CLOSING and the command waits; of a QP in TIMEWAIT it ends at once, of any
other it waits. -/
def Obligations.TenantsAndQueuePairs : Prop :=
  ∀ (t : Nat) (c : CmdRef) (p : Nat) (s : State), s.still p = true → s.admits c p modesServing = true →
    (∀ (a : TenAuth) (x : TClass) (m : Nat), s.engine = true → a.far.length ≤ 8 → a.token.length = 16 →
      a.slot = 0xFFFF ∨ a.slot.toNat < 4096 ∧ ((s.slot a.slot.toNat).tenant = none ∨ (s.slot a.slot.toNat).tenant = some a.tenant.toNat) ∧
        ((s.slot a.slot.toNat).part = none ∨ (s.slot a.slot.toNat).part = some p) → s.tclass? p a.cls.toNat = some x →
      s.classCount p a.cls.toNat a.tenant.toNat < x.maxTenants → 8 * s.reservesWith p a.tenant.toNat (some x) ≤ 7 * (s.store p).pool →
      aget (s.remote p).tenants a.tenant.toNat = none → (s.upTo t).freeMeter p = some m → Answers (.tenantAuthorise t c p a) s (fun u =>
        EndsAs s u c 0x201 .ok [] true ∧ u.sec.sys = s.sec.sys ∧ (∀ i, i ≠ a.slot.toNat → u.slot i = s.slot i) ∧
        (a.slot ≠ 0xFFFF → u.slot a.slot.toNat = { s.slot a.slot.toNat with tenant := some a.tenant.toNat }) ∧ aget (u.meterSt p).index a.tenant.toNat = some m ∧
        aget (u.remote p).tenants a.tenant.toNat = some { cls := a.cls.toNat, slot := a.slot.toNat, token := a.token, hostHampers := a.hostHampers, farDevices := a.far.map (·.toNat), reserve := x.reserve, meter := m, badCredentials := 0, degradedFlush := 0 } ∧
        ∀ n, n ≠ a.tenant.toNat → aget (u.remote p).tenants n = aget (s.remote p).tenants n)) ∧
    (∀ (n : BitVec 12), (aget (s.remote p).tenants n.toNat).isSome = true → (s.openWindows p).any (fun e => e.2.tenant == n.toNat) = false → s.tenantQps p n.toNat = 0 →
      (s.store p).hampers.any (fun h => h.2.tenant == n.toNat) = false →
      Answers (.tenantWithdraw t c p n) s (fun u => EndsAs s u c 0x202 .ok [] true ∧ u.sec.slots = s.sec.slots ∧ u.sec.sys = s.sec.sys ∧ u.dies = s.dies ∧ aget (u.remote p).tenants n.toNat = none ∧
        ∀ k, k ≠ n.toNat → aget (u.remote p).tenants k = aget (s.remote p).tenants k)) ∧
    (∀ (q : NewQp) (slot : Nat) (D : Die), q.respRes ≠ 0 → q.respRes.toNat ≤ 64 → q.pmtu ≠ 0 → q.pmtu.toNat ≤ 5 → s.partHasPort p q.port.toNat = true →
      q.brk.toNat < s.breakouts p q.port.toNat → (aget (s.remote p).tenants q.tenant.toNat).isSome = true → s.freeSlot p (q.port.toNat / 2) false = some slot →
      s.tenantQps p q.tenant.toNat < (match s.tenantClass p q.tenant.toNat with | some x => x.qpLimit | none => 0) → s.die? (q.port.toNat / 2) = some D →
      D.remote.gen slot < 128 → Answers (.createQp t c p q) s (fun u =>
        EndsAs s u c 0x203 .ok (natLE 4 (mkQpn (q.port.toNat / 2) (D.remote.gen slot) slot).toNat) ∧ u.parts = s.parts ∧ u.sec = s.sec ∧
        (u.qp? (mkQpn (q.port.toNat / 2) (D.remote.gen slot) slot)).map (fun x => (x.state, x.twinned, x.tenant, x.dest, x.epsn)) =
          some (QpState.ready, false, q.tenant.toNat, q.dest, q.epsn))) ∧
    (∀ (qpn : BitVec 24) (x : Qp), (s.partDies p).contains (qpnDie qpn) = true → s.qp? qpn = some x →
      let waits (u : State) : Prop := u.parts = s.parts ∧ u.sec = s.sec ∧ u.running = [{ cmd := c, opcode := 0x204, op := .destroyQp p qpn.toNat, since := decided t s, mseq := 0 }]
      (x.state = .ready ∨ x.state = .connecting → (s.macPort (2 * qpnDie qpn + x.port) x.brk).mode = 0 → Answers (.destroyQp t c p qpn) s (fun u => waits u ∧
        u.out = s.out ++ [Out.cm (udpSource 1) qpn .dreq] ∧ u.qp? qpn = some { x with state := .closing, closingAt := some (decided t s), drepPending := false })) ∧
      (x.state = .timewait → Answers (.destroyQp t c p qpn) s (fun u => EndsAs s u c 0x204 .ok ∧ OnlyOutcomes s u)) ∧
      (x.state = .closing ∨ x.state = .error → Answers (.destroyQp t c p qpn) s (fun u => waits u ∧ u.dies = s.dies ∧ u.out = s.out)))

/-- R107-R112, R160, R161, R737, R738: OPEN_WINDOW of a window of the partition's own bricks, with or without a ring, writes the entry at the lowest free index, into every die's
replica, and answers the key of R112; of a far window it starts the probe of its device and waits. -/
def Obligations.OpenWindow : Prop :=
  ∀ (t : Nat) (c : CmdRef) (p : Nat) (r : WinReq) (s : State), s.still p = true → s.admits c p modesServing = true → r.rights ≠ 0 → r.length ≠ 0 →
    r.length.toNat ≤ 2 ^ 49 → (aget (s.remote p).tenants r.tenant.toNat).isSome = true → (s.openWindows p).length < s.windowLimit p →
    (s.profile? p r.profile.toNat).isSome = true → (s.winProfile p (winOfReq r 0)).durability = 0 → s.ringOk p (winOfReq r 0) = true →
    (∀ i, r.far = false → s.inBricks p r.firstBrick.toNat (winOfReq r 0).bricks = true → s.allOf p r.tenant.toNat r.firstBrick.toNat (winOfReq r 0).bricks = true →
      s.encipherClash p (winOfReq r 0) = false → s.freeIndex p = some i → Answers (.openWindow t c p r) s (fun u =>
        let gen := match aget (s.remote p).windows i with | some w => w.gen | none => 1
        EndsAs s u c 0x205 .ok (natLE 4 (mkKey ((s.remote p).checkKey.getD (0, 1)) gen i).toNat) true ∧ u.sec = s.sec ∧
        aget (u.remote p).windows i = some (winOfReq r gen) ∧ (∀ j, j ≠ i → aget (u.remote p).windows j = aget (s.remote p).windows j) ∧
        ∀ d ∈ s.partDies p, ∀ D, u.die? d = some D → aget D.remote.replica i = some gen)) ∧
    (r.far = true → (s.peer p r.farDevice.toNat).state = .joined → Answers (.openWindow t c p r) s (fun u =>
      u.running = [{ cmd := c, opcode := 0x205, op := .openFar p r.farDevice.toNat 0, since := decided t s, mseq := 0 }] ∧
      (u.fabric p).farProbes = (s.fabric p).farProbes ++ [{ peer := r.farDevice.toNat, cmd := c, req := r, firstAt := fabAt s (decided t s) }] ∧
      (u.remote p).windows = (s.remote p).windows))

/-- R125-R129, R131, R737: REVOKE_WINDOW closes the window and advances its generation on every die, with its stamp, and completes when no operation of the old generation
is left; one that names no open window changes nothing. 100 ms after the stamp the QP of a write that is left goes into ERROR with cause 0x21, and the window stays
under revocation on that cycle. -/
def Obligations.RevokeWindow : Prop :=
  ∀ (t p : Nat) (s : State),
    (∀ (c : CmdRef) (key : BitVec 32) (w : Win), s.still p = true → s.admits c p modesServing = true →
      aget (s.remote p).windows (bits key.toNat 23 6) = some w → w.valid = true → w.gen = bits key.toNat 31 24 → w.forced = none →
      check6 ((s.remote p).checkKey.getD (0, 1)).1 ((s.remote p).checkKey.getD (0, 1)).2 w.gen (bits key.toNat 23 6) = bits key.toNat 5 0 →
      Answers (.revokeWindow t c p key) s (fun u => EndsAs s u c 0x206 .ok [] true ∧ u.sec = s.sec ∧ u.running = [] ∧
        (aget (u.remote p).windows (bits key.toNat 23 6)).map (fun x => (x.valid, x.gen, x.revoking)) = some (false, (w.gen + 1) % 256, none) ∧
        ∀ d ∈ s.partDies p, ∀ D, u.die? d = some D → aget D.remote.replica (bits key.toNat 23 6) = some ((w.gen + 1) % 256) ∧
          aget D.remote.revokeStamps (bits key.toNat 23 6) = some (decided t s))) ∧
    (∀ (c : CmdRef) (key : BitVec 32), s.admits c p modesServing = true → aget (s.remote p).windows (bits key.toNat 23 6) = none →
      Answers (.revokeWindow t c p key) s (fun u => EndsAs s u c 0x206 .notOpen ∧ OnlyOutcomes s u)) ∧
    (∀ (idx x : Nat) (w : Win) (o : Op) (q : Qp), s.hasPart p = true → (s.twin p).paired = false → s.running = [] → (s.fabric p).farStreams = [] →
      (s.fabric p).farSent = [] → aget (s.remote p).windows idx = some w → w.revoking = some x → w.forced = none → s.pending = [] → x + 100 * cMs ≤ decided t s →
      (s.remote p).ops = [o] → o.kind = .write → o.win = idx → o.gen ≠ w.gen → o.farFrom = none → o.farTo = none → s.qp? o.qpn = some q →
      q.state = .ready → (s.macPort (2 * qpnDie o.qpn + q.port) q.brk).mode = 0 → Answers (.revokeForced t p idx) s (fun u => u.sec = s.sec ∧
        (aget (u.remote p).windows idx).map (fun y => (y.revoking, y.forced)) = some (some x, some (decided t s)) ∧
        (u.qp? o.qpn).map (fun y => (y.state, y.errCause, y.errStamp)) = some (QpState.error, 0x21, decided t s)))

/-! ### Objects, hampers and repair commands (R213-R218, R225, R273-R312) -/

/-- R59, R61, R273, R276, R298: REGISTER_OBJECT allocates the bricks of the range and answers the object's number; UNREGISTER_OBJECT frees them and waits for a checkpoint's
footer; PROMOTE posts an entry for the runtime; DEMOTE without EVICT writes the placement into every brick of the object. -/
def Obligations.ObjectCommands : Prop :=
  ∀ (t : Nat) (c : CmdRef) (p : Nat) (s : State), s.still p = true → s.admits c p modesServing = true →
    (∀ (o : ObjReq) (id : Nat), o.bricks ≠ 0 → o.bricks.toNat ≤ 8388608 → o.placement ≠ 3 →
      o.courses.toNat = 0 ∨ (List.range 16).any (fun k => bit o.courses.toNat k && (s.rec? 2 p k).isSome) = true → s.inBricks p o.first.toNat o.bricks.toNat = true →
      (s.store p).allocatedIn o.first.toNat o.bricks.toNat = [] → (aget (s.remote p).tenants o.tenant.toNat).isSome = true → s.freeObject = some id →
      Answers (.registerObject t c p o) s (fun u => EndsAs s u c 0x401 .ok (natLE 4 id) true ∧ u.dies = s.dies ∧ u.sec = s.sec ∧
        aget u.storeNv.objects id = some { part := p, first := o.first.toNat, bricks := o.bricks.toNat, placement := o.placement.toNat, tenant := o.tenant.toNat, courses := o.courses.toNat, removed := false, freeing := none } ∧
        (∀ b, o.first.toNat ≤ b → b < o.first.toNat + o.bricks.toNat → (u.store p).brick? b = some (newBrick o.tenant.toNat o.placement.toNat id)) ∧
        ∀ b, ¬(o.first.toNat ≤ b ∧ b < o.first.toNat + o.bricks.toNat) → (u.store p).brick? b = (s.store p).brick? b)) ∧
    (∀ (obj : BitVec 20) (o : Object), s.object? p obj.toNat = some o → s.openWindows p = [] → (s.store p).hampers = [] → (s.store p).frameWaits = [] →
      Answers (.unregisterObject t c p obj) s (fun u => u.sec = s.sec ∧ u.dies = s.dies ∧ (∀ b, o.first ≤ b → b < o.first + o.bricks → (u.store p).brick? b = none) ∧
        (∀ b, ¬(o.first ≤ b ∧ b < o.first + o.bricks) → (u.store p).brick? b = (s.store p).brick? b) ∧ u.object? p obj.toNat = none ∧
        u.running = [{ cmd := c, opcode := 0x402, op := .unregister p obj.toNat, since := decided t s, mseq := 0 }])) ∧
    (∀ (obj : BitVec 20) (first pages : BitVec 32) (hold : BitVec 16) (o : Object) (h : Nat), s.object? p obj.toNat = some o → pages ≠ 0 →
      first.toNat + pages.toNat ≤ o.bricks * 512 → s.hamperFull p o.tenant = false → s.flashDirect p o = false → (s.store p).freeHamper = some h →
      Answers (.promote t c p obj first pages hold 0) s (fun u => EndsAs s u c 0x403 .ok ∧ u.dies = s.dies ∧ u.sec = s.sec ∧ u.storeNv = s.storeNv ∧
        (u.store p).hampers = (s.store p).hampers ++ [(h, { tenant := o.tenant, byHost := false, changed := fabAt s (decided t s), direct := 0, entries := [{ object := obj.toNat, persistent := false, first := first.toNat, pages := pages.toNat, deadline := 0, holdMs := hold.toNat, state := .queued, heldAt := 0, holdEnd := none }] })])) ∧
    (∀ (obj : BitVec 20) (target : BitVec 2), (s.object? p obj.toNat).isSome = true → target = 0 ∨ target = 2 → (s.store p).hampers = [] →
      Answers (.demote t c p obj target false) s (fun u => EndsAs s u c 0x404 .ok [] true ∧ u.dies = s.dies ∧ u.sec = s.sec ∧ u.storeNv = s.storeNv ∧
        ∀ b B, (s.store p).brick? b = some B → B.object = obj.toNat → (u.store p).brick? b = some { B with placement := target.toNat }))

/-- R309-R312: HAMPER_POST takes the lowest free number and queues its entries, HAMPER_QUERY tells and changes nothing, HAMPER_CANCEL ends every entry and frees the number. -/
def Obligations.HamperCommands : Prop :=
  ∀ (t : Nat) (c : CmdRef) (p : Nat) (s : State), s.still p = true → s.admits c p modesServing = true →
    (∀ (tenant : BitVec 12) (e : HampEntry) (o : Object) (h : Nat), s.hamperFull p tenant.toNat = false → (s.store p).freeHamper = some h → e.bad = false → e.pages ≠ 0 →
      s.objectOf p tenant.toNat e.object.toNat = some o → e.first.toNat + e.pages.toNat ≤ o.bricks * 512 → s.flashDirect p o = false →
      Answers (.hamperPost t c p tenant 1 [e]) s (fun u => EndsAs s u c 0x405 .ok (countResult h 1) ∧ u.dies = s.dies ∧ u.sec = s.sec ∧
        (u.store p).hampers = (s.store p).hampers ++ [(h, { tenant := tenant.toNat, byHost := false, changed := fabAt s (decided t s), direct := 0, entries := [{ object := e.object.toNat, persistent := e.persistent, first := e.first.toNat, pages := e.pages.toNat, deadline := e.deadline.toNat, holdMs := e.holdMs.toNat, state := .queued, heldAt := 0, holdEnd := none }] })])) ∧
    (∀ (h : BitVec 8) (x : Hamper), aget (s.store p).hampers h.toNat = some x →
      Answers (.hamperQuery t c p h) s (fun u => EndsAs s u c 0x407 .ok (s.hamperResult p h.toNat) ∧ OnlyOutcomes s u) ∧
      Answers (.hamperCancel t c p h) s (fun u => u.dies = s.dies ∧ u.sec = s.sec ∧ aget (u.store p).hampers h.toNat = none ∧
        EndsAs s u c 0x406 .ok (countResult h.toNat (x.entries.filter (fun e => e.state == .queued || e.state == .filling || e.state == .late)).length)))

/-- R213-R215, R218, R225: SCRUB of a partition with no brick allocated changes nothing else and is under way; at its completion it sends its summary. PPR_APPLY in SERVICE starts its
repairs; at its completion the outcomes go into the spare-row map in its order and the result counts them. CLEAR_LOST of a resident page of the lost-page list makes it a
page again: VALID, DIRTY, charged, off the list. -/
def Obligations.RepairCommands : Prop :=
  ∀ (t : Nat) (c : CmdRef) (p : Nat) (s : State),
    (∀ q : ScrubReq, s.still p = true → s.admits c p modesOpen = true → q.kind.toNat < 2 → q.scope = 0 → 1 ≤ q.rate.toNat → q.rate.toNat ≤ 50 → q.addr.toNat % 256 = 0 →
      (s.store p).scrub = none → (s.store p).bricks = [] → (s.store p).errs = [] → Answers (.scrub t c p ⟨q, [], []⟩) s (fun u => u.dies = s.dies ∧ u.sec = s.sec ∧ u.storeNv = s.storeNv ∧
        u.out = s.out ∧ u.running = [{ cmd := c, opcode := 0x501, op := .scrub p, since := decided t s, mseq := 0 }] ∧
        ∃ x, u.store p = { s.store p with scrub := some x } ∧ x.addr = q.addr.toNat ∧ x.port = c.port ∧ x.start = fabAt s (decided t s))) ∧
    (∀ (mask : BitVec 32) (outs : List PprOut), s.still p = true → s.admits c p [.service] = true → (s.upTo t).spareUnits p = s.upTo t →
      (∀ i, i < 32 → mask.getLsbD i = true → bit (s.field 1 p 0 4 4 0) i = true ∧ (s.partDies p).contains (i / 4) = true) →
      outs.length = (s.storeNv.spare.filter (fun r => r.toTry mask.toNat false)).length → Answers (.pprApply t c p 0 mask 0 outs) s (fun u => u.dies = s.dies ∧ u.sec = s.sec ∧
        u.storeNv = s.storeNv ∧ u.running = [{ cmd := c, opcode := 0x502, op := .ppr p false mask.toNat outs, since := decided t s, mseq := 0 }])) ∧
    (∀ (r : Running) (P : CtlPort) (e : JEntry), s.running = [r] → s.heldEnds = [] → r.cmd = c → c.port < 2 → s.ports[c.port]? = some P → P.entry? c.tag = some e → P.ended = [] → P.posted = [] →
      P.cpl.enable = false →
      let ends (u : State) (result : List Byte) : Prop := u.running = [] ∧ ∃ q, u.ports[c.port]? = some q ∧ q.ended = [] ∧
        (q.journal.find? (fun j => j.jseq == e.jseq)).map (fun j => (j.status, j.result)) = some (.ok, result)
      (∀ x, r.op = .scrub p → (s.store p).scrub = some x → Answers (.commandCompletion t c.port c.tag) s (fun u => ends u [] ∧ (u.store p).scrub = none ∧ u.sec = s.sec ∧
        Out.dma x.port x.addr (x.bytes (fabAt s (decided t s)) 0) ∈ u.out)) ∧
      (∀ (hppr : Bool) (mask : Nat) (outs : List PprOut), r.op = .ppr p hppr mask outs → (s.store p).out = [] →
        (applyPpr mask hppr s.storeNv.spare outs).all (fun x => !x.out) = true → Answers (.commandCompletion t c.port c.tag) s (fun u =>
          u.storeNv = { s.storeNv with spare := applyPpr mask hppr s.storeNv.spare outs } ∧ u.sec = s.sec ∧
          ends u (natLE 4 (outs.filter (· == .pass)).length ++ natLE 4 (outs.filter (· == .fail)).length ++ natLE 4 (outs.filter (· == .noResource)).length)))) ∧
    (∀ (brick : BitVec 28) (page : BitVec 9), s.still p = true → s.admits c p modesOpen = true → s.listed p brick.toNat page.toNat = true → s.openWindows p = [] → s.live p = true →
      0 < (s.remote p).budget.homeFree → (s.store p).resident brick.toNat = true → Answers (.clearLost t c p brick page false) s (fun u =>
        EndsAs s u c 0x503 .ok ∧ u.dies = s.dies ∧ u.sec = s.sec ∧ u.running = [] ∧ u.listed p brick.toNat page.toNat = false ∧
        (u.store p).valid brick.toNat page.toNat = true ∧ ((u.store p).page brick.toNat page.toNat).dirty = true ∧
        ((u.store p).page brick.toNat page.toNat).filled = true ∧ (u.remote p).budget.charged = (s.remote p).budget.charged + 1))

/-! ### Hampers on their own (R299-R312) -/

/-- R300-R307: an entry whose turn has come pins its bricks and, with nothing left to fill, is HELD; one whose deadline passes opens its direct window, and stays LATE if it
is persistent; every die records the window, which ends for an ABANDONED entry; a hold that ends releases its pins, and a hamper with no entry left frees its number. -/
def Obligations.HamperEvents : Prop :=
  ∀ (t p h : Nat) (x : Hamper) (e : Entry) (s : State), s.still p = true → s.live p = true → s.serving p = true → s.pending = [] →
    aget (s.store p).hampers h = some x → x.entries = [e] →
    (e.state = .queued → (s.entryPages e).all (fun g => !(s.store p).valid g.1 g.2) = true →
      (s.store p).pinned x.tenant + (s.entryBricks e).length ≤ s.pinLimit p x.tenant → (s.flash p).reads = [] → Answers (.hamperEntryStart t p h) s (fun u =>
        ((u.store p).entry? h 0).map (fun y => (y.state, y.heldAt)) = some (EntryState.held, fabAt s (decided t s)) ∧ u.dies = s.dies ∧ u.sec = s.sec ∧
        ∀ b ∈ s.entryBricks e, ∀ B, (u.store p).brick? b = some B → B.pin = true)) ∧
    (e.state = .queued → e.deadline ≠ 0 → e.deadline ≤ fabAt s (decided t s) → Answers (.hamperDeadline t p h 0) s (fun u =>
        (u.store p).direct = (s.store p).direct ++ [{ hamper := h, entry := 0, object := e.object, first := e.first, pages := e.pages, dies := [], ends := if e.persistent then none else some (if e.holdMs = 0 then e.deadline + 1000000000 else e.deadline + e.holdMs * 1000000) }] ∧
        u.dies = s.dies ∧ u.sec = s.sec ∧ (e.persistent = true → (((u.store p).entry? h 0).map (·.state)) = some .late) ∧
        (e.persistent = false → aget (u.store p).hampers h = none))) ∧
    (∀ n, e.state = .held → e.holdEnd = some n → n ≤ fabAt s (decided t s) → (s.store p).hampers = [(h, x)] → Answers (.holdEnd t p h 0) s (fun u =>
        (u.store p).hampers = [] ∧ u.dies = s.dies ∧ u.sec = s.sec ∧ ∀ b ∈ s.entryBricks e, ∀ B, (u.store p).brick? b = some B → B.pin = false)) ∧
    (∀ d ∈ s.partDies p, Answers (.directWindowRecord t d p h 0) s (fun u => (u.store p).hampers = (s.store p).hampers ∧
        ∀ w ∈ (u.store p).direct, w.hamper = h → w.entry = 0 → d ∈ w.dies)) ∧
    Answers (.directWindowClose t p h 0) s (fun u => (u.store p).hampers = (s.store p).hampers ∧ (∀ w ∈ (s.store p).direct, w.hamper ≠ h → w ∈ (u.store p).direct) ∧
        ∀ w ∈ (u.store p).direct, w.hamper = h → w.entry = 0 → ∀ n, w.ends = some n → fabAt s (decided t s) < n)

/-- R135, R309-R312: steward 0 works off a tenant's hamper message: HAMPER_POST takes the lowest free number, HAMPER_CANCEL ends the named hamper, HAMPER_QUERY tells of it;
each queues one status record with status 0, the message's tag and type, the fabric time and the result. -/
def Obligations.HostHamperMessages : Prop :=
  ∀ (t p : Nat) (w : SvcWork) (h : Nat) (s : State), s.still p = true → (s.remote p).svcWork = [w] → w.early = none →
    let record (res : List Byte) : StatusRec := { tenant := w.tenant, key := w.key, va := w.va, bytes := natLE 2 w.tag ++ natLE 1 w.typ ++ natLE 1 0 ++ natLE 8 (fabAt s (decided t s)) ++ (res ++ fill 52 0).take 52 }
    (w.typ = 1 → beAt w.body 0 2 = 1 → allZero (slice w.body 2 6) = true → w.body.length = 32 → s.hamperFull p w.tenant = false →
      s.entriesOk p w.tenant false 0 (hostEntries w.body 1) = true → (s.store p).freeHamper = some h →
      (∀ o, s.objectOf p w.tenant (hostEntry (slice w.body 8 24)).object.toNat = some o → s.flashDirect p o = false) →
      Answers (.hostHamperPost t p w.tenant) s (fun u => (u.remote p).svcWork = [] ∧ (u.remote p).statusRecs = (s.remote p).statusRecs ++ [record (countResult h 1)] ∧
        u.dies = s.dies ∧ (u.store p).hampers.map (fun e => (e.1, e.2.tenant, e.2.byHost)) =
          (s.store p).hampers.map (fun e => (e.1, e.2.tenant, e.2.byHost)) ++ [(h, w.tenant, true)])) ∧
    (∀ x : Hamper, w.typ = 2 → w.body.length = 8 → allZero (slice w.body 1 7) = true → leAt w.body 0 1 = h → aget (s.store p).hampers h = some x → x.tenant = w.tenant →
      Answers (.hostHamperCancel t p w.tenant) s (fun u => (u.remote p).svcWork = [] ∧ aget (u.store p).hampers h = none ∧ u.dies = s.dies ∧
        (u.remote p).statusRecs = (s.remote p).statusRecs ++
          [record (countResult h (x.entries.filter (fun e => e.state == .queued || e.state == .filling || e.state == .late)).length)])) ∧
    (∀ x : Hamper, w.typ = 3 → w.body.length = 8 → allZero (slice w.body 1 7) = true → leAt w.body 0 1 = h → aget (s.store p).hampers h = some x → x.tenant = w.tenant →
      Answers (.hostHamperQuery t p w.tenant) s (fun u => (u.remote p).svcWork = [] ∧ u.store p = s.store p ∧ u.dies = s.dies ∧
        (u.remote p).statusRecs = (s.remote p).statusRecs ++ [record (s.hamperResult p h)]))

/-! ### DRAM channels, calibration and links (R31-R35, R238-R270) -/

/-- R238-R251: a REFab that is due is issued, keeps its rank busy for tRFC1 and lowers the activate counts of its rank's banks, or is postponed while class 2 waits; an RFM lowers its
bank's count, activates raise it and the row's, and at the row-hammer threshold the bank is managed and the row's count starts anew; every 32 ms a die's tables are cleared. A DIMM's
sample is kept and sets its ranks' interval; a PMIC that fails retires its ranks; after 10 s without a sample the channel leaves service, and it returns once cool for 60 s and
calibrated. -/
def Obligations.DramMaintenance : Prop :=
  ∀ (t d ch rank : Nat) (s : State), (s.die? d).isSome = true →
    (∀ (r : RankSt) (c : ChannelSt), s.pkg = .on → aget (s.dram d).ranks (ch, rank) = some r → aget (s.dram d).channels ch = some c → c.inService = true → r.retired = false →
      r.busyUntil ≤ decided t s → r.nextRef ≤ decided t s → r.pulledIn = 0 →
      Answers (.refresh t d ch rank false false) s (fun u => u.parts = s.parts ∧ u.svc = s.svc ∧
        aget (u.dram d).ranks (ch, rank) = some { r with nextRef := r.nextRef + refiCycles r.refi, busyUntil := decided t s + ceilDiv (r.trfc1 * 8) 5 } ∧
        ∀ sub bank B, aget (s.dram d).banks (ch, sub, rank, bank) = some B → aget (u.dram d).banks (ch, sub, rank, bank) = some { B with raa := B.raa - B.raaimt }) ∧
      (r.postponed < 4 → Answers (.refresh t d ch rank true false) s (fun u => u.parts = s.parts ∧ u.svc = s.svc ∧ (u.dram d).banks = (s.dram d).banks ∧
        aget (u.dram d).ranks (ch, rank) = some { r with nextRef := r.nextRef + refiCycles r.refi, postponed := r.postponed + 1 }))) ∧
    (∀ (sub bank row : Nat) (B : BankSt), (s.upTo t).rankFree d ch rank = true → aget (s.dram d).banks (ch, sub, rank, bank) = some B →
      let leaves (u : State) (x : BankSt) : Prop := OnlyDies s u ∧ aget (u.dram d).banks (ch, sub, rank, bank) = some x ∧
        ∀ k, k ≠ (ch, sub, rank, bank) → aget (u.dram d).banks k = aget (s.dram d).banks k
      (B.rfm = true → B.raaimt ≤ B.raa → Answers (.rfm t d ch sub rank ⟨bank, []⟩) s (fun u => leaves u { B with raa := B.raa - B.raaimt })) ∧
      (B.rfm = false → aget B.table row = none → B.table.length < 32 → 1 < s.hammerLimit d →
        Answers (.rfm t d ch sub rank ⟨bank, [row]⟩) s (fun u => leaves u { B with raa := B.raa + 1, table := aset B.table row 1 })) ∧
      (∀ n, B.rfm = false ∨ B.raa < B.raammt → aget B.table row = some n → s.hammerLimit d ≤ n + 1 → Answers (.rowHammerRfm t d ch sub rank bank [row]) s (fun u =>
        leaves u { B with raa := B.raa - B.raaimt + 1, table := aset B.table row 0 }))) ∧
    ((s.dram d).tableResetAt + 32 * cMs ≤ decided t s → Answers (.activateTableReset t) s (fun u => OnlyDies s u ∧ (u.dram d).tableResetAt = decided t s ∧
      (u.dram d).banks.all (fun b => b.2.table.isEmpty) = true)) ∧
    (∀ (slot : Nat) (D : Dimm), aget (s.dram d).dimms (ch, slot) = some D →
      (∀ temp : Int, temp ≤ 95 * 16 → Answers (.dimmTempSample t d ch slot [temp] true) s (fun u => u.parts = s.parts ∧ u.svc = s.svc ∧
        aget (u.dram d).dimms (ch, slot) = some { D with temp := temp, sampleAt := decided t s, goodAt := decided t s, tempOk := true } ∧
        ∀ r, aget (s.dram d).ranks (ch, rank) = some r → r.slot = slot → r.refi = 0 → (aget (u.dram d).ranks (ch, rank)).map (·.refi) = some (if temp ≤ 85 * 16 then 0 else 1))) ∧
      (∀ status : BitVec 8, Answers (.pmicStatusRead t d ch slot status false) s (fun u => OnlyDies s u ∧
        aget (u.dram d).dimms (ch, slot) = some { D with pmic := status })) ∧
      (∀ (status : BitVec 8) (r : RankSt), D.pmicFailed = false → s.partOfDie d = none → aget (s.dram d).ranks (ch, rank) = some r → r.slot = slot →
        Answers (.pmicStatusRead t d ch slot status true) s (fun u => u.parts = s.parts ∧ (aget (u.dram d).ranks (ch, rank)).map (·.retired) = some true ∧
          aget (u.dram d).dimms (ch, slot) = some { D with pmic := status, pmicFailed := true })) ∧
      (∀ c : ChannelSt, s.pending = [] → D.tempOk = false → D.goodAt + 10 * cS ≤ decided t s → aget (s.dram d).channels ch = some c → c.inService = true →
        (∀ p, s.partOfDie d = some p → (s.store p).courses = []) → Answers (.sidebandLost t d ch slot) s (fun u =>
          (aget (u.dram d).channels ch).map (fun c => (c.inService, c.exitAt)) = some (false, some (decided t s))))) ∧
    (∀ (c : ChannelSt) (n : Nat), aget (s.dram d).channels ch = some c → c.inService = false → c.exitAt.isSome = true → c.under85Since = some n →
      n + 60 * cS ≤ decided t s → ((s.dram d).ranksOf ch).all (fun r => c.calibratedSinceExit.contains r) = true →
      (∀ p, s.partOfDie d = some p → s.still p = true ∧ (s.store p).frameWaits = []) → Answers (.thermalExitReturn t d ch) s (fun u =>
        (aget (u.dram d).channels ch).map (fun c => (c.inService, c.exitAt)) = some (true, none)))

/-- R253-R262: a trigger makes a run pending, or is absorbed into the one that is pending or in progress and counted; a window opens on a DDR5 channel that has had none, after a refresh
that is due; a run whose measurements agree and whose eye meets the minima chooses the setting to move to, one whose measurements do not agree is counted; every 2 µs the setting moves
by one item toward its target. -/
def Obligations.Calibration : Prop :=
  ∀ (t : Nat) (e : PhyId) (x : Phy) (s : State), aget s.phys e = some x →
    (∀ (why : CalWhy) (m : RateMeas), (why = .temperature → s.tempMoved e = true) → (why = .hours → x.runAt + 24 * 3600 * cS ≤ decided t s) →
      (why = .errorRate → (s.upTo t).errorRate e m = true) →
      (x.pending = none → x.running = false → Answers (.calibrationTrigger t e ⟨why, m⟩) s (fun u => u.dies = s.dies ∧ u.parts = s.parts ∧
        aget u.phys e = some { x with pending := some why })) ∧
      (x.pending.isSome = true ∨ x.running = true → Answers (.calibrationTrigger t e ⟨why, m⟩) s (fun u => u.dies = s.dies ∧ u.parts = s.parts ∧
        aget u.phys e = some { x with absorbed := x.absorbed + 1 }))) ∧
    (∀ (d ch r : Nat) (k : RankSt), e = .dram d ch r → aget (s.dram d).ranks (ch, r) = some k → k.busyUntil ≤ decided t s → x.pending.isSome = true → x.target = none →
      s.mayCalibrate e = true → s.phys.all (fun y => y.2.lastWindow.isNone) = true →
      (decided t s < k.nextRef → Answers (.calibrationWindow t e) s (fun u => u.parts = s.parts ∧
        aget (u.dram d).ranks (ch, r) = some { k with windowUntil := decided t s + 20 * cUs } ∧
        aget u.phys e = some { x with running := true, lastWindow := some (decided t s), windows := x.windows + 1 })) ∧
      (k.nextRef ≤ decided t s → k.pulledIn = 0 → Answers (.calibrationWindow t e) s (fun u =>
        let free := decided t s + ceilDiv (k.trfc1 * 8) 5
        u.parts = s.parts ∧ aget (u.dram d).ranks (ch, r) = some { k with nextRef := k.nextRef + refiCycles k.refi, busyUntil := free, windowUntil := free + 20 * cUs } ∧
        aget u.phys e = some { x with running := true, lastWindow := some free, windows := x.windows + 1 }))) ∧
    (∀ m : CalMeas, x.pending.isSome = true → x.target = none → x.windowed e m = true → s.mayCalibrate e = true →
      (∀ set : List Int, chooseSetting m (CalItem.inService e) x.setting = some set → PhyId.eyeWorks e m.eye = true →
        (∀ d ch p, e = .onfi d ch → s.partOfDie d = some p →
          onfiUnder (s.field 8 p 0 8 1 0 == 1) (s.field 8 p 0 6 2 3600) 4 (agetD (s.flash p).rates (d, ch) 0) = agetD (s.flash p).rates (d, ch) 0) →
        Answers (.calibrationRun t e m) s (fun u => u.parts = s.parts ∧ u.svc = s.svc ∧ (aget u.phys e).map (fun y => (y.pending, y.running, y.target, y.setting)) =
          some (none, false, some set, x.setting))) ∧
      (chooseSetting m (CalItem.inService e) x.setting = none → x.unstable < 2 → Answers (.calibrationRun t e m) s (fun u => u.parts = s.parts ∧ u.dies = s.dies ∧
        (aget u.phys e).map (fun y => (y.pending, y.unstable, y.target, y.setting)) = some (none, x.unstable + 1, none, x.setting)))) ∧
    (∀ tgt : List Int, x.target = some tgt → s.pkg = .on → x.stepAt + 2 * cUs ≤ decided t s → Answers (.settingStep t e) s (fun u => u.dies = s.dies ∧ u.parts = s.parts ∧
      aget u.phys e = some { x with setting := stepToward x.setting tgt, stepAt := decided t s, target := if stepToward x.setting tgt = tgt then none else some tgt }))

/-- R31, R35, R37, R267, R270: a mesh link whose replays pass 16 and that retrains counts them on its die and stays up, and one that does not retrain is down at both ends; a service link
that fails loses its die; an Ethernet link goes down and, after 10 s, a READY QP on it is in ERROR with cause 0x34; the link of an assigned port comes up again. -/
def Obligations.Links : Prop :=
  ∀ (t : Nat) (s : State), s.pkg = .on →
    (∀ (a b port n : Nat) (D E : Die), s.die? a = some D → meshNeighbour s.hw.member a port = some b → b ≠ a → s.die? b = some E → D.meshUp[port]? = some true → 16 < n →
      Answers (.meshLinkRetrain t a port ⟨n, true⟩) s (fun u => u.parts = s.parts ∧ u.svc = s.svc ∧ u.sec = s.sec ∧
        u.die? a = some { D with replays := amod D.replays port (0, 0) (fun x => (0, x.2 + n)) }) ∧
      ((∃ q, q < 4 ∧ q ≠ port ∧ D.meshUp[q]? = some true ∧ meshNeighbour s.hw.member a q = some b) → Answers (.meshLinkRetrain t a port ⟨n, false⟩) s (fun u =>
        u.parts = s.parts ∧ u.svc = s.svc ∧ (u.die? a).map (·.meshUp) = some (D.meshUp.set port false) ∧
        (u.die? b).map (·.meshUp) = some (E.meshUp.set (meshFar s.hw.member port) false)))) ∧
    (∀ (d : Nat) (D : Die), s.die? d = some D → D.serviceLink = true → D.lost = false → s.partOfDie d = none → Answers (.serviceLink t d) s (fun u => u.parts = s.parts ∧
      (u.die? d).map (fun E => (E.serviceLink, E.lost)) = some (false, true))) ∧
    (∀ (port brk : Nat) (l : LinkSt), aget s.links (port, brk) = some l →
      (l.up = true → Answers (.linkDown t port brk) s (fun u => u.parts = s.parts ∧ u.dies = s.dies ∧
        aget u.links (port, brk) = some { up := false, downSince := some (decided t s), lost := false })) ∧
      (∀ n p q, s.pending = [] → l.up = false → l.lost = false → l.downSince = some n → n + 10 * cS ≤ decided t s → s.partOfDie (port / 2) = some p →
        (s.rd (port / 2)).qps = [(qpnSlot q.qpn, q)] → qpnDie q.qpn = port / 2 → q.port = port % 2 → q.brk = brk → q.state = .ready → (s.twin p).paired = false →
        (s.fabric p).farSent = [] → Answers (.linkLost t port brk) s (fun u => aget u.links (port, brk) = some { l with lost := true } ∧
          (u.qp? q.qpn).map (fun y => (y.state, y.errCause, y.errStamp)) = some (QpState.error, 0x34, decided t s))) ∧
      (port < 2 * s.dieCount → s.svc.pins.ethRefclk = true → s.portAssigned port = true → Answers (.linkUp t port brk) s (fun u => u.parts = s.parts ∧ u.dies = s.dies ∧
        aget u.links (port, brk) = some { up := true, downSince := none, lost := false })))

/-! ### Lines and pages repaired (R196-R212) -/

/-- R196-R205, R209, R212: a corrective write writes its line back, unless a placement has been decided since, which drops it, and a re-read that finds the line clean ends the
matter; a page that the page code rebuilds holds no error in its flagged lines afterwards, and its bytes stand; a grout entry whose event has come is written into the parity lines,
never in DRAIN nor before its 8 ms; an uncorrectable entry is lost, and parity that is not current is computed anew; the next frame of the evacuation that no brick occupies leaves the
pool; a patrol read that finds its line clean moves the patrol on. -/
def Obligations.Repairs : Prop :=
  ∀ (t p c f b g k : Nat) (s : State),
    (∀ x : Corrective, (s.store p).correctives = [x] → x.names c f g k = true →
      (x.written = none → x.placedSince = false → Answers (.correctiveWrite t p (c, f) g k) s (fun u => OnlyParts s u ∧ (u.store p).errs = adel (s.store p).errs (c, f, g, k) ∧
        (u.store p).dram = (s.store p).dram ∧ (u.store p).parity = (s.store p).parity ∧ (u.store p).correctives = [{ x with written := some (decided t s) }])) ∧
      (x.written = none → x.placedSince = true → Answers (.correctiveWrite t p (c, f) g k) s (fun u => OnlyParts s u ∧ (u.store p).errs = (s.store p).errs ∧
        (u.store p).dram = (s.store p).dram ∧ (u.store p).correctives = [])) ∧
      (x.written.isSome = true → (aget (s.store p).courses c).isSome = true → (s.store p).out = [] →
        (∀ n, (s.store p).brickAt c f = some n → (s.store p).resOf n = some (c, f) ∧ ((s.store p).page n g).poison = 0) →
        Answers (.correctiveReread t p (c, f) g k []) s (fun u => OnlyParts s u ∧ (u.store p).correctives = [] ∧ (u.store p).errs = adel (s.store p).errs (c, f, g, k) ∧
          (u.store p).rebuilds = (s.store p).rebuilds))) ∧
    ((s.store p).rebuilds = [(b, g)] → s.still p = true → s.live p = true → ((s.store p).page b g).filled = true → ((s.store p).page b g).poison = 0 →
      ((s.store p).page b g).held = false → s.rebuildable p b g = true → (∀ j ∈ (s.store p).errLines b g, (s.lineOutcome p b g j).1 ≠ .poison) →
      Answers (.pageRebuild t p b g) s (fun u => u.svc = s.svc ∧ u.ports = s.ports ∧ u.out = s.out ∧ u.storeNv.lost = s.storeNv.lost ∧ (u.store p).rebuilds = [] ∧
        (u.store p).dram = (s.store p).dram ∧ ∀ j ∈ s.flaggedLines p b g, (u.store p).errAt b g j = [])) ∧
    (∀ gr : Grout, ((s.store p).page b g).grout = some gr →
      (∀ why : GroutWhy, why ≠ .uncorrectable → (s.upTo t).groutEvent p b g gr why = true → s.mode p ≠ .drain → s.pending = [] →
        (∀ j ∈ (s.store p).parityLines b, (s.lineOutcome p b g j).1 = .clean ∧ (s.store p).errAt b g j = []) →
        Answers (.groutWriteback t p b g why) s (fun u => OnlyParts s u ∧ (u.store p).parity = Memory.xorIn (s.store p).parity ((512 * b + g) * 512) gr.delta ∧
          (u.store p).page b g = { (s.store p).page b g with stale := ((s.store p).page b g).lostGrout, grout := none })) ∧
      (∀ why : GroutWhy, why ≠ .uncorrectable → s.mode p = .drain → Answers (.groutWriteback t p b g why) s (SameBut s)) ∧
      (decided t s < gr.first + 8 * cMs → Answers (.groutWriteback t p b g .age) s (SameBut s)) ∧
      Answers (.groutWriteback t p b g .uncorrectable) s (fun u => OnlyParts s u ∧ (u.store p).parity = (s.store p).parity ∧ (u.store p).dram = (s.store p).dram ∧
        (u.store p).page b g = { (s.store p).page b g with lostGrout := ((s.store p).page b g).lostGrout || ((s.store p).page b g).stale, grout := none })) ∧
    (∀ (C : Course) (i d : Nat), (s.store p).groutHome b g = some (c, C, i, d) → ((s.store p).notCurrent c).all (fun j => decide (i ≤ j)) = true →
      ((s.store p).page b g).filled = true → ((s.store p).page b g).poison = 0 → ((s.store p).page b g).current = false → ((s.store p).page b g).held = false →
      (s.store p).scrub = none → (∀ j < 64, (s.lineOutcome p b g j).1 ≠ .flagged ∧ (s.store p).errAt b g j = []) →
      Answers (.parityRecompute t p b g) s (fun u => OnlyParts s u ∧ u.store p = ((s.store p).writeParity b g).clearErrs b g)) ∧
    (∀ C : Course, (s.store p).evacuate.head? = some (c, f) → s.live p = true → (s.store p).bricks.all (fun e => e.2.res != some (c, f)) = true →
      (s.store p).courses.all (fun e => e.2.metaDue.isEmpty) = true → aget (s.store p).courses c = some C →
      Answers (.evacuateFrame t p c f) s (fun u => u.dies = s.dies ∧ u.storeNv = s.storeNv ∧ (u.store p).bricks = (s.store p).bricks ∧ (u.store p).evacuate = (s.store p).evacuate.drop 1 ∧
        aget (u.store p).courses c = some { C with retired := if C.retired.contains f then C.retired else C.retired ++ [f] })) ∧
    (∀ C : Course, aget (s.store p).courses c = some C → C.inService = true → C.frames ≠ 0 → s.live p = true → s.mode p ≠ .drain →
      let n := 512 * (64 + C.p)
      let pos := C.patrolAt (agetD (s.store p).patrol c 0)
      (s.frameOutcome p c (pos / n) (pos % n / (64 + C.p)) (pos % n % (64 + C.p))).1 = .clean → Answers (.patrolRead t p c []) s (fun u => OnlyParts s u ∧
        u.store p = { s.store p with patrol := aset (s.store p).patrol c ((pos + 1) % (C.frames * n)) }))

/-! ### Between DRAM and flash (R277-R297, R320-R349, R371-R377) -/

/-- R278-R297, R327-R331: a unit read for a fill brings its VALID pages, byte for byte, into the frame; evictions start below LOW and for a write that has waited 1 ms; an evicting
brick's lowest DIRTY unit is snapshot and programmed, and the completed program takes its place in the flash map and cleans what was not merged into since, while a failed one's block
is bad; a clean evicted brick's frame is released; the age of a resident brick that is not accessed on the cycle rises. -/
def Obligations.EvictionsAndWriteBacks : Prop :=
  ∀ (t p b x : Nat) (s : State),
    (∀ (r : FRead) (ns : List Nat), (s.flash p).reads = [r] → r.brick = b → r.unit = x → r.fill = true → r.hamper = none → r.waiting = [] → s.still p = true →
      (s.store p).resident b = true → (∀ e, (s.flash p).entry b x = some e → (s.flash p).locOut e.loc = false) → Memory.wf (s.store p).dram = true →
      (∀ g, g / 4 = x → (s.store p).valid b g = true ∧ s.listed p b g = false ∧ ((s.store p).page b g).filled = false ∧ ((s.store p).page b g).held = false ∧
        Memory.wf ((s.flash p).pageData b g) = true ∧ ((s.flash p).pageData b g).all (fun c => decide (c.1 < 4096)) = true) →
      Answers (.flashReadComplete t p b x (ns.map .ok)) s (fun u => u.svc = s.svc ∧ u.storeNv = s.storeNv ∧ (u.flash p).reads = [] ∧
        (∀ g, g / 4 = x → ((u.store p).page b g).filled = true) ∧
        ∀ g n, g / 4 = x → n < 4096 → Memory.read (u.store p).dram (pageAddr b g + n) = Memory.read ((s.flash p).pageData b g) n)) ∧
    (∀ (C : Course) (v : Nat), aget (s.store p).courses x = some C → s.live p = true → s.serving p = true → (s.store p).freeCount x < C.low →
      (s.store p).evictingOn x < 2 * C.low - (s.store p).freeCount x → ((s.chooseVictim p x none (s.overLimit p)).1 = some v ∨
        (s.chooseVictim p x none (s.overLimit p)).1 = none ∧ (s.chooseVictim p x none).1 = some v) →
      Answers (.lowMarkEviction t p x) s (fun u => OnlyParts s u ∧ ((u.store p).brick? v).map (fun B => (B.evicting, B.evictFor)) = some (true, none) ∧
        (u.store p).pages = (s.store p).pages ∧ (u.store p).dram = (s.store p).dram)) ∧
    (∀ B : Brick, (s.store p).brick? b = some B → B.evicting = true → (s.flash p).wbs = [] →
      (s.mayProgram p = true → (List.range 128).find? (fun n => !((s.store p).dirtyIn b n).isEmpty) = some x → ((s.flash p).nextUnit .openWrite false none).isSome = true →
        s.flaggedIn p b x = [] → Answers (.eviction t p b) s (fun u => u.svc = s.svc ∧ u.ports = s.ports ∧ (u.store p).dram = (s.store p).dram ∧ ∃ w, (u.flash p).wbs = [w] ∧ w.brick = b ∧ w.unit = x ∧ w.why = .evict ∧
          w.dirty = (s.store p).dirtyIn b x ∧ w.cws = s.snapshot p b x (s.flash p).seq ∧ (u.flash p).seq = (s.flash p).seq + 1)) ∧
      (B.res.isSome = true → (s.store p).dirtyPages b = [] → s.allMapped p b B = true → s.live p = true → s.still p = true → (s.store p).frameWaits = [] → (s.store p).hampers = [] →
        s.pending = [] → (s.store p).courses.all (fun e => e.2.metaDue.isEmpty) = true → Answers (.frameRelease t p b) s (fun u => u.dies = s.dies ∧ u.svc = s.svc ∧ u.storeNv = s.storeNv ∧
          (u.store p).brick? b = some { B with res := none, evicting := false, evictFor := none, evacuating := false } ∧ ∀ g, (u.store p).page b g = Page.empty))) ∧
    (∀ since v : Nat, aget (s.store p).frameWaits x = some since → s.waitBrick p x = some b → since + cMs ≤ decided t s → s.live p = true →
      (s.store p).evictingFor ((s.store p).tenantOf b) = false → (s.evictOn p (some ((s.store p).tenantOf b)) (s.allowedCourses p b)).1 = some v →
      Answers (.evictionRetry t p x) s (fun u => OnlyParts s u ∧ aget (u.store p).frameWaits x = some (decided t s) ∧
        ((u.store p).brick? v).map (fun B => (B.evicting, B.evictFor)) = some (true, some ((s.store p).tenantOf b)))) ∧
    (s.pkg = .on → (s.part? p).isSome = true → s.pending = [] → (s.store p).ageAt + s.field 15 0xFF 0 0 4 1000 * cMs ≤ decided t s → Answers (.agingSweep t p) s (fun u => OnlyParts s u ∧
      (u.store p).ageAt = decided t s ∧ ∀ n B, (s.store p).brick? n = some B → (u.store p).brick? n = 
        some (if B.res.isSome && B.accessed != some (decided t s) then { B with age := min 255 (B.age + 1) } else B))) ∧
    (∀ m : Nat, (s.store p).resident b = true → ((s.store p).dirtyIn b x).isEmpty = false → (s.flash p).inFlight b x = false → s.mayProgram p = true → s.wbFirst p b x = true →
      ((s.flash p).nextUnit .openWrite false none).map (·.1) = some m → s.flaggedIn p b x = [] → Answers (.writeBack t p b x m) s (fun u => (u.store p).dram = (s.store p).dram ∧
        ∃ w, (u.flash p).wbs = (s.flash p).wbs ++ [w] ∧ w.brick = b ∧ w.unit = x ∧ w.group = m ∧ w.why = .writeBack ∧ w.dirty = (s.store p).dirtyIn b x ∧
          w.cws = s.snapshot p b x (s.flash p).seq)) ∧
    (∀ (w : WriteBack) (m g : Nat), (s.flash p).wbs = [w] → w.brick = b → w.unit = x → w.why ≠ .relocate → (s.flash p).ahead w.loc.onLun 4 (s.packetWaits p) = false →
      (∀ B : Brick, w.dirty = [g] → ((s.store p).page b g).dirty = true → (s.store p).brick? b = some B → B.evacuating = false → B.evicting = false → s.running = [] →
        s.image.applying = none → Answers (.writeBackComplete t p b x true m) s (fun u => u.storeNv = s.storeNv ∧ (u.flash p).wbs = [] ∧
          (u.flash p).entry b x = some { loc := w.loc, keyHalf := w.cws.map (·.keyHalf) } ∧ aget (u.flash p).units w.loc = some w.cws ∧
          ((u.store p).page b g).dirty = ((s.store p).page b g).mergedSince ∧ ((u.store p).page b g).charges = ((s.store p).page b g).charges - 1)) ∧
      Answers (.writeBackComplete t p b x false m) s (fun u => (u.flash p).badBlocks.contains (w.loc.ch, w.loc.ce, w.loc.lun, w.loc.block) = true ∧
        (u.flash p).fmap = (s.flash p).fmap))

/-- R334-R347: where no work of an earlier class stands at the LUN, the valid units of the superblock with the fewest, of a block read too often and of the least-erased superblock are copied under their SEQ, and a completed copy
takes the place of its source; a superblock without a valid unit that a later footer covers is erased, and again erased once its erase ends; a LUN that retires makes its group
read-only; an object sector whose records are all removed is erased. -/
def Obligations.FlashUpkeep : Prop :=
  ∀ (t p m i : Nat) (s : State),
    (∀ (b x : Nat) (e : FMap), (s.flash p).fmap = [((b, x), e)] → (s.flash p).relocating b x = false → s.mayRelocate p = true →
      (s.takeIn p ((s.flash p).memberOf e.loc).1 .openReloc).isSome = true →
      let copied (u : State) : Prop := u.storeNv = s.storeNv ∧ (u.store p).dram = (s.store p).dram ∧ (u.flash p).fmap = (s.flash p).fmap ∧ ∃ w,
        (u.flash p).wbs = (s.flash p).wbs ++ [w] ∧ w.brick = b ∧ w.unit = x ∧ w.why = .relocate ∧ w.source = some e.loc ∧ w.cws = agetD (s.flash p).units e.loc []
      (∀ g, aget (s.flash p).groups m = some g → ((s.flash p).leastValid m g).isSome = true → Answers (.relocation t p m) s copied) ∧
      ((match s.rec? 16 p 0 with | some r => leAt r 8 4 | none => 1000) ≤ agetD (s.flash p).readCounts (e.loc.ch, e.loc.ce, e.loc.lun, e.loc.block) 0 →
        Answers (.readDisturbRelocate t p e.loc.ch e.loc.ce e.loc.lun e.loc.block) s (fun u => copied u ∧
          agetD (u.flash p).readCounts (e.loc.ch, e.loc.ce, e.loc.lun, e.loc.block) 0 = 0)) ∧
      (∀ g hi lo, aget (s.flash p).groups m = some g → g.byErases (fun a c => decide (c < a)) = some hi → g.byErases (fun a c => decide (a < c)) = some lo →
        256 * 16 < hi.2.worn - lo.2.worn → (s.flash p).inSb m lo.2 e.loc = true → Answers (.wearLevel t p m) s copied)) ∧
    (∀ (w : WriteBack), (s.flash p).wbs = [w] → w.why = .relocate → w.group = m → (s.flash p).ahead w.loc.onLun 5 false = false →
      (∀ e : FMap, (s.flash p).fmap = [((w.brick, w.unit), e)] → w.source = some e.loc → Answers (.relocationComplete t p m true) s (fun u =>
        u.storeNv = s.storeNv ∧ (u.flash p).wbs = [] ∧ aget (u.flash p).units w.loc = some w.cws ∧
        (u.flash p).fmap = [((w.brick, w.unit), { loc := w.loc, keyHalf := w.cws.map (·.keyHalf) })])) ∧
      Answers (.relocationComplete t p m false) s (fun u => (u.flash p).badBlocks.contains (w.loc.ch, w.loc.ce, w.loc.lun, w.loc.block) = true ∧
        (u.flash p).fmap = (s.flash p).fmap)) ∧
    (∀ (x : Superblock), ((aget (s.flash p).groups m).bind (fun g => aget g.sbs i)) = some x →
      (∀ n, x.state = .closed ∨ x.state = .drain → (s.flash p).validIn m x = [] → x.invalidAt = some n → n < (s.store p).ckpt.gen → (s.flash p).reads = [] → s.mayProgram p = true →
        Answers (.eraseSuperblock t p m i) s (fun u => OnlyParts s u ∧ ((aget (u.flash p).groups m).bind (fun g => aget g.sbs i)) = some { x with state := .erasing })) ∧
      (x.state = .erasing → s.live p = true → s.mode p ≠ .drain → (List.range 16).all (fun j => !(s.flash p).ahead ((s.flash p).member m j) 6 false) = true → (List.range 16).all (fun j => !(s.flash p).badBlocks.contains (((s.flash p).member m j).1, ((s.flash p).member m j).2.1, ((s.flash p).member m j).2.2, x.blocks.getD j 0)) = true →
        Answers (.blockEraseComplete t p m i []) s (fun u => u.storeNv = s.storeNv ∧ (u.flash p).fmap = (s.flash p).fmap ∧
          (u.flash p).units = (s.flash p).units.filter (fun y => !(s.flash p).inSb m x y.1) ∧
          ((aget (u.flash p).groups m).bind (fun g => aget g.sbs i)) = 
            some { x with state := .erased, next := 0, xorRows := 0, invalidAt := none, erases := x.erases.map (· + 1) }))) ∧
    (∀ ch ce lun : Nat, ch < (s.flash p).channels.length → ce < (s.flash p).ces → lun < (s.flash p).luns → (s.flash p).lunsOut.contains (ch, ce, lun) = false →
      Answers (.lunRetired t p ch ce lun) s (fun u => u.storeNv = s.storeNv ∧ (u.flash p).lunsOut = (s.flash p).lunsOut ++ [(ch, ce, lun)] ∧
        ∀ g, aget (u.flash p).groups ((s.flash p).memberOf { ch := ch, ce := ce, lun := lun, block := 0, page := 0 }).1 = some g → g.readOnly = true)) ∧
    (i < 256 → s.storeNv.objects.any (fun e => decide (e.1 / 4096 = i)) = true → s.storeNv.objects.all (fun e => decide (e.1 / 4096 ≠ i) || e.2.removed) = true → s.nvIdle = true →
      Answers (.objectSectorErase t i) s (fun u => u.parts = s.parts ∧ u.dies = s.dies ∧ u.storeNv.objects = s.storeNv.objects.filter (fun e => decide (e.1 / 4096 ≠ i)) ∧
        (u.svc.nv.erasing).map (·.sector) = some (944 + i)))

/-- R371-R377: a tracked page is written from its DRAM content; a checkpoint that is due, by its period or by the units to replay, records SEQ_START, the open superblocks and what the flash map and the VALID bitmaps then say; its footer makes
it the one in force and frees the object records whose bricks it covers. -/
def Obligations.Checkpoints : Prop :=
  ∀ (t p : Nat) (s : State),
    (∀ table index : Nat, s.mayProgram p = true → 3 ≤ table → (s.store p).ckpt.dirty.contains (table, index) = true → Answers (.trackedPageWrite t p table index) s (fun u =>
      OnlyParts s u ∧ (u.store p).ckpt.dirty = (s.store p).ckpt.dirty.filter (· != (table, index)) ∧ (u.store p).bricks = (s.store p).bricks ∧
      (table = 3 → ∀ n B, n / 512 = index → (s.store p).brick? n = some B → (s.store p).ckpt.bricks = [] → aget (u.store p).ckpt.bricks n = some B.saved))) ∧
    (s.mayCheckpoint p = true → ((s.store p).ckpt.startAt + s.ckptPeriod p ≤ decided t s ∨ s.replayLimit p ≤ (s.flash p).seq - (s.store p).ckpt.seqStart) → Answers (.checkpoint t p) s (fun u => OnlyParts s u ∧
      (u.store p).ckpt.running = true ∧ (u.store p).ckpt.nextSeqStart = (s.flash p).seq ∧ (u.store p).ckpt.fmap = (s.flash p).fmap ∧ (u.store p).ckpt.dirty = [] ∧
      (u.store p).ckpt.firstSeq = (s.store p).ckpt.seq ∧ (u.store p).ckpt.opens = (s.flash p).opens ∧
      (u.store p).ckpt.valid = (s.store p).bricks.map (fun e => (e.1, e.2.valid)) ∧ (u.store p).ckpt.gen = (s.store p).ckpt.gen ∧ (u.store p).ckpt.seqStart = (s.store p).ckpt.seqStart)) ∧
    (s.mayProgram p = true → (s.store p).ckpt.running = true → s.running = [] → s.image.applying = none → Answers (.checkpointFooter t p) s (fun u =>
      u.dies = s.dies ∧ u.svc = s.svc ∧ (u.store p).ckpt.gen = (s.store p).ckpt.gen + 1 ∧ (u.store p).ckpt.seqStart = (s.store p).ckpt.nextSeqStart ∧
      (u.store p).ckpt.running = false ∧ ∀ o O, aget s.storeNv.objects o = some O → O.part = p → ∀ n, O.freeing = some n → n ≤ (s.store p).ckpt.gen →
        aget u.storeNv.objects o = some { O with removed := true, freeing := none }))

/-! ### The image and BUILD (R507-R509, R553-R561, R699) -/

/-- R507-R509, R555-R561: an image that fails its checks is refused with its reason; one that passes is stored in the copy not in use, or ends MODE or BUSY, and a patch on the chain of the one in use,
in effect at once; a power-up without an image forms the provisional partition in SERVICE, one with an image puts its partitions into BUILD; a BUILD that passes every check enters
RESTORE, one that fails SERVICE with cause BUILD_FAIL. -/
def Obligations.ImageAndBuild : Prop :=
  ∀ (t : Nat) (c : CmdRef) (len : BitVec 32) (img : Image) (s : State),
    (s.canEnd c = true → s.ownsAll c = true →
      (∀ (e : BadImage) (flags : BitVec 2), s.checkFull len.toNat img true = .inl e → Answers (.imageLoad t c len flags img) s (fun u => u.parts = s.parts ∧ u.image = s.image ∧
        u.outcomes c.port = s.outcomes c.port ++ [{ outcome c 0x104 .refused with detail := e.code }])) ∧
      (∀ (recs : List ImgRec) (flags : BitVec 2), s.checkFull len.toNat img true = .inr recs → flags.getLsbD 0 = false → s.pkg = .on → s.image.busy = false → s.image.copies.length = 2 →
        Answers (.imageLoad t c len flags img) s (fun u => EndsAs s u c 0x104 .ok ∧ u.parts = s.parts ∧ u.dies = s.dies ∧ u.image.eff = s.image.eff ∧ u.image.inUse = s.image.inUse ∧
          (u.image.copies[(match s.image.inUse with | some k => 1 - k | none => 0)]?).map (fun x => (x.full, x.patches, x.committed, x.raiseFloor)) =
            some (some (storedOf img recs), [], true, flags.getLsbD 1))) ∧
      (∀ (recs : List ImgRec) (flags : BitVec 2), s.checkFull len.toNat img true = .inr recs →
        (s.pkg ≠ .on ∨ flags.getLsbD 0 = true ∧ ((s.changedParts (storedOf img recs).records).filter (fun p => s.hasPart p)).all (fun p => s.mode p == .service || s.mode p == .build) = false →
          Answers (.imageLoad t c len flags img) s (fun u => EndsAs s u c 0x104 .mode ∧ OnlyOutcomes s u)) ∧
        (s.pkg = .on → flags.getLsbD 0 = false → s.image.busy = true → Answers (.imageLoad t c len flags img) s (fun u => EndsAs s u c 0x104 .busy ∧ OnlyOutcomes s u))) ∧
      (∀ (k : Nat) (copy : ImageCopy), s.image.inUse = some k → s.image.copies[k]? = some copy →
        (∀ e : BadImage, s.checkPatch copy s.image.eff len.toNat img true = .inl e → Answers (.imagePatch t c len img) s (fun u => u.parts = s.parts ∧ u.image = s.image ∧
          u.outcomes c.port = s.outcomes c.port ++ [{ outcome c 0x105 .refused with detail := e.code }])) ∧
        (∀ recs : List ImgRec, s.checkPatch copy s.image.eff len.toNat img true = .inr recs → s.pkg = .on → s.image.busy = false →
          s.partIds.all (fun p => s.mode p != .restore && s.mode p != .drain) = true → (storedOf img recs).records.all (fun r => s.mode r.part != .restore && s.mode r.part != .drain) = true →
          Answers (.imagePatch t c len img) s (fun u => EndsAs s u c 0x105 .ok [] true ∧ u.image.eff = patched s.image.eff (storedOf img recs).records ∧ u.image.inUse = some k ∧
            u.image.copies[k]? = some { copy with patches := copy.patches ++ [storedOf img recs] } ∧ KeysKept s u)))) ∧
    (s.seqPhase = .loadFw → s.pkg = .seqUp → ∀ n, s.fwChoice 1 = some n →
      (s.image.order = [] → Answers (.buildEntry t true) s (fun u => u.pkg = .on ∧ u.seqPhase = .up ∧ u.svc.runningStew = n ∧ u.image.eff = [] ∧ u.parts.map (·.1) = [0] ∧
        u.mode 0 = .service ∧ u.provisional 0 = true ∧ (u.modeSt 0).causes = [.noImage])) ∧
      (∀ k x y, s.image.order = [k] → s.image.copies[k]? = some x → s.recheck x = some (y, false) → Answers (.buildEntry t true) s (fun u => u.pkg = .on ∧ u.seqPhase = .up ∧
        u.svc.runningStew = n ∧ u.image.inUse = some k ∧ u.image.eff = y.eff ∧ ∀ p ∈ effParts y.eff, (u.part? p).isSome = true ∧ u.mode p = .build ∧ (u.modeSt p).halted = false))) ∧
    (∀ (p : Nat) (rep : BuildRep), s.pkg = .on → s.mode p = .build → s.live p = true →
      (s.buildCheck p (s.judged rep) = none → Answers (.buildDone t p rep) s (fun u => u.mode p = .restore ∧ (u.store p).drain.rstep = 1 ∧ (u.store p).brickCount = s.brickCount p ∧
        u.image.eff = s.image.eff)) ∧
      (∀ e, s.buildCheck p (s.judged rep) = some e → Answers (.buildDone t p rep) s (fun u => u.mode p = .service ∧ u.hasCause p .buildFail = true ∧ u.image.eff = s.image.eff)) ∧
      (∀ why : BuildFail, Answers (.buildFail t p why rep) s (fun u => u.mode p = .service ∧ u.hasCause p .buildFail = true ∧ u.image.eff = s.image.eff)))

/-! ### The service die (R579-R581, R590-R615, R679-R699) -/

/-- R603, R615, R679-R699: the boot takes the best firmware copy or stays in the boot ROM, and a boot of a running service die finds the package off; the watchdog asks for recovery after 1 s, and after 1.5 s the service die is reset and the
package powered off; a firmware copy that has run for 60 s is good; a steward is reset, and its third reset within 10 minutes loses its die; the brown-out detector trips and releases, with no erase under way. -/
def Obligations.ServiceDie : Prop :=
  ∀ (t : Nat) (s : State),
    (s.svc.booted = false → (s.svc.nv.journal.all (·.done) = true → s.fwChoice 0 = none → Answers (.boot t) s (fun u => OnlySvc s u ∧ u.svc.booted = true ∧ u.svc.bootAt = decided t s ∧
        u.svc.fwStatus = 1)) ∧
      (∀ k o tab, s.svc.nv.journal.all (·.done) = true → s.fwChoice 0 = some k → s.svc.nv.lowering = false → s.svc.nv.option = some o → s.tableOf o = some tab →
        ahas s.sec.sys 0 = true → s.cutDrains = [] → Answers (.boot t) s (fun u => u.parts = s.parts ∧ u.dies = s.dies ∧ u.svc.booted = true ∧ u.svc.fwStatus = 0 ∧ u.svc.runningSvc = k ∧
          u.svc.seqTable = some tab ∧ u.svc.sideband.staticAddr = o.i3cAddr ∧ u.sec.sealNext = s.anchor 6 ∧ u.sec.sys = s.sec.sys))) ∧
    (s.svc.booted = true → Answers (.boot t) s (fun u => u.pkg = .cold ∧ u.svc.booted = true ∧ u.svc.bootAt = decided t s ∧ u.running = [] ∧ u.sec.scopes = [])) ∧
    (s.svc.runs = true →
      Answers (.watchdogRestart t) s (fun u => OnlySvc s u ∧ u.svc = { s.svc with watchdog := { lastRestart := decided t s, recovery := false } }) ∧
      (s.pending = [] → s.svc.watchdog.lastRestart / 4 + cS / 4 ≤ decided t s / 4 → Answers (.watchdogRecovery t) s (fun u => OnlySvc s u ∧
        u.svc = { s.svc with watchdog := { s.svc.watchdog with recovery := true } })) ∧
      (s.pending = [] → s.svc.watchdog.lastRestart / 4 + 1500 * cMs / 4 ≤ decided t s / 4 → s.svc.nv.erasing = none → Answers (.watchdogReset t) s (fun u => u.pkg = .cold ∧ u.svc.booted = false ∧
        u.svc.nv.watchdogDue = true ∧ u.running = [] ∧ u.sec.scopes = [] ∧ u.svc.nv.anchors = s.svc.nv.anchors)) ∧
      (∀ f : FwCopy, s.svc.nv.svcFw[s.svc.runningSvc]? = some f → s.svc.bootAt + 60 * cS ≤ decided t s → f.bootOk = false → f.raiseFloor = false → Answers (.bootOk t 0) s (fun u =>
        OnlySvc s u ∧ u.svc.nv = { s.svc.nv with svcFw := modNth s.svc.nv.svcFw s.svc.runningSvc (fun x => { x with bootOk := true, raiseFloor := false }) }))) ∧
    (∀ (d n : Nat) (D : Die), s.die? d = some D → D.lost = false → s.pkg ≠ .cold → n < 4 →
      ((aget s.svc.stewards (d, n) = none ∨ ∃ x, aget s.svc.stewards (d, n) = some x ∧ (x.resets.filter (fun y => decide (decided t s < y + 600 * cS))).length < 2) →
        Answers (.stewardReset t d n) s (fun u => u.parts = s.parts ∧ (u.die? d).map (·.lost) = some false ∧ ∃ y, aget u.svc.stewards (d, n) = some y ∧ y.resets.getLast? = some (decided t s))) ∧
      (∀ x, aget s.svc.stewards (d, n) = some x → 2 ≤ (x.resets.filter (fun y => decide (decided t s < y + 600 * cS))).length →
        Answers (.stewardReset t d n) s (fun u => (u.die? d).map (fun E => (E.lost, E.lostCause)) = some (true, 2)))) ∧
    (s.svc.nv.erasing = none →
      (s.svc.brownOut = false → Answers (.brownOut t) s (fun u => OnlySvc s u ∧ u.svc.brownOut = true ∧ u.svc.nv.eraseStopped = false ∧ u.svc.nv.erasing = none)) ∧
      (s.svc.brownOut = true → s.svc.nv.eraseStopped = false → Answers (.brownOutRelease t) s (fun u => OnlySvc s u ∧ u.svc.brownOut = false ∧ u.svc.nv = s.svc.nv)))

/-- R579-R581, R590, R593, R615, R681-R694: what the logbook held back in a past second leaves its counts, each hour ends with LOG_SUMMARY, and a head sector half full has the next one
erased; an entropy failure stops the DRBG; sixteen refused blobs in a second begin a refusal of 1 s; debug scopes close at EXPIRY; a rekey sweep passes a unit without a VALID page, and
with no brick left erases the old half, whose records are zeroised. -/
def Obligations.LogbookAndSeal : Prop :=
  ∀ (t : Nat) (s : State),
    Answers (.logSuppressed t) s (fun u => OnlySvc s u ∧ u.svc.nv = s.svc.nv ∧
      u.svc.log.suppressed = s.svc.log.suppressed.filter (fun e => !decide (e.2.first / 1000000000 < logTime (s.upTo t) / 1000000000))) ∧
    (s.time.everLocked = true → s.svc.log.summaryAt < fabAt s (decided t s) / 3600000000000 → logFrozen s = false → Answers (.logSummary t) s (fun u => OnlySvc s u ∧
      u.svc.log.summaryAt = fabAt s (decided t s) / 3600000000000 ∧ (u.svc.log.recs.getLast?).map (·.code) = some .logSummary)) ∧
    (logFrozen s = false → (s.upTo t).soonerSvc .freeze = false → s.svc.log.nextErased = false → 32768 ≤ s.svc.log.headUsed → s.nvIdle = true → s.svc.nv.eraseCount (1632 + (s.svc.log.head + 1) % 448) < 100000 →
      Answers (.logSectorErase t) s (fun u => u.parts = s.parts ∧ u.dies = s.dies ∧ u.svc.log.nextErased = true ∧ u.svc.log.head = s.svc.log.head ∧
        (u.svc.nv.erasing).map (fun e => (e.sector, e.done)) = some (1632 + (s.svc.log.head + 1) % 448, false))) ∧
    (s.sec.drbgStopped = false → Answers (.entropyFail t) s (fun u => u.parts = s.parts ∧ u.dies = s.dies ∧ u.sec = { s.sec with drbgStopped := true })) ∧
    (s.sec.unwrapRefuseUntil = none → 16 ≤ (s.sec.unwrapFails.filter (fun n => decide (decided t s < n + cS))).length → Answers (.unwrapBurst t) s (fun u => u.parts = s.parts ∧
      u.dies = s.dies ∧ u.sec = { s.sec with unwrapFails := [], unwrapRefuseUntil := some (decided t s + cS) })) ∧
    (∀ n, s.sec.unwrapRefuseUntil = some n → n ≤ decided t s → s.sec.unwrapFails = [] → Answers (.unwrapBurst t) s (fun u => u.parts = s.parts ∧ u.svc = s.svc ∧
      u.sec = { s.sec with unwrapRefuseUntil := none })) ∧
    (∀ e, s.sec.scopeExpiry = some e → (s.upTo t).soonerSvc .unlock = false → e ≤ fabAt s (decided t s) → Answers (.debugExpiry t) s (fun u => u.parts = s.parts ∧ u.dies = s.dies ∧ u.svc = s.svc ∧
      u.sec = { s.sec with scopes := [], scopeDies := 0, scopeExpiry := none, keyRamLost := [] })) ∧
    (∀ (p i n : Nat) (k : KeySlot) (w : Sweep), aget s.sec.slots i = some k → k.sweep = some w → k.part = some p → k.state = .rekeying → k.tenant = some n → s.serving p = true →
      s.pkg = .on → (s.twin p).paired = false → (s.twin p).lead = false →
      (s.sweepLeft p n w.newHalf = [] → w.silent = false → s.running = [] → Answers (.rekeyUnit t p i) s (fun u => u.parts = s.parts ∧ u.dies = s.dies ∧
        aget u.sec.slots i = some { k with state := .active, currentHalf := w.newHalf, half0 := if w.newHalf == 0 then k.half0 else [],
                                           half1 := if w.newHalf == 1 then k.half1 else [], sweep := none } ∧
        ∀ r ∈ u.sec.keyRecs, r.name = i → r.half = 1 - w.newHalf → r.commit = 0)) ∧
      (∀ (b : Nat) (B : Brick), s.sweepNext p (s.sweepLeft p n w.newHalf) = some b → (s.store p).brick? b = some B → B.keyHalf = w.newHalf →
        (s.flash p).inFlight b (B.cursor / 4) = false → (s.flash p).relocating b (B.cursor / 4) = false →
        (List.range 4).all (fun j => !((s.store p).page b (4 * (B.cursor / 4) + j)).held) = true → s.sweepPages p b (B.cursor / 4) = [] →
        Answers (.rekeyUnit t p i) s (fun u => OnlyParts s u ∧ ((u.store p).brick? b) = some { B with cursor := 4 * (B.cursor / 4) + 4 })))

/-! ### The power sequence (R620-R638) -/

/-- R620-R624, R626-R638: a power request that R620 allows starts the sequence, as does the retry 1 s after a fault; each entry is enabled, waits for its power-good, and after STEP_DELAY
the next follows, then the PLLs; a chain pin that does not come is recorded and passed over; a step that times out, chatters or stays low reverses; a rail that fails with the rails up
powers the package off and counts as a fault; the rails go down from the last, each once it is discharged. -/
def Obligations.PowerSequence : Prop :=
  ∀ (t : Nat) (s : State),
    (∀ tab : SeqTable, (s.upTo t).mayPower = true → s.svc.seq.coldCritical = false → s.tableOf s.svc.nv.opt = some tab →
      let starts (u : State) : Prop := u.pkg = .seqUp ∧ u.parts = s.parts ∧ u.svc.pins.chainDnOut = false ∧
        (tab.follow = true → s.svc.pins.chainUpIn = false → u.seqPhase = .waitChainUp) ∧
        (∀ e, tab.follow = false ∨ s.svc.pins.chainUpIn = true → tab.entries[0]? = some e → u.seqPhase = .waitPg 0 ∧ u.svc.pins.seqEn.contains e.en = true)
      (s.svc.seq.retryAt = none → Answers (.powerRequest t) s (fun u => starts u ∧ u.svc.pins.pwrReq = true)) ∧
      (∀ n, s.svc.pins.pwrReq = true → s.svc.seq.retryAt = some n → n / 4 + cS / 4 ≤ decided t s / 4 → Answers (.seqRetry t) s starts)) ∧
    ((s.upTo t).mayPower = false → s.svc.pins.pwrReq = false → Answers (.powerRequest t) s (fun u => OnlySvc s u ∧
      u.svc = { s.svc with pins := { s.svc.pins with pwrReq := true, pwrReqSince := decided t s } })) ∧
    (s.svc.pins.pwrReq = true → s.pkg = .cold → Answers (.powerWithdraw t) s (fun u => OnlySvc s u ∧ u.svc.pins = { s.svc.pins with pwrReq := false, pwrReqSince := decided t s } ∧
      u.svc.seq.retryAt = none)) ∧
    (s.pkg = .on → Answers (.powerWithdraw t) s (fun u => u.svc.pins.pwrReq = false ∧ ∀ p ∈ s.partIds, s.serving p = true → u.mode p = .drain ∧ u.hasCause p .off = true)) ∧
    (s.svc.pins.pwrReq = false → s.svc.pins.pwrReqSince / 4 + 500 * cMs / 4 ≤ decided t s / 4 → Answers (.latchClear t) s (fun u => OnlySvc s u ∧ u.svc.seq = { s.svc.seq with latched := false, retries := 0 } ∧
      u.svc.thermal = { s.svc.thermal with lockout := false, restarts := [] })) ∧
    (s.svc.seq.reverseDue = false →
      (∀ e, s.seqPhase = .waitChainUp → s.seqEntry 0 = some e →
        Answers (.chainUpIn t true) s (fun u => OnlySvc s u ∧ u.svc.pins.chainUpIn = true ∧ u.seqPhase = .waitPg 0 ∧ u.svc.pins.seqEn = s.svc.pins.seqEn ++ [e.en]) ∧
        (∀ tab, s.pending = [] → s.svc.seqTable = some tab → s.svc.seq.since / 4 + tab.upTimeout * cMs / 4 ≤ decided t s / 4 → Answers (.chainTimeout t) s (fun u => OnlySvc s u ∧ u.seqPhase = .waitPg 0 ∧
          u.svc.pins.seqEn = s.svc.pins.seqEn ++ [e.en]))) ∧
      (∀ (i sns : Nat) (e : SeqEntry) (raw : Nat), s.seqPhase = .waitPg i → s.seqEntry i = some e → raw ≤ 8 → (e.sns = none ∨ e.nominalMv * 90 ≤ sns * 100) →
        Answers (.seqPgAssert t i raw sns) s (fun u => OnlySvc s u ∧ u.seqPhase = .stepDelay i ∧ u.svc.seq.good = s.svc.seq.good ++ [i])) ∧
      (∀ (i k : Nat) (e f : SeqEntry), s.seqPhase = .waitPg i → s.seqEntry i = some e → s.pkg = .seqUp → s.svc.seq.enabled.getLast? = some k → s.seqEntry k = some f →
        let fails (why : SeqKind) (u : State) : Prop := u.pkg = .seqDown ∧ u.parts = s.parts ∧ u.svc.seq.fault = some (i, why) ∧ u.seqPhase = .discharge k ∧
          u.svc.pins.seqEn = s.svc.pins.seqEn.filter (· != f.en)
        (s.pending = [] → s.svc.seq.since / 4 + e.pgTimeout * cMs / 4 ≤ decided t s / 4 → Answers (.pgTimeout t i) s (fails .timeout)) ∧
        (∀ raw sns, 8 < raw → Answers (.seqPgAssert t k raw sns) s (fails .chatter)) ∧
        (∀ raw sns, raw ≤ 8 → e.sns.isSome = true → sns * 100 < e.nominalMv * 90 → Answers (.seqPgAssert t i raw sns) s (fails .lowRail))) ∧
      (∀ (i : Nat) (e : SeqEntry), s.seqPhase = .stepDelay i → s.seqEntry i = some e → s.svc.seq.since / 4 + e.stepDelay * cUs / 4 ≤ decided t s / 4 →
        (∀ f, s.seqEntry (i + 1) = some f → Answers (.stepDelayEnd t i) s (fun u => OnlySvc s u ∧ u.seqPhase = .waitPg (i + 1) ∧ u.svc.pins.seqEn = s.svc.pins.seqEn ++ [f.en])) ∧
        (s.seqEntries.length = i + 1 → Answers (.stepDelayEnd t i) s (fun u => OnlySvc s u ∧ u.seqPhase = .waitPll)))) ∧
    (∀ level : Bool, s.seqPhase ≠ .waitChainUp → s.seqPhase ≠ .waitChainDn →
      Answers (.chainUpIn t level) s (fun u => OnlySvc s u ∧ u.svc = { s.svc with pins := { s.svc.pins with chainUpIn := level } }) ∧
      Answers (.chainDnIn t level) s (fun u => OnlySvc s u ∧ u.svc = { s.svc with pins := { s.svc.pins with chainDnIn := level } })) ∧
    (s.seqPhase = .waitPll → s.svc.pins.ethRefclk = true → Answers (.pllLock t true) s (fun u => u.parts = s.parts ∧ u.pkg = s.pkg ∧ u.seqPhase = .loadFw ∧ u.svc.seq.pllLocked = true ∧
      u.svc.seq.portsAt = decided t s ∧ u.svc.pins.chainUpOut = true ∧ u.time = { TimeSt.reset with at_ := decided t s } ∧ u.dies.map (·.1) = s.dies.map (·.1))) ∧
    (∀ i : Nat, s.seqPhase.railsUp = true → s.svc.seq.good.contains i = true → s.svc.seq.fault = none → Answers (.railFault t i) s (fun u => u.pkg = .cold ∧
      u.svc.seq.retries = s.svc.seq.retries + 1 ∧ u.svc.seq.latched = (s.svc.seq.latched || decide (3 ≤ s.svc.seq.retries)))) ∧
    (∀ (i sns : Nat) (e : SeqEntry), s.seqPhase = .discharge i → s.seqEntry i = some e → e.sns.isSome = true → sns < e.offMv →
      (∀ k f, s.svc.seq.enabled.getLast? = some k → s.seqEntry k = some f → Answers (.railDischarge t i sns) s (fun u => OnlySvc s u ∧ u.seqPhase = .discharge k ∧
        u.svc.seq.enabled = s.svc.seq.enabled.dropLast ∧ u.svc.pins.seqEn = s.svc.pins.seqEn.filter (· != f.en))) ∧
      (s.svc.seq.enabled = [] → Answers (.railDischarge t i sns) s (fun u => u.pkg = .cold ∧ u.seqPhase = .off ∧ u.svc.pins.chainDnOut = true ∧ u.svc.pins.seqEn = []))) ∧
    (∀ k f, s.seqPhase = .waitChainDn → s.svc.seq.enabled.getLast? = some k → s.seqEntry k = some f → Answers (.chainDnIn t true) s (fun u => OnlySvc s u ∧
      u.svc.pins.chainDnIn = true ∧ u.seqPhase = .discharge k))

/-! ### Voltages, temperatures, clocks (R641-R666, R782) -/

/-- R641-R666, R782: an AVS rail's reading replaces the last and enters the package power, and a rail unread for 100 ms counts at the most; the core target moves by at most 5 mV; each
update moves every node by its balance; a diode within 8 °C of its node is noted; ambient, throttle levels and clocks follow; a critical condition powers the package off; a partition or
a package that has cooled restarts, at most three times in 24 hours. -/
def Obligations.PowerAndTemperature : Prop :=
  ∀ (t : Nat) (s : State),
    (∀ (rail : Nat) (r : AvsRail), aget s.svc.avs rail = some r →
      (∀ mv ma, Answers (.avsRead t rail mv ma true false) s (fun u => OnlySvc s u ∧ aget u.svc.avs rail = some { mv := mv, ma := ma, lastGood := decided t s, lost := false, faultSeen := false } ∧
        u.svc.powerMw = (u.svc.avs.map (fun e => if e.2.lost then memberMaxMw s.hw.member - s.fixedMw else e.2.mv * e.2.ma / 1000)).sum + s.fixedMw)) ∧
      (∀ mv ma fault, Answers (.avsRead t rail mv ma false fault) s (fun u => OnlySvc s u ∧ u.svc.avs = s.svc.avs)) ∧
      (s.pending = [] → r.lost = false → r.lastGood / 4 + 100 * cMs / 4 ≤ decided t s / 4 → Answers (.avsLost t rail) s (fun u => OnlySvc s u ∧ aget u.svc.avs rail = some { r with lost := true }))) ∧
    (∀ (tab : SeqTable) (e : SeqEntry) (rail : Nat), s.svc.seqTable = some tab → tab.entries[tab.coreEntry]? = some e → e.avs = some rail → s.svc.coreWriteAt = none →
      s.seqPhase = .waitPll ∨ s.pkg = .on ∧ s.partIds.all (fun p => s.mode p != .drain) = true → s.svc.coreTarget < s.vTarget → Answers (.avsTargetWrite t) s (fun u =>
        u.parts = s.parts ∧ u.dies = s.dies ∧ u.svc = { s.svc with coreTarget := min s.vTarget (s.svc.coreTarget + 5), coreWriteAt := some (decided t s) })) ∧
    (∀ acts : List BlockPower,
      (s.svc.thermal.lastUpdate / 4 + s.thermPeriod / 4 ≤ decided t s / 4 → Answers (.thermalUpdate t acts) s (fun u => u.svc.thermal.lastUpdate = decided t s ∧
        let dt : Rat := if s.svc.thermal.fast then 1 / 8000 else 1 / 1000
        let k := (s.upTo t).scaleNow acts s.nodesNow dt
        u.svc.thermal.scale = k ∧ u.svc.thermal.nodes.map (fun e => (e.1, e.2.temp)) = s.nodesNow.map (fun e => (e.1, s.nodeNext acts s.nodesNow dt k e.1 e.2)))) ∧
      (decided t s / 4 < s.svc.thermal.lastUpdate / 4 + s.thermPeriod / 4 → Answers (.thermalUpdate t acts) s (SameBut s))) ∧
    (∀ (d n : Nat) (temp : Int) (x : Node), s.svc.thermal.nodes = [(n, x)] → (s.nodeCfg n).diode = some d →
      (s.pkg ≠ .cold → -640 ≤ temp → temp ≤ 2400 → (temp : Rat) / 16 - x.temp ≤ 8 → -8 ≤ (temp : Rat) / 16 - x.temp → Answers (.diodeRead t d temp) s (fun u => u.parts = s.parts ∧ u.dies = s.dies ∧
        u.svc.thermal.nodes = [(n, { x with diode := some ((temp : Rat) / 16), divergeSince := none })] ∧ u.svc.thermal.diodeFaults = s.svc.thermal.diodeFaults.filter (· != d))) ∧
      (s.pkg = .cold → d < 64 → d % 8 ≠ 0 → Answers (.diodeRead t d temp) s (SameBut s)) ∧
      (s.pkg ≠ .cold → 2400 < temp → Answers (.diodeRead t d temp) s (fun u => OnlySvc s u ∧ u.svc.thermal.nodes = [(n, { x with diode := none, divergeSince := none })] ∧
        u.svc.thermal.diodeFaults.contains d = true))) ∧
    (∀ b : BitVec 16,
      (-640 ≤ b.toInt → b.toInt ≤ 1360 → Answers (.ambientWrite t (natLE 2 b.toNat)) s (fun u => OnlySvc s u ∧
        u.svc = { s.svc with thermal := { s.svc.thermal with ambient := b.toInt, ambientAt := decided t s, stale := false } })) ∧
      (1360 < b.toInt → Answers (.ambientWrite t (natLE 2 b.toNat)) s (fun u => OnlySideband s u ∧ u.svc.sideband = { s.svc.sideband with badAmbient := s.svc.sideband.badAmbient + 1 }))) ∧
    (s.pending = [] → s.svc.thermal.stale = false → s.svc.thermal.ambientAt / 4 + 30 * cS / 4 ≤ decided t s / 4 → Answers (.ambientStale t) s (fun u => OnlySvc s u ∧
      u.svc.thermal = { s.svc.thermal with stale := true })) ∧
    (s.svc.thermal.throttleAt / 4 + 10 * cMs / 4 ≤ decided t s / 4 → Answers (.throttleTick t) s (fun u => OnlySvc s u ∧
      u.svc = { s.svc with thermal := { s.svc.thermal with throttleAt := decided t s, dies := s.svc.thermal.dies.map (fun e =>
        if e.1 < 64 then (e.1, { e.2 with throttle := if 100 ≤ e.2.temp then min 7 (e.2.throttle + 1) else if e.2.temp ≤ 97 then e.2.throttle - 1 else e.2.throttle }) else e) } })) ∧
    (s.criticalNow = true → Answers (.criticalTrip t) s (fun u => u.svc.pins.thermTrip = true ∧ u.pkg = .cold)) ∧
    (s.criticalNow = false → Answers (.criticalTrip t) s (SameBut s)) ∧
    Answers (.refclkLoss t) s (fun u => u.parts = s.parts ∧ u.svc = { s.svc with pins := { s.svc.pins with ethRefclk := false, ethRefclkLostAt := some (decided t s) } } ∧
      ∀ k l, aget s.links k = some l → (aget u.links k).map (·.up) = some (!s.seqPhase.railsUp && l.up)) ∧
    Answers (.refclkRecover t) s (fun u => OnlySvc s u ∧ u.svc = { s.svc with pins := { s.svc.pins with ethRefclk := true, ethRefclkLostAt := none } }) ∧
    (s.svc.seq.coldCritical = true → s.svc.pins.pwrReq = true → (s.upTo t).mayPower = true → (s.upTo t).cooled none = true →
      ((s.upTo t).recentRestarts < 3 → Answers (.restartAfterCooling t none) s (fun u => u.pkg = .seqUp ∧ u.svc.thermal.restarts = s.svc.thermal.restarts ++ [decided t s])) ∧
      (3 ≤ (s.upTo t).recentRestarts → Answers (.restartAfterCooling t none) s (fun u => OnlySvc s u ∧ u.pkg = s.pkg ∧ u.svc.thermal = { s.svc.thermal with lockout := true }))) ∧
    (∀ p, s.awaitsCooling p = true → (s.upTo t).cooled (some p) = true → s.mode p = .drain → (s.part? p).isSome = true → (s.upTo t).recentRestarts < 3 →
      Answers (.restartAfterCooling t (some p)) s (fun u => u.mode p = .restore ∧ (u.store p).drain.rstep = 1 ∧ u.svc.thermal.restarts = s.svc.thermal.restarts ++ [decided t s]))

/-! ### Supply, drains and RESTORE (R359-R386, R509-R519, R640) -/

/-- R359, R360, R365-R370, R509-R518, R528, R640: PWR_FAIL_N, HOLDUP_OK lost for 1 ms and the controller's emergency request drain every serving partition with their cause, and a supply
failure halts one in BUILD; a drain takes its set of DIRTY pages and programs a copy of each, and once DRAIN_DONE is committed the first row that applies says where the partition
goes; the package powers down once every partition has settled. -/
def Obligations.SupplyAndDrains : Prop :=
  ∀ (t : Nat) (s : State),
    let drains (c : Cause) (u : State) : Prop := ∀ p ∈ s.partIds, s.serving p = true → u.mode p = .drain ∧ u.hasCause p c = true ∧ (u.store p).drain.step = 2 ∧ (u.store p).drain.done = false
    let halts (c : Cause) (u : State) : Prop := ∀ p ∈ s.partIds, s.mode p = .build → u.mode p = .build ∧ (u.modeSt p).halted = true ∧ u.hasCause p c = true
    (s.svc.pins.pwrFail = false → s.pkg = .on → s.pending = [] → Answers (.pwrFailNAssert t) s (fun u => drains .power u ∧ halts .power u ∧ u.svc.pins.pwrFail = true ∧ u.svc.pins.pwrFailSince = decided t s)) ∧
    (s.svc.pins.pwrFail = true → Answers (.pwrFailNDeassert t) s (fun u => OnlySvc s u ∧ u.svc.pins = { s.svc.pins with pwrFail := false, pwrFailSince := decided t s })) ∧
    (∀ level : Bool, s.svc.pins.holdupOk = !level → Answers (.holdupOkEdge t level) s (fun u => OnlySvc s u ∧ u.svc.pins = { s.svc.pins with holdupOk := level, holdupSince := decided t s })) ∧
    (s.svc.pins.holdupOk = false → s.svc.pins.holdupSince / 4 + cMs / 4 ≤ decided t s / 4 → s.pkg = .on → s.pending = [] → Answers (.holdupOkLoss t) s (fun u => drains .holdup u ∧
      ∀ p ∈ s.partIds, s.mode p = .service ∨ s.mode p = .build → u.modeSt p = s.modeSt p)) ∧
    (s.svc.pins.holdupOk = true → s.svc.pins.holdupSince / 4 + 100 * cMs / 4 ≤ decided t s / 4 → s.pkg = .on → s.pending = [] → Answers (.holdupOkHold t) s (fun u =>
      ∀ p ∈ s.partIds, s.mode p = .drain → (s.store p).drain.done = true → (s.modeSt p).causes = [.holdup] → (s.modeSt p).pending = none → u.mode p = .restore ∧ (u.store p).drain.rstep = 1)) ∧
    (s.pkg = .on → Answers (.bmcEmergencyDrain t) s (fun u => drains .bmc u ∧ halts .bmc u)) ∧
    (∀ p, s.pkg = .on → s.mode p = .drain →
      ((s.store p).drain.step = 2 → (s.remote p).ops.all (fun o => !(o.writes && o.accepted.isSome)) = true → (s.flash p).wbs = [] →
        s.drainFlagged p = [] → (s.drainSet p).all (fun x => !((s.store p).page x.1 x.2).held) = true → Answers (.drainSet t p) s (fun u => u.storeNv.lost = s.storeNv.lost ∧ u.svc = s.svc ∧ (u.store p).drain.step = 9 ∧ (u.store p).drain.set = s.drainSet p ∧ (u.store p).drain.setAt = some (decided t s) ∧
        ∀ x ∈ s.drainSet p, ∃ w ∈ (u.store p).drain.units, w.brick = x.1 ∧ w.page = x.2)) ∧
      ((s.store p).drain.step = 9 → (s.modeSt p).pending = none →
        let done (u : State) : Prop := (u.store p).drain.done = true ∧ (u.store p).drain.lastCauses = (s.modeSt p).causes.map Cause.code
        (s.hasCause p .power = true ∨ s.hasCause p .off = true → Answers (.drainDone t p) s (fun u => done u ∧ u.mode p = .drain ∧ (u.store p).drain.fact = .drainDone)) ∧
        ((s.modeSt p).causes = [.dieLost] → Answers (.drainDone t p) s (fun u => done u ∧ u.mode p = .service)) ∧
        ((s.modeSt p).causes = [.holdup] → s.svc.pins.holdupOk = true → s.svc.pins.holdupSince / 4 + 100 * cMs / 4 ≤ decided t s / 4 → Answers (.drainDone t p) s (fun u => done u ∧ u.mode p = .restore)))) ∧
    (∀ p, (s.modeSt p).halted = true → (s.modeSt p).haltComplete = false → (s.flash p).wbs = [] →
      (s.hasCause p .power = true ∨ (s.modeSt p).pending = none → Answers (.haltComplete t p) s (fun u => OnlyParts s u ∧ u.modeSt p = { s.modeSt p with haltComplete := true }))) ∧
    (∀ k f, s.pkg = .on → s.partIds.all s.settledFor = true → s.partIds.any (fun p => s.hasCause p .power || s.hasCause p .off) = true → s.seqFollow = false →
      s.svc.seq.enabled.getLast? = some k → s.seqEntry k = some f → Answers (.powerDown t) s (fun u => u.pkg = .seqDown ∧ u.seqPhase = .discharge k ∧ u.running = [] ∧
        u.svc.pins.chainUpOut = false ∧ u.svc.pins.seqEn = s.svc.pins.seqEn.filter (· != f.en)))

/-- R379-R386, R509, R510: RESTORE without a course ends in SERVICE with RESTORE_FAIL; from a checkpoint and no unit newer than it, the bricks are as the last written copies say and a
checkpoint is written; what the twin has not given in its time is lost; with the supply good and fabric time once locked, an unpaired partition then enters SERVE with its causes
cleared. -/
def Obligations.Restore : Prop :=
  ∀ (t p : Nat) (bad : List (Nat × Nat)) (s : State), s.pkg = .on → s.mode p = .restore → s.live p = true →
    ((s.store p).drain.rstep = 1 → (s.store p).drain.fact ≠ .serving →
      ((s.store p).courses = [] → Answers (.restore t ⟨p, bad⟩) s (fun u => u.mode p = .service ∧ u.hasCause p .restoreFail = true)) ∧
      ((s.store p).courses ≠ [] → (s.store p).ckpt.fmap = [] → (s.flash p).units = [] → (s.store p).drain.units = [] → s.running = [] → (s.twin p).paired = false →
        s.storeNv.objects.all (fun e => e.2.placement != 1) = true →
        let bricks := (s.store p).ckpt.bricks.map (fun e => (e.1, e.2.brick (agetD (s.store p).ckpt.valid e.1 0)))
        ((s.modeSt p).hold = false → Answers (.restore t ⟨p, bad⟩) s (fun u => u.mode p = .restore ∧ (u.store p).drain.rstep = 6 ∧ (u.store p).drain.awaited = [] ∧ (u.store p).bricks = bricks ∧
          (u.store p).pages = [] ∧ (u.store p).dram = [] ∧ (u.remote p).windows = (match s.part? p with | some P => P.savedWindows | none => []) ∧
          (u.store p).ckpt.gen = (s.store p).ckpt.gen + 1 ∧ (u.store p).ckpt.loaded = true ∧ (u.store p).drain.fact = .checkpoint)) ∧
        ((s.modeSt p).hold = true → Answers (.restore t ⟨p, bad⟩) s (fun u => u.mode p = .service ∧ u.hasCause p .held = true ∧ (u.store p).bricks = bricks)))) ∧
    (∀ (x : Nat × Nat) (n : Nat), (s.store p).drain.awaited = [x] → (s.store p).drain.awaitSince = some n → s.pending = [] → n + s.twinWait p ≤ decided t s → s.storeNv.lost.length < 4096 →
      Answers (.restoreTwinWait t p) s (fun u => (u.store p).drain.awaited = [] ∧ u.listed p x.1 x.2 = true ∧ u.mode p = .restore)) ∧
    ((s.store p).drain.rstep = 6 → (s.store p).drain.awaited = [] → s.svc.pins.holdupOk = true → s.svc.pins.holdupSince / 4 + 100 * cMs / 4 ≤ decided t s / 4 → s.time.everLocked = true →
      (s.twin p).paired = false → Answers (.restoreExit t p) s (fun u => u.mode p = .serve ∧ (u.modeSt p).causes = [] ∧ (u.store p).drain.rstep = 0 ∧ (u.store p).drain.fact = .serving))

/-! ### Request packets, connections and the budget (R84-R178) -/

/-- R115, R116, R118, R132-R136, R142, R147, R168: a write of one packet, with or without immediate data, and an ATOMIC WRITE are charged to the budget, join the operations
and are acknowledged, and store nothing yet; a SEND of one packet joins its tenant's queue and is acknowledged; the coalescing time sends the ACK of what stands
unacknowledged; placement stores exactly the packet's bytes; steward 0 takes a message, and places a status record. -/
def Obligations.WritesAndSends : Prop :=
  ∀ (t p : Nat) (q : Qp) (s : State),
    (∀ (k : Pkt) (c : Instr) (kind : OpKind) (idx : Nat) (w : Win), s.meets p q k → s.lets p q →
      ((c = .rdmaWrite t k ∧ k.op = 0x0A ∧ kind = .write) ∨ (∃ imm, c = .rdmaWriteWithImmediate t k imm ∧ k.op = 0x0B ∧ kind = .writeImm imm ∧ w.ring = none) ∨
        (c = .atomicWrite t k ∧ k.op = 0x1D ∧ kind = .atomicWrite)) →
      k.payload.length = (if k.op = 0x1D then 8 else k.len) → 0 < k.payload.length → k.payload.length ≤ mtuBytes q.pmtu →
      (∀ a, q.lastAcc = some a → 0 ≤ psnDiff k.psn a) → (s.upTo t).windowCheck p q { pkt := k, imm := none, cmp := 0, swp := 0 } = .inr (idx, w) → w.far = false →
      (s.winProfile p w).encipher = false → (s.winProfile p w).durability ≠ 2 → (s.remote p).budget.data ≠ 0 → s.readyAt p (w.addr k.va.toNat) k.payload.length →
      (spans (w.addr k.va.toNat) k.payload.length).length ≤ (s.rd (qpnDie k.dqpn)).credit → Answers c s (fun u =>
        u.store p = s.store p ∧ u.sec = s.sec ∧ u.out = s.out ++ [Out.rdma (decided t s) k.dqpn k.psn (.ack (q.msn + 1)) q.way] ∧
        (u.qp? k.dqpn).map (fun x => (x.epsn, x.msn, x.unacked)) = some (q.epsn + 1, q.msn + 1, 0) ∧
        (u.remote p).ops.map (fun o => (o.kind, o.addr, o.data, o.accepted)) = [(kind, w.addr k.va.toNat, k.payload, some (decided t s))] ∧
        (u.remote p).budget.charged = (s.remote p).budget.charged + (spans (w.addr k.va.toNat) k.payload.length).length)) ∧
    (∀ k : Pkt, s.meets p q k → s.lets p q → k.op = 4 → k.payload.length ≤ mtuBytes q.pmtu → envelopeOk k.payload = true → beAt k.payload 4 2 = k.payload.length →
      (agetD (s.remote p).svcQueue q.tenant []).length < 16 → (∀ a, q.lastAcc = some a → 0 ≤ psnDiff k.psn a) → Answers (.send t k) s (fun u =>
        u.store p = s.store p ∧ u.sec = s.sec ∧ u.out = s.out ++ [Out.rdma (decided t s) k.dqpn k.psn (.ack (q.msn + 1)) q.way] ∧
        (u.qp? k.dqpn).map (fun x => (x.epsn, x.msn, x.unacked)) = some (q.epsn + 1, q.msn + 1, 0) ∧
        agetD (u.remote p).svcQueue q.tenant [] = agetD (s.remote p).svcQueue q.tenant [] ++ [{ qpn := k.dqpn, bytes := k.payload }])) ∧
    (∀ (qpn psn : BitVec 24) (x : Nat), s.qp? qpn = some q → s.partOfDie (qpnDie qpn) = some p → q.twinned = false → q.state ≠ .error → q.oldestUnacked = some x →
      s.pending = [] → s.sendsOn p q → x + 2 * cUs ≤ decided t s → s.ackPsn p q = some psn → Answers (.ackCoalesce t qpn) s (fun u => u.parts = s.parts ∧ u.sec = s.sec ∧
        u.out = s.out ++ [Out.rdma (decided t s) qpn psn (.ack q.msn) q.way] ∧ u.qp? qpn = some { q with unacked := 0, oldestUnacked := none })) ∧
    (∀ (o : Op) (b g off : Nat), s.quiet p = true → (s.remote p).ops = [o] → o.kind = .write → o.accepted.isSome = true → o.farTo = none → o.farFrom = none →
      o.merged = [] → o.data.length = o.len → o.spans = [(b, g, off, o.len)] → s.readyAt p o.addr o.len → s.cleanAt p b g off o.len → s.wayFree p b g → s.mirrored p b = false →
      (∀ B, (s.store p).brick? b = some B → B.evicting = false) → o.profile.encipher = false → Memory.wf (s.store p).dram = true →
      Answers (.placement t p o.id) s (fun u => u.dies = s.dies ∧ u.sec = s.sec ∧ u.out = s.out ∧ (u.remote p).ops = [] ∧
        ((u.store p).page b g).dirty = true ∧ Stored (s.store p).dram (u.store p).dram o.addr o.data)) ∧
    (∀ (tenant : Nat) (m : SvcMsg) (rest : List SvcMsg), s.hasPart p = true → agetD (s.remote p).svcQueue tenant [] = m :: rest →
      ((s.upTo t).statusWin p tenant (BitVec.ofNat 32 (beAt m.bytes 8 4)) (beAt m.bytes 12 8)).isSome = true → Answers (.serviceMsgDequeue t p tenant) s (fun u =>
        u.dies = s.dies ∧ u.sec = s.sec ∧ u.store p = s.store p ∧ agetD (u.remote p).svcQueue tenant [] = rest ∧
        ∃ w : SvcWork, (u.remote p).svcWork = (s.remote p).svcWork ++ [w] ∧ w.tenant = tenant ∧ w.typ = beAt m.bytes 3 1 ∧ w.tag = beAt m.bytes 6 2 ∧
          w.body = m.bytes.drop 32)) ∧
    (∀ (x : StatusRec) (rest : List StatusRec) (i : Nat) (w : Win) (b g off : Nat), s.still p = true → (s.remote p).statusRecs = x :: rest →
      (s.upTo t).statusWin p x.tenant x.key x.va = some (i, w) → (s.remote p).budget.homeFree ≠ 0 → x.bytes.length = 64 → spans (w.addr x.va) 64 = [(b, g, off, 64)] →
      s.readyAt p (w.addr x.va) 64 → s.cleanAt p b g off 64 → s.wayFree p b g → s.mirrored p b = false → (∀ B, (s.store p).brick? b = some B → B.evicting = false) →
      (s.winProfile p w).encipher = false → Memory.wf (s.store p).dram = true → Answers (.statusRecordPlace t p) s (fun u =>
        u.dies = s.dies ∧ u.sec = s.sec ∧ u.out = s.out ∧ (u.remote p).statusRecs = rest ∧ (u.remote p).ops = [] ∧
        Stored (s.store p).dram (u.store p).dram (w.addr x.va) x.bytes))

/-- R87, R115, R116, R145, R157, R165, R169, R174, R797: a READ of one packet whose pages can be read answers their bytes; COMPARE SWAP and FETCH ADD answer the original and
store the new value, and nothing else, at once; a compare that fails stores nothing; a FLUSH joins the operations, and answers once nothing in its scope is left. -/
def Obligations.ReadsAtomicsAndFlushes : Prop :=
  ∀ (t p : Nat) (q : Qp) (s : State),
    (∀ (k : Pkt) (idx : Nat) (w : Win), s.meets p q k → s.lets p q → q.respRes ≠ 0 → k.payload = [] → k.op = 0x0C → 0 < k.len → k.len ≤ mtuBytes q.pmtu →
      (s.upTo t).windowCheck p q { pkt := k, imm := none, cmp := 0, swp := 0 } = .inr (idx, w) → w.far = false → (s.winProfile p w).encipher = false →
      let o := mkOp (s.remote p).nextOp s p q { pkt := k, imm := none, cmp := 0, swp := 0 } idx w false
      (∀ x ∈ o.spans, s.pageRead p o x.1 x.2.1 x.2.2.1 x.2.2.2 = .zero ∨
        (s.pageRead p o x.1 x.2.1 x.2.2.1 x.2.2.2 = .ram ∧ s.cleanAt p x.1 x.2.1 x.2.2.1 x.2.2.2)) →
      Answers (.rdmaReadRequest t k) s (fun u => u.sec = s.sec ∧ (u.store p).dram = (s.store p).dram ∧ (u.remote p).ops = [] ∧
        (u.qp? k.dqpn).map (fun x => (x.epsn, x.msn)) = some (q.epsn + 1, q.msn + 1) ∧ u.out = s.out ++ [Out.rdma (max (decided t s) q.paceAt) k.dqpn k.psn
          (.readData (o.spans.map (fun x => s.readBytes p o x.1 x.2.1 x.2.2.1 x.2.2.2)).flatten) q.way])) ∧
    (∀ (k : Pkt) (c : Instr) (new : BitVec 64 → Option (BitVec 64)) (idx : Nat) (w : Win) (b g off : Nat), s.meets p q k → s.lets p q → q.respRes ≠ 0 →
      k.payload = [] → ((∃ cmp swp, c = .compareSwap t k cmp swp ∧ k.op = 0x13 ∧ new = fun x => if x = cmp then some swp else none) ∨
        (∃ add, c = .fetchAdd t k add ∧ k.op = 0x14 ∧ new = fun x => some (x + add))) →
      (s.upTo t).windowCheck p q { pkt := k, imm := none, cmp := 0, swp := 0 } = .inr (idx, w) → w.far = false → (s.winProfile p w).encipher = false →
      (s.winProfile p w).durability ≠ 2 → (s.remote p).budget.data ≠ 0 → aget q.saved k.psn = none → 1 ≤ (s.rd (qpnDie k.dqpn)).credit → spans (w.addr k.va.toNat) 8 = [(b, g, off, 8)] →
      s.readyAt p (w.addr k.va.toNat) 8 → s.cleanAt p b g off 8 → s.wayFree p b g → s.listed p b g = false → s.mirrored p b = false →
      (∀ B, (s.store p).brick? b = some B → B.evicting = false) → Memory.wf (s.store p).dram = true → Answers c s (fun u =>
        let orig : BitVec 64 := BitVec.ofNat 64 (leNat (Memory.readN (s.store p).dram (w.addr k.va.toNat) 8))
        u.sec = s.sec ∧ (u.remote p).ops = [] ∧ u.out = s.out ++ [Out.rdma (max (decided t s) q.paceAt) k.dqpn k.psn (.atomicAck orig) q.way] ∧
        (u.qp? k.dqpn).map (fun x => (x.epsn, x.msn, aget x.saved k.psn)) = some (q.epsn + 1, q.msn + 1, some orig) ∧
        match new orig with
        | some v => Stored (s.store p).dram (u.store p).dram (w.addr k.va.toNat) (natLE 8 v.toNat)
        | none => (u.store p).dram = (s.store p).dram)) ∧
    (∀ (k : Pkt) (sel : BitVec 4) (kinds : BitVec 2) (idx : Nat) (w : Win), s.meets p q k → s.lets p q → q.respRes ≠ 0 → k.payload = [] → k.op = 0x1C →
      sel.toNat ≤ 1 → kinds ≠ 0 → (s.upTo t).windowCheck p q { pkt := k, imm := none, cmp := sel.setWidth 64, swp := kinds.setWidth 64 } = .inr (idx, w) → w.far = false →
      (s.winProfile p w).durability ≠ 2 → Answers (.flush t k sel kinds) s (fun u => u.store p = s.store p ∧ u.sec = s.sec ∧ u.out = s.out ∧
        (u.qp? k.dqpn).map (fun x => (x.epsn, x.msn)) = some (q.epsn + 1, q.msn + 1) ∧
        (u.remote p).ops.map (fun o => (o.psn, o.kind)) = [(k.psn, OpKind.flush sel.toNat (kinds.getLsbD 0) (kinds.getLsbD 1))])) ∧
    (∀ (o : Op) (level : Nat) (vis per : Bool), s.quiet p = true → s.partOfDie (qpnDie o.qpn) = some p → (s.remote p).ops = [o] → o.kind = .flush level vis per →
      o.farFrom = none → o.farTo = none → o.id ∉ o.scope → s.sendsOn p q → s.qp? o.qpn = some q → q.twinned = false → q.state ≠ .error → (per = true → (s.remote p).unconfirmed = []) →
      Answers (.flushResponse t o.qpn o.psn) s (fun u => (u.store p).dram = (s.store p).dram ∧ (u.store p).pages = (s.store p).pages ∧
        (u.store p).bricks = (s.store p).bricks ∧ u.sec = s.sec ∧ (u.remote p).ops = [] ∧ u.qp? o.qpn = some q ∧
        u.out = s.out ++ [Out.rdma (decided t s) o.qpn o.psn (.ack o.msn) q.way]))

/-- R85, R90-R104: a REQ for an address of its port whose credential holds, and which comes in an open admission slot, gets the lowest free slot of its die, a CONNECTING
context and a REP; BUILD and RESTORE reject it with a promised slot, SERVICE for good, DRAIN drops it. RTU, DREQ, DREP, the resend of a REP, the time-outs of CLOSING and
TIMEWAIT and the flush of an errored queue pair move a queue pair as rows of the table of R104 say. A service address is the lead's. -/
def Obligations.Connections : Prop :=
  ∀ (t p : Nat) (s : State), s.running = [] → s.pending = [] →
    (∀ (r : CmReq) (v : BitVec 16) (svc : Bool), s.partOfDie (r.dport / 2) = some p → s.pkg = .on → r.dport < 16 → s.partHasPort p r.dport = true →
      s.reqAddr p r = some (v, svc) → (svc = true → (s.twin p).lead = true ∧ (s.twin p).mirrors = false) → (s.macPort r.dport r.brk).mode = 0 →
      (s.mode p = .service → Answers (.cmReq t r) s (fun u => OnlyPartsOut s u ∧ u.parts = s.parts ∧ u.out = s.out ++ [Out.cmTo (udpSource 1) r.qpn (.rej 28 (rejInfo 6 0))])) ∧
      (s.mode p = .drain → Answers (.cmReq t r) s (SameBut s)) ∧
      (s.mode p = .build ∨ s.mode p = .restore → Answers (.cmReq t r) s (fun u =>
        let x := (s.upTo t).promise p (r.ip, r.qpn) (fabAt s (decided t s) + 500000000)
        OnlyPartsOut s u ∧ u.parts = x.2.parts ∧ u.out = s.out ++ [Out.cmTo (udpSource 1) r.qpn (.rej 28 (rejInfo 1 x.1))])) ∧
      (∀ (T : Tenant) (cls : TClass) (slot : Nat) (D : Die), s.die? (r.dport / 2) = some D → (s.mode p = .serve ∨ s.mode p = .solo) → r.transport = 0 →
        credentialForm r.priv = true → aget (s.remote p).tenants (beAt r.priv 4 2 % 4096) = some T → slice r.priv 8 16 = T.token → s.tclass? p T.cls = some cls →
        aget (s.remote p).admission.promised (r.ip, r.qpn) = none → (s.remote p).admission.open_ (s.slotStep p) (fabAt s (decided t s) * 65536) = true →
        s.freeSlot p (r.dport / 2) svc = some slot → s.tenantQps p (beAt r.priv 4 2 % 4096) < cls.qpLimit → D.remote.gen slot < 128 → Answers (.cmReq t r) s (fun u =>
          let n := mkQpn (r.dport / 2) (D.remote.gen slot) slot
          let policy : BitVec 2 := BitVec.ofNat 2 (if beAt r.priv 3 1 = 3 then cls.policy else beAt r.priv 3 1)
          u.sec = s.sec ∧ u.store p = s.store p ∧ (u.remote p).admission.nextSlot = fabAt s (decided t s) * 65536 + s.slotStep p ∧
          u.out = s.out ++ [Out.cm (udpSource 1) n (.rep r.psn (min 64 (max 1 r.respRes)) policy (mtuBytes (pmtuCode r.pmtu)))] ∧
          (u.qp? n).map (fun x => (x.state, x.twinned, x.tenant, x.dest, x.epsn, x.vlan, x.respRes, x.repAt)) =
            some (QpState.connecting, svc, beAt r.priv 4 2 % 4096, r.qpn, r.psn, v, min 64 (max 1 r.respRes), some (decided t s))))) ∧
    (∀ (n : BitVec 24) (q : Qp) (arr : Arrival), s.qp? n = some q → s.partOfDie (qpnDie n) = some p → (s.macPort arr.port arr.brk).mode = 0 →
      (s.macPort (2 * qpnDie n + q.port) q.brk).mode = 0 →
      let waits : Qp := { q with state := .timewait, timewaitAt := some (decided t s), drepPending := false, closingAt := none }
      (s.mode p ≠ .drain →
        (q.state = .connecting → Answers (.cmRtu t ⟨arr, n⟩) s (fun u => OnlyDies s u ∧ u.qp? n = some { q with state := .ready })) ∧
        (q.state = .connecting ∨ (q.state = .ready ∧ s.idle p n = true) ∨ (q.state = .closing ∧ q.drepPending = false) → Answers (.cmDreq t ⟨arr, n⟩) s (fun u =>
          u.parts = s.parts ∧ u.sec = s.sec ∧ u.out = s.out ++ [Out.cm (udpSource 1) n .drep] ∧ u.qp? n = some waits)) ∧
        (q.state = .ready → s.idle p n = false → Answers (.cmDreq t ⟨arr, n⟩) s (fun u =>
          OnlyDies s u ∧ u.qp? n = some { q with state := .closing, drepPending := true, closingAt := some (decided t s) })) ∧
        (q.state = .timewait → Answers (.cmDreq t ⟨arr, n⟩) s (fun u => u.dies = s.dies ∧ u.parts = s.parts ∧ u.sec = s.sec ∧ u.out = s.out ++ [Out.cm (udpSource 1) n .drep])) ∧
        (q.state = .closing → Answers (.cmDrep t ⟨arr, n⟩) s (fun u => OnlyDies s u ∧ u.qp? n = some waits))) ∧
      (s.mode p = .drain → Answers (.cmRtu t ⟨arr, n⟩) s (SameBut s) ∧ Answers (.cmDreq t ⟨arr, n⟩) s (SameBut s) ∧ Answers (.cmDrep t ⟨arr, n⟩) s (SameBut s)) ∧
      (∀ x, q.repAt = some x → q.state = .connecting → q.repWait = none → x + 20 * cMs ≤ decided t s →
        (q.repResends < 3 → Answers (.repResend t n) s (fun u =>
          u.parts = s.parts ∧ u.sec = s.sec ∧ u.out = s.out ++ [Out.cm (udpSource 1) n (.rep q.epsn q.respRes q.policy (mtuBytes q.pmtu))] ∧
          u.qp? n = some { q with repAt := some (decided t s), repWait := none, repResends := q.repResends + 1 })) ∧
        (3 ≤ q.repResends → Answers (.repResend t n) s (fun u =>
          OnlyDies s u ∧ u.qp? n = none ∧ (u.rd (qpnDie n)).gen (qpnSlot n) = nextGen ((s.rd (qpnDie n)).gen (qpnSlot n))))) ∧
      (∀ x, q.closingAt = some x → q.state = .closing → x + 2 * cS ≤ decided t s → Answers (.closingTimeout t n) s (fun u => OnlyDies s u ∧ u.qp? n = some waits)) ∧
      (∀ x, q.timewaitAt = some x → q.state = .timewait → x + cS ≤ decided t s → Answers (.timewaitExpiry t n) s (fun u =>
        OnlyDies s u ∧ u.qp? n = none ∧ (u.rd (qpnDie n)).gen (qpnSlot n) = nextGen ((s.rd (qpnDie n)).gen (qpnSlot n)))) ∧
      (q.state = .error → s.idle p n = true → (s.remote p).ops.all (fun o => o.farTo.isNone) = true → (s.fabric p).farSent = [] → Answers (.qpFlushComplete t n) s (fun u =>
        u.sec = s.sec ∧ u.store p = s.store p ∧ u.remote p = s.remote p ∧ u.out = s.out ++ [Out.cm (udpSource 1) n .dreq] ∧
        u.qp? n = some { q with state := .closing, closingAt := some (decided t s) })))

/-- R140, R146, R150, R152, R352-R357, R796: a CNP lowers a queue pair's rate and a quiet interval raises it, and of what has been sent only the leaving times of paced packets
change; the budget lets the oldest waiting packet in, or after 64 ms its packet is discarded and the queue pair rewound to it; a recomputation gives every partition its part
of B. -/
def Obligations.RatesAndBudget : Prop :=
  ∀ (t p : Nat) (q : Qp) (s : State), s.running = [] → s.pending = [] →
    (∀ n : BitVec 24, s.qp? n = some q → s.partOfDie (qpnDie n) = some p →
      let frame (u : State) : Prop := u.parts = s.parts ∧ u.sec = s.sec ∧ u.out.map (Out.leaving 0) = s.out.map (Out.leaving 0) ∧
        ((∀ o ∈ s.out, o.paced n = none) → u.out = s.out)
      (∀ arr : Arrival, (s.macPort arr.port arr.brk).mode = 0 → Answers (.cnp t ⟨arr, n⟩) s (fun u =>
        let recent := ((q.cnpTimes ++ [decided t s]).filter (fun x => decide (decided t s < x + 100 * cUs))).length
        frame u ∧ (u.qp? n).map (fun x => (x.cnpCount, x.increases, x.quietSince, x.rate)) = some (satInc q.cnpCount, 0, decided t s,
          if q.lastDecrease.all (fun x => decide (x + 20 * cUs ≤ decided t s)) then cnpRate q.rate recent else q.rate))) ∧
      (q.quietSince + 40 * cUs ≤ decided t s → Answers (.rateIncrease t n) s (fun u => frame u ∧
        (u.qp? n).map (fun x => (x.rate, x.increases, x.quietSince)) =
          some (increaseRate q.rate q.increases (s.lineRate p (2 * qpnDie n + q.port)), q.increases + 1, q.quietSince + 40 * cUs)))) ∧
    (∀ o : Op, s.quiet p = true → s.partOfDie o.die = some p → (s.remote p).ops = [o] → o.kind = .write → o.accepted = none → o.farTo = none → o.farFrom = none →
      o.mirrored = false → o.profile.durability ≠ 2 → s.qp? o.qpn = some q → q.twinned = false → q.state = .ready → o.die = qpnDie o.qpn →
      ((s.remote p).budget.data ≠ 0 → o.spans.length ≤ (s.rd o.die).credit → (s.rd o.die).credit ≤ 4096 → s.readyAt p o.addr o.len → o.last = true → s.sendsOn p q →
        (∀ a, q.lastAcc = some a → 0 ≤ psnDiff o.psn a) → Answers (.budgetAccept t p o.die) s (fun u =>
          u.store p = s.store p ∧ u.sec = s.sec ∧ (u.remote p).ops.map (fun x => (x.id, x.accepted)) = [(o.id, some (decided t s))] ∧
          (u.remote p).budget.charged = (s.remote p).budget.charged + o.spans.length ∧ (u.rd o.die).credit = (s.rd o.die).credit - o.spans.length ∧
          u.out = s.out ++ [Out.rdma (decided t s) o.qpn o.psn (.ack q.msn) q.way])) ∧
      ((s.remote p).budget.data = 0 → o.decided + 64 * cMs ≤ decided t s → Answers (.budgetWait t p o.die) s (fun u =>
        (u.store p).dram = (s.store p).dram ∧ u.sec = s.sec ∧ u.out = s.out ∧ (u.remote p).ops = [] ∧
        u.qp? o.qpn = some { q with epsn := o.psn, cur := o.beforeCur, msn := o.beforeMsn } ∧
        agetD (u.rd o.die).causes 7 0 = agetD (s.rd o.die).causes 7 0 + 1))) ∧
    Answers (.budgetRecompute t) s (fun u => u.sec = s.sec ∧ ∀ p ∈ s.partIds, u.store p = s.store p ∧ (u.remote p).budget.pages = s.budgetPages p ∧
      (u.remote p).budget.meta_ = s.budgetPages p - 15 * s.budgetPages p / 16 ∧
      (u.remote p).budget.data = if (s.store p).flash.exhausted then 0 else dataPart (s.budgetPages p) (s.wDrain p * s.wbShare p / 100))

/-! ### The twin (R387-R435) -/

/-- R389-R417, R424, R430-R432, R509: what each mirror message of a pair does when it is the next of its numbering: entries and replicas are placed, confirmations, progress
and digests are taken, kept packets and pages are answered, tables, contexts and bricks are adopted, and a fence notice ends the following. -/
def Obligations.TwinMessages : Prop :=
  ∀ (t p : Nat) (h : MirHdr) (s : State), s.twinIdle p = true → s.nextMsg p h →
    (∀ (e : ApplyEntry) (n m b g k : Nat) (l : List Byte), (s.twin p).following = true → (s.twin p).held = [] → e.kind = .replica → e.id = n → e.page = b * 512 + g →
      g < 512 → k < 64 → l.length = 64 → (s.twin p).replicas = [(n, (m, { replica := n, brick := b, page := g, mask := maskOf [k], lines := [l], rekey := none }))] →
      s.pageReady p b g 0 0 = true → (s.store p).valid b g = true → s.cleanAt p b g (64 * k) 64 → s.wayFree p b g → (∀ B, (s.store p).brick? b = some B → B.evicting = false) →
      Memory.wf (s.store p).dram = true → Answers (.apply t p h [e]) s (fun u =>
        KeysKept s u ∧ (u.twin p).delivered = h.mseq ∧ (u.twin p).stream = [] ∧ (u.twin p).replicas = [] ∧ ((u.store p).page b g).dirty = true ∧
        Stored (s.store p).dram (u.store p).dram (pageAddr b g + 64 * k) l)) ∧
    (∀ r : ReplBody, (s.twin p).following = true → Answers (.replicate t p h r) s (fun u =>
      KeysKept s u ∧ u.store p = s.store p ∧ (u.twin p).delivered = h.mseq ∧ aget (u.twin p).replicas r.replica = some (h.mseq, r))) ∧
    (∀ n, (s.twinQps p).all (fun q => q.repWait.isNone) = true → Answers (.confirm t p h n) s (fun u =>
      let c := max (s.twin p).confirmed (min n (s.twin p).sent)
      KeysKept s u ∧ u.store p = s.store p ∧ (u.twin p).delivered = h.mseq ∧ (u.twin p).confirmed = c ∧
      (u.remote p).unconfirmed = (s.remote p).unconfirmed.filter (fun x => x.mseq == 0 || decide (c < x.mseq)))) ∧
    (∀ (q a : BitVec 24), Answers (.progress t p h [{ qpn := q, psn := a }]) s (fun u =>
      KeysKept s u ∧ u.store p = s.store p ∧ (u.twin p).delivered = h.mseq ∧ aget (u.twin p).peerPsn q = some a ∧
      (∀ k ∈ (u.twin p).kept, k.1 = q → 0 < psnDiff k.2.pkt.psn a) ∧ ∀ k ∈ (s.twin p).kept, k.1 = q → 0 < psnDiff k.2.pkt.psn a → k ∈ (u.twin p).kept)) ∧
    (∀ (e count : Nat) (d : BitVec 128), (s.twin p).lead = true → aget (s.twin p).digest.ours e = some d → Answers (.digest t p h e count d) s (fun u =>
      KeysKept s u ∧ u.store p = s.store p ∧ (u.twin p).delivered = h.mseq ∧ (u.twin p).digest.lastMatched = e ∧ (u.twin p).digest.matched = true)) ∧
    (∀ (q first : BitVec 24) (count : Nat),
      ((∀ k ∈ (s.twin p).kept, k.1 ≠ q) → Answers (.fetchReq t p h q first count) s (fun u => KeysKept s u ∧ u.store p = s.store p ∧ (u.twin p).delivered = h.mseq ∧
        MirrorSent (s.upTo t) u p 8 (s.twin p).mseqNext (natBE 4 q.toNat ++ natBE 4 first.toNat ++ natBE 4 count))) ∧
      (∀ k : Kept, (s.twin p).kept = [(q, k)] → k.pkt.psn = first → 0 < count → Answers (.fetchReq t p h q first count) s (fun u =>
        KeysKept s u ∧ u.store p = s.store p ∧ (u.twin p).kept = [(q, k)] ∧
        MirrorSent (s.upTo t) u p 7 (s.twin p).mseqNext (natBE 4 q.toNat ++ natBE 4 1 ++ keptBytes k)))) ∧
    (∀ (n : BitVec 24) (q : Qp) (k : Kept), (s.twin p).following = true → s.partOfDie (qpnDie n) = some p → s.qp? n = some q → q.twinned = true → q.state = .ready →
      q.cur = none → s.mode p = .serve → (s.modeSt p).halted = false → s.opsOn (qpnDie n) < 256 * s.field 3 0xFF (qpnDie n) 2 2 0 → s.noCeiling p q.tenant = true →
      k.pkt.op = 0x0A → k.pkt.len = 0 → k.pkt.payload = [] → k.pkt.psn = q.epsn → k.pkt.ce = false → s.pending = [] → Answers (.fetchData t p h n [k]) s (fun u =>
        KeysKept s u ∧ u.store p = s.store p ∧ (u.twin p).delivered = h.mseq ∧
        (u.qp? n).map (fun x => (x.epsn, x.msn, x.fetchSince)) = some (q.epsn + 1, q.msn + 1, none))) ∧
    (∀ (n : BitVec 24) (q : Qp), (s.twin p).lead = true → s.partOfDie (qpnDie n) = some p → s.qp? n = some q → q.state = .ready → q.gapSince.isSome = true → q.gapNaked = false → s.sendsOn p q →
      Answers (.fetchNone t p h n) s (fun u => KeysKept s u ∧ u.store p = s.store p ∧ (u.twin p).delivered = h.mseq ∧
        u.qp? n = some { q with fetchSince := none, gapNaked := true } ∧ Out.rdma (decided t s) n q.epsn (.nak 0x60) q.way ∈ u.out)) ∧
    (∀ b g, (s.twin p).replicas = [] → Answers (.pageReq t p h b g) s (fun u => KeysKept s u ∧ u.store p = s.store p ∧ (u.twin p).delivered = h.mseq ∧ (u.twin p).pageWaits = [] ∧
      MirrorSent (s.upTo t) u p 0x0A (s.twin p).mseqNext (natBE 8 (pageAddr b g) ++ s.pageBytes p b g))) ∧
    (∀ (b g : Nat) (data : List Byte), (s.twin p).pageReqs = [(b, g)] → (s.store p).drain.awaited = [] → (s.store p).frameWaits = [] → (s.store p).resident b = true →
      ((s.store p).page b g).held = true → data.length = 4096 → Memory.wf (s.store p).dram = true → Answers (.pageData t p h b g data) s (fun u =>
        KeysKept s u ∧ (u.twin p).pageReqs = [] ∧ ((u.store p).page b g).held = false ∧ Stored (s.store p).dram (u.store p).dram (pageAddr b g) data)) ∧
    (∀ x : WinSync, (s.twin p).following = true → s.engine = true → aget (s.remote p).windows x.index = none →
      Answers (.tableSync t p h { windows := [x], tenants := [], keys := [], whole := false }) s (fun u =>
        KeysKept s u ∧ (u.twin p).delivered = h.mseq ∧ u.configGen = s.configGen + 1 ∧ aget (u.remote p).windows x.index = some (winOfSync x) ∧
        ∀ d ∈ s.partDies p, ∀ D, u.die? d = some D → aget D.remote.replica x.index = some x.gen)) ∧
    (∀ (q : QpCtx) (D : Die), (s.twin p).following = true → (s.partDies p).contains (qpnDie q.qpn) = true → s.die? (qpnDie q.qpn) = some D →
      Answers (.qpOpen t p h q) s (fun u => KeysKept s u ∧ u.store p = s.store p ∧ (u.twin p).delivered = h.mseq ∧
        (u.qp? q.qpn).map (fun x => (x.state, x.twinned, x.tenant, x.dest, x.epsn, x.msn)) = some (QpState.connecting, true, q.tenant, q.dest, q.epsn, q.msn)) ∧
      (q.ready = true → Answers (.qpState t p h q) s (fun u => KeysKept s u ∧ (u.twin p).delivered = h.mseq ∧
        (u.qp? q.qpn).map (fun x => (x.state, x.twinned, x.tenant, x.dest, x.epsn, x.msn)) = some (QpState.ready, true, q.tenant, q.dest, q.epsn, q.msn)))) ∧
    (∀ x : BrickBody, (s.twin p).role = .follower → (s.twin p).resync = true → (s.twin p).copySet.contains x.brick = true → x.tracked = none → x.brick < s.brickCount p →
      x.unit < 128 → (s.takeProgram p .openWrite false none).isSome = true → ((s.store p).brick? x.brick).isSome = true → Answers (.brickData t p h x) s (fun u =>
        (u.twin p).delivered = h.mseq ∧ (u.twin p).unitsIn = (s.twin p).unitsIn ++ [(x.brick, x.unit)] ∧
        ∀ i, i < 4 → (u.store p).valid x.brick (4 * x.unit + i) = x.valid.getD i false)) ∧
    ((s.twin p).role = .follower → Answers (.resyncEnd t p h) s (fun u => KeysKept s u ∧ u.store p = s.store p ∧ (u.twin p).delivered = h.mseq ∧
      (u.twin p).resyncDone = true ∧ (u.twin p).copySet = [] ∧ (u.twin p).unitsIn = [] ∧ (u.twin p).wholeResync = false)) ∧
    (∀ x, (s.twin p).paths[h.path]? = some x → (s.twin p).peerFenced = false → Answers (.heartbeat t p h) s (fun u => OnlyParts s u ∧ u.store p = s.store p ∧
      u.remote p = s.remote p ∧ (u.twin p).delivered = (s.twin p).delivered ∧ (u.twin p).paths[h.path]? = some { x with up := true, lastIn := decided t s, downSince := none })) ∧
    (∀ reason, reason ≠ 6 →
      ((s.twin p).following = true → Answers (.fenceNotice t p h reason) s (fun u => KeysKept s u ∧ u.store p = s.store p ∧ (u.twin p).freeRunning = true)) ∧
      ((s.twin p).lead = true → (s.twin p).solo = false → s.mode p = .serve → Answers (.fenceNotice t p h reason) s (fun u =>
        KeysKept s u ∧ u.mode p = .solo ∧ (u.twin p).solo = true ∧ (u.twin p).peerFenced = true)))

/-- R387, R392, R397, R405, R406, R411-R415, R419-R428: what the twin sends at its times, what it finds when time has passed without its peer, its leases, and TWIN_PAIR and
TWIN_UNPAIR. A GRANT renews the lease, releases it with a value of zero, or promotes; a FENCE and the guard before a lease's end fence the twin. -/
def Obligations.TwinTimesAndLeases : Prop :=
  ∀ (t p : Nat) (s : State), s.twinIdle p = true → s.pending = [] → s.plain →
    (∀ (n : BitVec 24) (q : Qp) (x : Nat), (s.twin p).lead = true → s.partOfDie (qpnDie n) = some p → s.qp? n = some q → q.state = .ready → q.fetchSince = some x →
      x + 50 * cUs ≤ decided t s → q.gapSince.isSome = true → q.gapNaked = false → s.portsOut p = false → Answers (.twinFetchTimeout t n) s (fun u => u.parts = s.parts ∧ u.sec = s.sec ∧
        u.qp? n = some { q with fetchSince := none, gapNaked := true } ∧ u.out = s.out ++ [Out.rdma (decided t s) n q.epsn (.nak 0x60) q.way])) ∧
    (∀ x, (s.twin p).lead = true → (s.twin p).unsentSince = some x → x + 800 ≤ decided t s → (s.twin p).unsent ≠ [] → Answers (.applySend t p) s (fun u =>
      u.sec = s.sec ∧ u.store p = s.store p ∧ (u.twin p).unsent = [] ∧ (u.twin p).unsentSince = none ∧ (u.twin p).sent = (s.twin p).mseqNext ∧
      MirrorSent (s.upTo t) u p 1 (s.twin p).mseqNext ((s.twin p).unsent.map entryBytes).flatten)) ∧
    ((s.twin p).mirrors = true → (s.twin p).progressAt + 10 * cUs ≤ decided t s → Answers (.progressSend t p) s (fun u =>
      u.sec = s.sec ∧ u.store p = s.store p ∧ (u.twin p).progressAt = decided t s ∧ MirrorSent (s.upTo t) u p 4 (s.twin p).mseqNext
        ((s.twinQps p).filterMap (fun c => c.lastAcc.map (fun a => natBE 4 c.qpn.toNat ++ natBE 4 a.toNat))).flatten)) ∧
    (∀ (path : Nat) (x : MirrorPath), (s.twin p).paths[path]? = some x → x.lastOut + 100 * cUs ≤ decided t s → Answers (.heartbeatSend t p path) s (fun u =>
      u.sec = s.sec ∧ u.store p = s.store p ∧ (u.twin p).mseqNext = (s.twin p).mseqNext ∧ (u.twin p).paths[path]? = some { x with lastOut := decided t s } ∧
      Out.mirror p path 0x10 (mirrorBytes (s.upTo t) p path 0x10 0 []) ∈ u.out)) ∧
    (let e := (epochNow (s.upTo t) + 4294967295) % 4294967296
     (s.twin p).lead = true → (s.twin p).mirrors = true → (s.twin p).digest.sent ≠ some e → (s.twin p).unsent = [] → Answers (.digestEpoch t p) s (fun u =>
      u.sec = s.sec ∧ u.store p = s.store p ∧ (u.twin p).digest.sent = some e ∧ (u.twin p).digest.d = ((s.twin p).digest.at_ e).2 ∧
      MirrorSent (s.upTo t) u p 5 (s.twin p).mseqNext (digestBytes e ((s.twin p).digest.at_ e)))) ∧
    (∀ (path : Nat) (x : MirrorPath), (s.twin p).paths[path]? = some x → x.up = true → x.lastIn + cMs ≤ decided t s → Answers (.mirrorPathDown t p path) s (fun u =>
      u.sec = s.sec ∧ u.store p = s.store p ∧ (u.twin p).paths[path]? = some { x with up := false, downSince := some (x.lastIn + cMs) })) ∧
    (∀ (a b : MirrorPath) (x y : Nat), (s.twin p).following = true → (s.twin p).paths = [a, b] → a.downSince = some x → b.downSince = some y → (s.twin p).mirrorLost = false →
      max x y + 2 * cMs ≤ decided t s → Answers (.mirrorLost t p) s (fun u => u.sec = s.sec ∧ u.store p = s.store p ∧
        (u.twin p).mirrorLost = true ∧ (u.twin p).freeRunning = true ∧ (u.twin p).reported.contains 1 = true)) ∧
    (∀ (q : Qp) (x : Nat), (s.twin p).following = true → q ∈ s.twinQps p → q.gapSince = some x → x + 20 * cMs ≤ decided t s → (s.twin p).reported.contains 3 = false →
      Answers (.followerLagging t p) s (fun u => u.sec = s.sec ∧ u.store p = s.store p ∧ (u.twin p).reported = (s.twin p).reported ++ [3])) ∧
    ((s.twin p).swapSec < fabAt s (decided t s) / 1000000000 → (s.twin p).mapsHeld = true → (s.twin p).digest.matched = true → (s.twin p).role ≠ .fenced → (s.twin p).solo = false →
      (s.twin p).freeRunning = false → (s.twin p).peerFenced = false → Answers (.changeMapSwap t p) s (fun u => OnlyParts s u ∧ u.store p = s.store p ∧
        u.twin p = { s.twin p with swapSec := fabAt s (decided t s) / 1000000000, curA := !(s.twin p).curA,
                                   mapA := if (s.twin p).curA then (s.twin p).mapA else [], mapB := if (s.twin p).curA then [] else (s.twin p).mapB })) ∧
    (s.engine = true → (s.fabric p).conflict = false →
      (let off := s.device p * 12207
       let now := fabAt s (decided t s)
       s.time.mode ≠ .lost → s.time.everLocked = true → ((s.twin p).renewAt + 50000000 - off) / 50000000 < (now + 50000000 - off) / 50000000 →
        Answers (.leaseRenew t p) s (fun u => OnlyPartsOut s u ∧ (u.twin p).renewAt = now ∧
          ArbiterSent s u p 1 (arbBytes (s.upTo t) p 1 (s.twin p).roleCode 0 0 (s.twin p).epoch (s.group p) (s.device p) now 0)))) ∧
    ((s.upTo t).guardDue p = true → s.mode p = .serve → Answers (.leaseGuard t p) s (fun u =>
      (u.twin p).role = .fenced ∧ (u.twin p).tExp = none ∧ u.mode p = .restore ∧ (u.twin p).freeRunning = false)) ∧
    (∀ x, (s.twin p).lead = true → (s.twin p).renewUnanswered = some x → (s.twin p).arbLost = false → x + 100000000 ≤ fabAt s (decided t s) → Answers (.arbiterLost t p) s (fun u =>
      u.sec = s.sec ∧ u.twin p = { s.twin p with arbLost := true } ∧ u.store p = s.store p)) ∧
    (∀ m : ArbMsg, m.group = s.group p → m.device = s.device p → (s.twin p).epochSeen ≤ m.epoch →
      (s.arbOurs p 2 m = true → s.arbTwice p 2 m = false → (s.upTo t).guardDue p = false →
        (m.value ≠ 0 → m.role = 1 → m.peerState = 0 → (s.twin p).lead = true → (s.twin p).resyncDone = false → Answers (.grant t p m) s (fun u => OnlyParts s u ∧
          u.store p = s.store p ∧ u.twin p = { s.twin p with tExp := some m.value, renewUnanswered := none, arbLost := false, epoch := max (s.twin p).epoch m.epoch })) ∧
        (m.value = 0 → Answers (.grant t p m) s (fun u => OnlyParts s u ∧ u.store p = s.store p ∧ u.twin p = { s.twin p with tExp := none })) ∧
        (m.value ≠ 0 → m.role = 1 → (s.twin p).following = true → (s.twin p).epochSeen < m.epoch → s.mode p = .serve → Answers (.grant t p m) s (fun u =>
          u.mode p = .solo ∧ (u.twin p).role = .lead ∧ (u.twin p).epoch = m.epoch ∧ (u.twin p).tExp = some m.value ∧ (u.twin p).solo = true))) ∧
      (s.arbOurs p 3 m = true → s.arbTwice p 3 m = false → s.mode p = .serve → Answers (.fence t p m) s (fun u =>
        (u.twin p).role = .fenced ∧ (u.twin p).tExp = none ∧ u.mode p = .restore))) ∧
    (∀ (c : CmdRef) (x : Nat), s.canEnd c = true → s.hasPart p = true → s.owns c p = true → (s.twin p).tExp = some x → fabAt s (decided t s) < x →
      Answers (.twinUnpair t c p) s (fun u => u.sec = s.sec ∧ u.store p = s.store p ∧ (u.twin p).unpairing = some (some c) ∧
        u.running = [{ cmd := c, opcode := 0x108, op := .twinUnpair p, since := decided t s, mseq := 0 }] ∧
        MirrorSent (s.upTo t) u p 0x11 (s.twin p).mseqNext (natBE 1 6)))

/-- R387, R388, R392: TWIN_PAIR with a matching peer, from empty, starts the pairing and sends a RENEW; a release that is not acknowledged goes out again.
R418, R421: the arbiter grants a lease of 200 ms to an unfenced twin that renews, takes note of a lost link, and promotes the follower when the lead releases its lease
or lets it expire: the ROLE_EPOCH one higher, the former lead fenced. -/
def Obligations.PairingAndArbiter : Prop :=
  (∀ (t p : Nat) (s : State),
    (∀ (c : CmdRef) (peer : PeerPair), s.still p = true → s.admits c p [.serve, .solo, .restore] = true → s.engine = true → (s.fabric p).conflict = false →
      (s.rec? 10 p 0).isSome = true → peer.issued = true → s.pairMatches p peer = true → peer.rtt ≤ 500000 → (s.store p).bricks = [] →
      Answers (.twinPair t c p 0 peer) s (fun u => u.dies = s.dies ∧ u.sec.slots = s.sec.slots ∧ (u.twin p).paired = true ∧
        (u.twin p).pairing = some (0, c, decided t s) ∧ (u.twin p).claims = (if s.field 10 p 0 2 1 0 = 1 then Role.lead else Role.follower) ∧
        (s.field 10 p 0 2 1 0 = 1 → aget u.sec.sys (14 + p) = some (State.drawBytes 16 s).1) ∧
        u.running = [{ cmd := c, opcode := 0x107, op := .twinPair p, since := decided t s, mseq := 0 }] ∧
        ∃ m : List Byte, Out.arbiter p 1 m ∈ u.out)) ∧
    (∀ (x : Nat) (c : Option CmdRef), (s.twin p).releasing = some x → (s.twin p).unpairing = some c → (s.upTo t).released p = false → s.engine = true →
      (s.fabric p).conflict = false → s.plain → x + 100000000 ≤ fabAt s (decided t s) → Answers (.releaseResend t p) s (fun u => OnlyPartsOut s u ∧
        u.twin p = { s.twin p with releasing := some (fabAt s (decided t s)) } ∧ ArbiterSent s u p 5 (arbBytes (s.upTo t) p 5 (s.twin p).roleCode 6 0
          (s.twin p).epoch (s.group p) (s.device p) (fabAt s (decided t s)) 0)))) ∧
  (∀ (t p g : Nat) (G : ArbGroup) (x y : ArbTwin) (s : State), s.hasPart p = true → s.pkg = .on → s.engine = true → (s.fabric p).conflict = false → s.group? p g = some G →
    G.twins = [x, y] → x.device ≠ y.device → x.role = .lead → y.role = .follower → G.split = false → G.unpairing = false → s.plain →
    (∀ m : ArbMsg, m.group = g → m.device = x.device → x.tExp = 0 ∨ fabAt s (decided t s) < x.tExp →
      (s.arbOurs p 1 m = true → s.arbTwice p 1 m = false → m.epoch = G.epoch → Answers (.renew t p m) s (fun u => OnlyPartsOut s u ∧
        u.group? p g = some { G with twins := [{ x with tExp := fabAt s (decided t s) + 200000000 }, y] } ∧
        ArbiterSent s u p 2 (arbBytes (s.upTo t) p 2 1 0 0 G.epoch g x.device (fabAt s (decided t s)) (fabAt s (decided t s) + 200000000)))) ∧
      (s.arbOurs p 4 m = true → s.arbTwice p 4 m = false → m.reason = 1 → Answers (.report t p m) s (fun u => OnlyParts s u ∧
        u.group? p g = some { G with split := true })) ∧
      (s.arbOurs p 5 m = true → s.arbTwice p 5 m = false → m.reason = 0 → Answers (.release t p m) s (fun u => OnlyPartsOut s u ∧
        u.group? p g = some { G with epoch := G.epoch + 1, twins := [{ x with role := .fenced, tExp := 0 },
          { y with role := .lead, tExp := fabAt s (decided t s) + 200000000 }] }))) ∧
    (x.tExp ≠ 0 → x.tExp ≤ fabAt s (decided t s) → fabAt s (decided t s) < y.tExp → y.reportedBad = false → Answers (.leaseExpiry t p g) s (fun u => OnlyPartsOut s u ∧
      u.group? p g = some { G with epoch := G.epoch + 1, twins := [{ x with role := .fenced, tExp := 0 },
        { y with role := .lead, tExp := fabAt s (decided t s) + 200000000 }] })))

/-! ### The fabric (R436-R480) -/

/-- R442, R447-R459: a message of one packet is noted on its path, delivered and closed; an ACK ends what it covers and sets the path's window; a RESEND is answered with the
whole message under a new MSG_ID; the receiver's ACK, a packet's retransmission, the DOWN path and its probe, and the reassembly time-out come at their times. -/
def Obligations.FabricPaths : Prop :=
  ∀ (t p d l : Nat) (s : State), s.hasPart p = true → (s.fabric p).conflict = false → s.pending = [] → s.plain →
    (∀ (die : Nat) (h : PqHdr) (payload : List Byte), s.pqOurs p h = true → (s.partDies p).contains die = true → s.pqDrop p h payload = none → h.cls = 6 → h.src = d → h.path = l → h.off = 0 →
      h.total = payload.length → (s.peer p d).closedHow 6 h.msg = none → aget (s.fabric p).slots (d, 6, h.msg) = none →
      s.reasmUsed p (s.reasmHome p h.msg) + ceilDiv h.total 4096 ≤ s.reasmGranules (s.reasmHome p h.msg) → (agetD (s.peer p d).rx l Path.reset).above = [] →
      h.pseq = (agetD (s.peer p d).rx l Path.reset).cum + 1 → (agetD (s.peer p d).rx l Path.reset).unacked < 7 → Answers (.penquavinData t p die h payload false) s (fun u =>
        OnlyParts s u ∧ u.store p = s.store p ∧ u.remote p = s.remote p ∧ (u.fabric p).inbox = (s.fabric p).inbox ++ [(d, 6, h.msg, payload)] ∧
        aget (u.fabric p).slots (d, 6, h.msg) = none ∧ aget (u.fabric p).stamps (d, 6, h.msg) = some (decided t s) ∧ (u.peer p d).closedHow 6 h.msg = some true ∧
        ((agetD (u.peer p d).rx l Path.reset).cum, (agetD (u.peer p d).rx l Path.reset).unacked) = (h.pseq, (agetD (s.peer p d).rx l Path.reset).unacked + 1))) ∧
    (∀ (h : PqHdr) (a : PqAck) (x : Path) (k : TxPkt), s.pqOurs p h = true → s.pqDrop p { h with off := 0, total := 0, cls := 0 } [] = none → h.src = d → a.path = l →
      (s.peer p d).paths = [(l, x)] → x.tx = [k] → x.queue = [] → (s.peer p d).backlog = [] → k.pseq ≤ a.cum → a.ce = 0 → Answers (.penquavinAck t p h a) s (fun u =>
        let now := fabAt s (decided t s)
        let sample := now - a.echo
        let base := (((x.samples ++ [(now, sample)]).filter (fun y => decide (now ≤ y.1 + 10000000000))).map (·.2)).foldl min sample
        OnlyParts s u ∧ u.store p = s.store p ∧ u.remote p = s.remote p ∧ (u.peer p d).sent = [] ∧ (u.peer p d).lastHeard = now ∧
        ∃ y, (u.peer p d).paths = [(l, y)] ∧ y.tx = [] ∧ y.state = .up ∧ y.lastAck = decided t s ∧ y.baseRtt = base ∧ (y.srtt, y.rttvar) = rttAfter x.srtt x.rttvar sample ∧
          (sample - base ≤ x.qTarget → y.cwnd = min x.cwndMax (x.cwnd + x.payload * k.len / max 1 x.cwnd)))) ∧
    (∀ (h : PqHdr) (body : List Byte) (n : Nat) (x : Path), s.pqOurs p h = true → s.pqDrop p { h with off := 0, total := 0 } [] = none → h.cls = 3 → h.src = d → (s.peer p d).state = .joined → aget (s.peer p d).paths l = some x →
      aget (s.peer p d).sent (3, h.msg) = some (l, body) → (s.peer p d).sent.length < 16384 → n = agetD (s.peer p d).nextMsg 3 1 → h.msg ≠ n →
      Answers (.resend t p h) s (fun u => u.store p = s.store p ∧ u.remote p = s.remote p ∧ u.sec = s.sec ∧ aget (u.peer p d).sent (3, h.msg) = none ∧
        aget (u.peer p d).sent (3, n) = some (l, body) ∧ agetD (u.peer p d).nextMsg 3 1 = n + 1)) ∧
    (∀ (x : Path) (since : Nat), aget (s.peer p d).rx l = some x → x.oldestUnacked = some since → since + 8 * cUs ≤ decided t s → x.above = [] →
      Answers (.ackSend t p d l) s (fun u => OnlyPartsOut s u ∧ u.store p = s.store p ∧ aget (u.peer p d).rx l = some { x with unacked := 0, oldestUnacked := none, ceSinceAck := 0 } ∧
        u.out = s.out ++ [Out.fabric p d l 0 ((s.upTo t).fabWay p d l 2 0 (decided t s)) (pqHeader (s.upTo t) p 2 0 false false d l 0 0 0 16 16 ++
          (natBE 2 l ++ natBE 1 0 ++ natBE 1 (min 255 x.ceSinceAck) ++ natBE 4 x.cum ++ natBE 8 x.echo))])) ∧
    (∀ (x : Path) (k : TxPkt), (s.peer p d).paths = [(l, x)] → x.tx = [k] → x.queue = [] →
      (k.cls = 3 → k.timeouts < 3 → k.sentAt + rto x.srtt x.rttvar k.timeouts ≤ decided t s → Answers (.retransmitTimeout t p d l k.pseq) s (fun u =>
        OnlyPartsOut s u ∧ u.store p = s.store p ∧ u.remote p = s.remote p ∧ (u.peer p d).paths = [(l, { x with
          tx := [{ k with timeouts := k.timeouts + 1, pseq := x.nextPseq, sentAt := x.leaves (decided t s) }], nextPseq := x.nextPseq + 1, retrans := x.retrans + 1, cwnd := x.payload,
          paceAt := { x with cwnd := x.payload }.paceAfter (x.leaves (decided t s)) k.len })] ∧
        ∃ m, u.out = s.out ++ [Out.fabric p d l 3 ((s.upTo t).fabWay p d l 1 3 (x.leaves (decided t s))) m])) ∧
      (x.state ≠ .down → max x.lastAck k.sentAt + cMs ≤ decided t s → Answers (.pathDown t p d l) s (fun u => OnlyParts s u ∧ u.store p = s.store p ∧
        (u.peer p d).paths = [(l, { x with state := .down, probeAt := decided t s })]))) ∧
    (∀ x : Path, aget (s.peer p d).paths l = some x → x.state = .down → x.probeAt + 10 * cMs ≤ decided t s → Answers (.pathProbe t p d l) s (fun u =>
      OnlyPartsOut s u ∧ u.store p = s.store p ∧ agetD (u.peer p d).nextMsg 6 1 = agetD (s.peer p d).nextMsg 6 1 + 1 ∧
      (aget (u.peer p d).paths l).map (fun y => (y.nextPseq, y.probeAt, y.state)) = some (x.nextPseq + 1, decided t s, .down) ∧
      u.out = s.out ++ [Out.fabric p d l 6 ((s.upTo t).fabWay p d l 1 6 (decided t s)) (pqHeader (s.upTo t) p 1 6 false true d l x.nextPseq (agetD (s.peer p d).nextMsg 6 1) 0 0 0)])) ∧
    (∀ (cls msg : Nat) (x : Slot), aget (s.fabric p).slots (d, cls, msg) = some x → x.at_ + x.timeout ≤ decided t s → (s.peer p d).closedHow cls msg = none →
      Answers (.reasmTimeout t p d cls msg) s (fun u => OnlyPartsOut s u ∧ u.store p = s.store p ∧ aget (u.fabric p).slots (d, cls, msg) = none ∧
        (u.peer p d).closedHow cls msg = some false ∧ (u.peer p d).reasm = (s.peer p d).reasm + 1))

/-- R394, R463-R471: what a roll call sends and what it enters; a join as either side sees it; a refusal, a leave, and the times at which a join is asked for again, a slot
lapses, a silent peer is forgotten, or a device number is tried again. A partition answers for its ports' addresses, and the lead for the
service addresses of its pair.
R466: once the conflicting peer has been EMPTY for 5 s, the partition takes its device number up again. -/
def Obligations.PeersAndJoins : Prop :=
  (∀ (t p d : Nat) (s : State), s.hasPart p = true → s.pkg = .on → (s.fabric p).conflict = false → s.pending = [] → s.plain →
    (let now := fabAt s (decided t s)
     let off := s.device p * 244140
     ((s.fabric p).lastAnnounceOut + 1000000000 - off % 1000000000) / 1000000000 < (now + 1000000000 - off % 1000000000) / 1000000000 →
      Answers (.announceSend t p) s (fun u => OnlyPartsOut s u ∧ u.fabric p = { s.fabric p with lastAnnounceOut := now } ∧
        u.out = s.out ++ (s.rollDests p).map (fun e => Out.fabric p e 0 1 ((s.upTo t).fabWay p e 0 1 1 now) (pqHeader (s.upTo t) p 1 1 true false e 0 0 (agetD (s.peer p e).nextMsg 1 1) 0
          (s.announceBody p).length (s.announceBody p).length ++ s.announceBody p)))) ∧
    (∀ a : AnnounceBody, d ≠ s.device p → (s.peer p d).state = .empty → s.outsideSchedule p d = false → aget (s.fabric p).schedule d = none →
      Answers (.announce t p d a) s (fun u => OnlyParts s u ∧ u.store p = s.store p ∧ u.remote p = s.remote p ∧ (u.peer p d).state = .announced ∧
        (u.peer p d).ident = a.ident ∧ (u.peer p d).mode = a.mode ∧ (u.peer p d).lastHeard = fabAt s (decided t s) ∧ (u.peer p d).addrs = a.addrs ∧
        ((aget (u.fabric p).schedule d).isSome = true ↔ s.mode p ≠ .build))) ∧
    ((s.peer p d).state ≠ .empty → (s.peer p d).lastHeard + 5000000000 ≤ fabAt s (decided t s) → Answers (.peerSilence t p d) s (fun u => OnlyParts s u ∧
      u.store p = s.store p ∧ u.remote p = s.remote p ∧ (u.peer p d).state = .empty ∧ (u.peer p d).paths = [] ∧ (u.peer p d).sent = [] ∧
      (u.peer p d).emptySince = some (fabAt s (decided t s)))) ∧
    (∀ (i : BitVec 64) (x : Nat), s.mode p ≠ .build → (s.peer p d).state ≠ .joining → s.outsideSchedule p d = false → aget (s.fabric p).schedule d = some x →
      (x ≤ fabAt s (decided t s) → Answers (.joinReq t p d i) s (fun u => OnlyPartsOut s u ∧ u.store p = s.store p ∧ (u.peer p d).state = .joined ∧ (u.peer p d).ident = i ∧
        (u.peer p d).paths = s.joinPaths p d (s.peer p d).addrs.length ∧ (u.fabric p).joinedAny = true ∧ ∃ w m, u.out = s.out ++ [Out.fabric p d 0 2 w m])) ∧
      (fabAt s (decided t s) < x → Answers (.joinReq t p d i) s (fun u => OnlyPartsOut s u ∧ u.store p = s.store p ∧ (u.peer p d).state = .pending ∧
        (u.peer p d).slotOrJoin = x ∧ ∃ w m, u.out = s.out ++ [Out.fabric p d 0 2 w m]))) ∧
    ((s.peer p d).state = .joining →
      (∀ i : BitVec 64, Answers (.joinAccept t p d i) s (fun u => OnlyParts s u ∧ u.store p = s.store p ∧ (u.peer p d).state = .joined ∧ (u.peer p d).ident = i ∧
        (u.peer p d).paths = s.joinPaths p d (s.peer p d).addrs.length ∧ (u.fabric p).joinedAny = true)) ∧
      (∀ cause x : Nat, Answers (.joinRefuse t p d cause x) s (fun u => OnlyParts s u ∧ u.store p = s.store p ∧
        u.peer p d = { s.peer p d with state := .announced, joinSentAt := none, refusedUntil := if cause = 3 then none else some x })) ∧
      (∀ x, (s.peer p d).joinSentAt = some x → x + 100000000 ≤ fabAt s (decided t s) → Answers (.joinResend t p d) s (fun u => OnlyPartsOut s u ∧ u.store p = s.store p ∧
        (u.peer p d).state = .joining ∧ (u.peer p d).joinSentAt = some (fabAt s (decided t s)) ∧ ∃ w m, u.out = s.out ++ [Out.fabric p d 0 2 w m]))) ∧
    ((s.peer p d).state = .joined → Answers (.leave t p d) s (fun u => OnlyParts s u ∧ u.store p = s.store p ∧ u.remote p = s.remote p ∧
      u.peer p d = { s.peer p d with state := .announced, paths := [], rx := [], sent := [], backlog := [] })) ∧
    ((s.peer p d).state = .announced →
      (∀ x, aget (s.fabric p).schedule d = some x → (s.peer p d).refusedUntil = none → x ≤ fabAt s (decided t s) → Answers (.joinSlot t p d) s (fun u => OnlyPartsOut s u ∧
        u.store p = s.store p ∧ (u.peer p d).state = .joining ∧ (u.peer p d).joinSentAt = some (fabAt s (decided t s)) ∧ ∃ w m, u.out = s.out ++ [Out.fabric p d 0 2 w m])) ∧
      (∀ x, (s.peer p d).refusedUntil = some x → x ≤ fabAt s (decided t s) → Answers (.joinRetry t p d) s (fun u => OnlyPartsOut s u ∧
        u.store p = s.store p ∧ (u.peer p d).state = .joining ∧ (u.peer p d).refusedUntil = none ∧ ∃ w m, u.out = s.out ++ [Out.fabric p d 0 2 w m]))) ∧
    (∀ x, aget (s.fabric p).schedule d = some x → x + 1000000000 ≤ fabAt s (decided t s) → Answers (.joinSlotRelease t p d) s (fun u => OnlyParts s u ∧
      u.fabric p = { s.fabric p with schedule := adel (s.fabric p).schedule d })) ∧
    (∀ (arr : Arrival) (addr : BitVec 128), s.portsOut p = false →
      let r := s.recD 10 p 0
      let svc := (List.range (leAt r 3 1)).any (fun i => beAt r (32 + 24 * i + 8) 16 == addr.toNat)
      (svc = true → (s.twin p).lead = true → (s.twin p).unpairing = none →
        Answers (.arpRequest t ⟨arr, p⟩ addr) s (SameBut { s with out := s.out ++ [Out.arp p addr (some (beAt r 8 6))] })) ∧
      (svc = true → (s.twin p).lead = false → Answers (.arpRequest t ⟨arr, p⟩ addr) s (SameBut s)) ∧
      (svc = false → (s.fabricAddrs p).contains addr = true → Answers (.arpRequest t ⟨arr, p⟩ addr) s (SameBut { s with out := s.out ++ [Out.arp p addr none] })) ∧
      (svc = false → (s.fabricAddrs p).contains addr = false → Answers (.arpRequest t ⟨arr, p⟩ addr) s (SameBut s)))) ∧
  (∀ (t p x : Nat) (s : State), s.hasPart p = true → s.pkg = .on → (s.fabric p).conflict = true → (s.peer p (s.device p)).emptySince = some x →
    s.plain → x + 5000000000 ≤ fabAt s (decided t s) → Answers (.deviceConflictRetry t p (s.device p)) s (fun u => OnlyPartsOut s u ∧ u.store p = s.store p ∧
      (u.fabric p).conflict = false ∧ aget (u.fabric p).peers (s.device p) = none ∧ u.out.length = s.out.length + (s.rollDests p).length))

/-- R462, R472-R478, R796: at the backing partition a far write in its place of the stream is charged and joins the operations, and a CLOSE ends the stream once no accepted
write of it is left; at the serving partition the RESULT acknowledges the write, NOT_SERVING is tried again, and FAR_TIMEOUT puts the queue pair into ERROR. A pause frame
holds its priority for its quanta, and a port pauses a priority whose buffer is more than three quarters full, repeats the pause, and releases it below one half. -/
def Obligations.FarWindowsAndPauses : Prop :=
  ∀ (t p d : Nat) (s : State), s.hasPart p = true →
    (∀ r : FarReq, s.still p = true → (s.peer p d).state = .joined → s.pkg = .on → s.serving p = true → (s.modeSt p).halted = false → r.op = 1 → r.sseq = 1 →
      s.farDenied p d r = false → r.encipher = false → r.durability ≠ 2 → r.data ≠ [] → (s.remote p).budget.data ≠ 0 → s.readyAt p (r.addr % 2 ^ 52) r.data.length →
      (spans (r.addr % 2 ^ 52) r.data.length).length ≤ (s.rd ((s.partDies p).getD (r.qpn.toNat % max 1 (s.partDies p).length) 0)).credit →
      Answers (.farRequest t p d r) s (fun u => u.store p = s.store p ∧ KeysKept s u ∧
        (u.remote p).ops.map (fun o => (o.kind, o.addr, o.data, o.farFrom, o.accepted)) = [(OpKind.write, r.addr % 2 ^ 52, r.data, some d, some (decided t s))] ∧
        (u.remote p).budget.charged = (s.remote p).budget.charged + (spans (r.addr % 2 ^ 52) r.data.length).length ∧
        (u.fabric p).farStreams = [((d, r.qpn), { next := 2, waiting := [], closing := none })])) ∧
    (∀ (r : FarReq) (st : FarStream), (s.peer p d).state = .joined → r.qpn ≠ 0 → (s.fabric p).farStreams = [((d, r.qpn), st)] → (s.remote p).ops = [] →
      (s.twin p).paired = false → (s.remote p).windows.all (fun e => e.2.revoking.isNone) = true → s.running = [] → Answers (.farClose t p d r) s (fun u =>
        u.store p = s.store p ∧ KeysKept s u ∧ u.remote p = s.remote p ∧ (u.fabric p).farStreams = [])) ∧
    (∀ (r : FarRes) (e : FarSent) (o : Op) (q : Qp), s.quiet p = true → (s.peer p d).state = .joined → r.op = 1 → r.result = 1 → aget (s.fabric p).farSent (r.qpn, r.sseq) = some e →
      e.peer = d → (s.remote p).ops = [o] → o.qpn = r.qpn → o.sseq = some r.sseq → o.farTo = some d → o.kind = .write → s.sendsOn p q → o.accepted = none → o.farFrom = none → o.last = true →
      s.qp? o.qpn = some q → q.twinned = false → q.state = .ready → (∀ a, q.lastAcc = some a → 0 ≤ psnDiff o.psn a) → Answers (.farResult t p d r) s (fun u =>
        u.sec = s.sec ∧ (u.store p).dram = (s.store p).dram ∧ (u.store p).pages = (s.store p).pages ∧ (u.remote p).ops = [] ∧
        aget (u.fabric p).farSent (r.qpn, r.sseq) = none ∧ u.out = s.out ++ [Out.rdma (decided t s) o.qpn o.psn (.ack q.msn) q.way])) ∧
    (∀ (q : BitVec 24) (n x : Nat) (e : FarSent), aget (s.fabric p).farSent (q, n) = some e → e.notServing = some x → s.plain → x + cMs ≤ decided t s →
      fabAt s (decided t s) < e.firstAt + s.farTimeout p → Answers (.farRetry t p q n) s (fun u => OnlyPartsOut s u ∧ u.store p = s.store p ∧ u.remote p = s.remote p ∧
        aget (u.fabric p).farSent (q, n) = some { e with notServing := none })) ∧
    (∀ (n : Nat) (e : FarSent) (o : Op) (q : Qp), s.quiet p = true → s.pending = [] → n ≠ 0 → o.qpn ≠ 0 → (s.fabric p).farSent = [((o.qpn, n), e)] → (s.remote p).ops = [o] → o.id = e.opId →
      o.farFrom = none → s.qp? o.qpn = some q → q.twinned = false → q.state = .ready → e.firstAt + s.farTimeout p ≤ fabAt s (decided t s) →
      Answers (.farTimeout t p o.qpn n) s (fun u => KeysKept s u ∧ (u.store p).dram = (s.store p).dram ∧ (u.remote p).ops = [] ∧ (u.fabric p).farSent = [] ∧
        (u.qp? o.qpn).map (fun x => (x.state, x.errCause, x.errStamp)) = some (QpState.error, 0x32, decided t s))) ∧
    (∀ port prio quanta : Nat, s.partOfDie (port / 2) = some p → prio < 8 →
      let x := agetD s.pfc (port, prio) { pausedUntil := none, weAssert := false, lastSent := 0, occupancy := 0 }
      let held := { x with pausedUntil := if quanta = 0 then none else some (decided t s + ceilDiv (quanta * 512 * 1600) 800000) }
      Answers (.pauseFrame t port prio quanta) s (SameBut { s with pfc := aset s.pfc (port, prio) held }) ∧
      ∀ occupancy : Nat, s.pfcOn p prio = true →
        let to_ (paused : Bool) (sent : Nat) : List ((Nat × Nat) × Pfc) := aset s.pfc (port, prio) { x with weAssert := paused, lastSent := sent, occupancy := occupancy }
        let above : Prop := s.pfcShare p prio * 3 < occupancy * 4
        let below : Prop := occupancy * 2 < s.pfcShare p prio
        (x.weAssert = false → above → Answers (.pauseRepeat t port ⟨prio, occupancy⟩) s (SameBut { s with pfc := to_ true (decided t s), out := s.out ++ [Out.pause port prio 0xFFFF] })) ∧
        (x.weAssert = false → ¬above → Answers (.pauseRepeat t port ⟨prio, occupancy⟩) s (SameBut { s with pfc := to_ false x.lastSent })) ∧
        (x.weAssert = true → below → Answers (.pauseRepeat t port ⟨prio, occupancy⟩) s (SameBut { s with pfc := to_ false (decided t s), out := s.out ++ [Out.pause port prio 0] })) ∧
        (x.weAssert = true → ¬below → x.lastSent + 100 * cUs ≤ decided t s → Answers (.pauseRepeat t port ⟨prio, occupancy⟩) s (SameBut
          { s with pfc := to_ true (decided t s), out := s.out ++ [Out.pause port prio 0xFFFF] })) ∧
        (x.weAssert = true → ¬below → decided t s < x.lastSent + 100 * cUs → Answers (.pauseRepeat t port ⟨prio, occupancy⟩) s (SameBut { s with pfc := to_ true x.lastSent })))

/-! ### Time and meters (R481-R503) -/

/-- R481-R503: the best of the announces heard is the master; the sixteenth measurement within 100 ns in a row locks fabric time to its source's, and a later one only changes
the rate, within 100 ppm; a pulse names its second; no measurement for four intervals is HOLDOVER, HOLDOVER_MAX after that is LOST, which fences a twin; samples, cuts and
evidence records at their times; maintenance slots begin and end; a meter index is free again after its time. -/
def Obligations.TimeAndMeters : Prop :=
  ∀ (t : Nat) (s : State), s.pending = [] → s.plain →
    (∀ (port port' : Nat) (tag : Option SecTag) (a b : PtpAnn), s.timeSource ≠ 1 → s.ptpPort port = true → a.domain = s.field 14 0xFF 0 1 1 0 → s.svc.seq.pllLocked = true →
      s.time.heard = [(port', b)] → b.source ≠ a.source → Answers (.ptpAnnounce t ⟨port, tag⟩ a) s (fun u =>
        let m := if annBetter a b then (port, a) else (port', b)
        SameBut { s with time := { s.time with heard := [(port', b), (port, a)], master := some m.2, masterPort := m.1, arb := m.2.arb } } u)) ∧
    (∀ (port gm : Nat) (tag : Option SecTag) (m : PtpAnn) (offset : Int), s.time.master = some m → s.time.masterPort = port → s.svc.seq.pllLocked = true → s.timeSource = 0 →
      (s.time.mode = .locked → s.time.everLocked = true → offset.natAbs ≤ 1000000 → Answers (.ptpSync t ⟨port, tag⟩ m.source offset gm) s (fun u => u.parts = s.parts ∧ u.ports = s.ports ∧
        u.time.mode = .locked ∧ u.time.lastMeasure = some (decided t s) ∧ u.time.offset = offset ∧ u.time.base = fabAt s (decided t s) ∧ u.time.at_ = decided t s ∧
        u.time.rate.natAbs ≤ 100000)) ∧
      (s.time.mode = .acquiring → s.time.everLocked = false → s.time.inRange = 15 → offset.natAbs ≤ 100 → Answers (.ptpSync t ⟨port, tag⟩ m.source offset gm) s (fun u =>
        u.parts = s.parts ∧ u.time.mode = .locked ∧ u.time.everLocked = true ∧ u.time.base = gm ∧ u.time.at_ = decided t s ∧ u.time.rate.natAbs ≤ 100000))) ∧
    (∀ (sec : Nat) (c : CmdRef) (offset : Int), s.svc.seq.pllLocked = true → s.timeSource = 1 → s.time.nextPps = some (sec, c) → s.running = [] → s.time.everLocked = false →
      s.time.mode = .acquiring → s.time.inRange < 15 → Answers (.ppsEdge t offset) s (fun u => u.parts = s.parts ∧ u.time.nextPps = none ∧
        u.time.base = sec * 1000000000 ∧ u.time.at_ = decided t s ∧ u.time.lastMeasure = some (decided t s) ∧ u.time.offset = offset)) ∧
    (∀ c, s.time.lastMeasure = some c → s.time.mode = .locked → c + 4 * s.syncCycles ≤ decided t s → Answers (.holdover t) s (fun u => u.parts = s.parts ∧ u.dies = s.dies ∧
      u.time = { s.time with mode := .holdover, changedAt := fabAt s (decided t s), inRange := 0, holdSince := some (decided t s) })) ∧
    (∀ c p, s.time.holdSince = some c → s.time.mode = .holdover → c + s.field 14 0xFF 0 12 2 300 * cS ≤ decided t s → s.pkg = .on → s.partIds = [p] →
      Answers (.timeLost t) s (fun u => u.time.mode = .lost ∧ u.time.everLocked = s.time.everLocked ∧
        ((s.twin p).paired = true → (u.twin p).role = .fenced ∧ ((s.twin p).role ≠ .fenced → (u.twin p).tExp = none)))) ∧
    (∀ p P, s.part? p = some P → s.pkg = .on → s.time.everLocked = true →
      (∀ (tn i : Nat) (D : Die), P.meters.lastSample < fabAt s (decided t s) / 1000000000 → P.meters.index = [(tn, i)] → s.die? (s.homeDie p) = some D →
        (agetD D.meters i (List.replicate 16 0)).length = 16 → Answers (.meterSample t p) s (fun u =>
          let old := agetD D.meters i (List.replicate 16 0)
          u.sec = s.sec ∧ u.store p = s.store p ∧ (u.meterSt p).lastSample = fabAt s (decided t s) / 1000000000 ∧ ∀ D', u.die? (s.homeDie p) = some D' →
          ∀ k, k < 16 → (agetD D'.meters i (List.replicate 16 0)).getD k 0 = old.getD k 0 +
            (if k = 6 then (s.store p).usage tn
             else if k = 7 then ((s.store p).bricks.filter (fun e => e.2.tenant == tn && e.2.pin && e.2.res.isSome)).length
             else if k = 8 then ((s.store p).bricks.filter (fun e => e.2.tenant == tn)).length
             else if k = 15 then s.tenantQps p tn else 0))) ∧
      (let b := fabAt s (decided t s) / 60000000000 * 60000000000
       (match P.meters.lastCut with | some l => l < b | none => 0 < b) → Answers (.minuteCut t p) s (fun u => u.sec = s.sec ∧ u.dies = s.dies ∧ u.remote p = s.remote p ∧
        (u.meterSt p).lastCut = some b ∧ aget (u.meterSt p).ring (cutSlot b) = some { b := b, status := s.cutStatus p false, counts := s.meterTotals p } ∧
        ∀ k, k ≠ cutSlot b → aget (u.meterSt p).ring k = aget P.meters.ring k)) ∧
      (let h := fabAt s (decided t s) / 3600000000000
       h ≠ 0 → (match P.meters.lastHour with | some l => l < h | none => True) → s.nextEvid ≤ 2880 → Answers (.hourlyEvidence t p) s (fun u => u.sec = s.sec ∧ u.dies = s.dies ∧
        u.store p = s.store p ∧ (u.meterSt p).evSeq = s.nextEvid ∧ ∃ e : Evidence, (u.meterSt p).evidence = P.meters.evidence ++ [e] ∧ e.hour = h ∧ e.seq = s.nextEvid)) ∧
      (∀ slot period phase dur kind : Nat, s.maintSlot p slot = some (period, phase, dur, kind) → period ≠ 0 →
        let now := fabAt s (decided t s)
        let inside := (now + period - phase % period) % period < dur
        (kind ≠ 2 → P.meters.slotsOn.contains slot = false → s.mode p ≠ .drain → inside → Answers (.maintenanceSlot t p slot true) s (fun u => OnlyParts s u ∧
          u.store p = s.store p ∧ (u.meterSt p).slotsOn = P.meters.slotsOn ++ [slot])) ∧
        (P.meters.slotsOn.contains slot = true → ¬inside → Answers (.maintenanceSlot t p slot false) s (fun u => OnlyParts s u ∧ u.store p = s.store p ∧
          (u.meterSt p).slotsOn = P.meters.slotsOn.filter (· != slot))))) ∧
    (∀ (p : Nat) (P : Part) (i f : Nat), s.part? p = some P → aget P.meters.freeAt i = some f → f ≤ fabAt s (decided t s) → Answers (.meterIndexFree t p i) s (fun u =>
      u.sec = s.sec ∧ u.store p = s.store p ∧ (u.meterSt p).index = P.meters.index.filter (·.2 != i) ∧ aget (u.meterSt p).freeAt i = none ∧
      ∀ d ∈ s.partDies p, ∀ D, u.die? d = some D → aget D.meters i = none))

/-! ### Reset -/

/-- R508, R672, R678, R756, R757, R759, R762, R766: after reset the package is in COLD at ROP1 with nothing waiting; on both ports every ring is stopped with cause RESET and not
enabled, the completion interrupt comes at one completion, the lock is closed, and the interrupt, aperture and time registers read 0. -/
def Obligations.ResetState : Prop :=
  State.reset.pkg = .cold ∧ State.reset.ropLevel = 1 ∧ State.reset.pending = [] ∧ State.reset.running = [] ∧
    ∀ i, i < 2 →
      (∀ off ∈ [0x3010, 0x3050, 0x3090], State.reset.bar0 i off = 1 + 2 * 5) ∧ State.reset.bar0 i 0x3060 = 1 ∧
      ∀ off ∈ [0x1004, 0x1008, 0x100C, 0x2000, 0x2004, 0x2010, 0x2014, 0x2018, 0x201C, 0x2020, 0x3000, 0x3008, 0x300C, 0x3014, 0x3018, 0x3040, 0x3048, 0x304C, 0x3054,
        0x3058, 0x3064, 0x3080, 0x3088, 0x308C, 0x3094, 0x3098, 0x5000, 0x5008, 0x5010, 0x5018], State.reset.bar0 i off = 0
end

