-- ==== Sys2Proof/Laws/Lists.lean ====
section
/-! SUPPORT. Tables by key: what a lookup answers after each change. -/
namespace Sys2Proof.Machine
open Sys2Proof

variable {κ α : Type} [DecidableEq κ]

@[simp] theorem aget_nil (k : κ) : aget ([] : List (κ × α)) k = none := rfl

theorem aget_cons (e : κ × α) (l : List (κ × α)) (k : κ) : aget (e :: l) k = if e.1 = k then some e.2 else aget l k := by
  by_cases h : e.1 = k <;> simp [aget, h]

theorem ahas_cons (e : κ × α) (l : List (κ × α)) (k : κ) : ahas (e :: l) k = (decide (e.1 = k) || ahas l k) := by
  by_cases h : e.1 = k <;> simp [ahas, aget_cons, h]

theorem aget_append (l m : List (κ × α)) (k : κ) : aget (l ++ m) k = (aget l k).or (aget m k) := by
  induction l with
  | nil => simp
  | cons e l ih => rw [List.cons_append, aget_cons, aget_cons, ih]; split <;> rfl

/-- After `aupd`, a lookup of the same key gives the image of what stood there. -/
theorem aget_aupd_same (l : List (κ × α)) (k : κ) (f : α → α) : aget (aupd l k f) k = (aget l k).map f := by
  induction l with
  | nil => rfl
  | cons e l ih =>
    by_cases h : e.1 = k
    · simp [aupd, aget_cons, h]
    · simp only [aupd, List.map_cons, beq_iff_eq] at ih ⊢
      rw [aget_cons, aget_cons]
      simp [h, ih]

theorem aget_aupd_other (l : List (κ × α)) {k j : κ} (f : α → α) (h : j ≠ k) : aget (aupd l k f) j = aget l j := by
  induction l with
  | nil => rfl
  | cons e l ih =>
    by_cases he : e.1 = k
    · have hj : ¬ k = j := fun hh => h hh.symm
      have : ¬ e.1 = j := fun hh => h (hh ▸ he)
      simp only [aupd, List.map_cons, beq_iff_eq] at ih ⊢
      rw [aget_cons, aget_cons]
      simp [he, hj, ih]
    · simp only [aupd, List.map_cons, beq_iff_eq] at ih ⊢
      rw [aget_cons, aget_cons]
      simp [he, ih]

theorem aupd_id (l : List (κ × α)) (k : κ) : aupd l k id = l := by
  induction l with
  | nil => rfl
  | cons e l ih =>
    simp only [aupd, List.map_cons, beq_iff_eq, id_eq] at ih ⊢
    rw [ih]
    split
    · next h => rw [← h]
    · rfl

/-- Two changes of one key's entry are one. -/
theorem aupd_aupd (l : List (κ × α)) (k : κ) (f g : α → α) : aupd (aupd l k f) k g = aupd l k (fun x => g (f x)) := by
  induction l with
  | nil => rfl
  | cons e l ih =>
    simp only [aupd, List.map_cons, beq_iff_eq] at ih ⊢
    rw [ih]
    split <;> simp_all

@[simp] theorem aupd_keys (l : List (κ × α)) (k : κ) (f : α → α) : (aupd l k f).map (·.1) = l.map (·.1) := by
  induction l with
  | nil => rfl
  | cons e l ih =>
    simp only [aupd, List.map_cons, beq_iff_eq] at ih ⊢
    rw [ih]
    by_cases h : e.1 = k <;> simp [h]

theorem aget_map_same (l : List (κ × α)) (k : κ) (v : α) (h : ahas l k = true) :
    aget (l.map (fun e => if e.1 == k then (k, v) else e)) k = some v := by
  induction l with
  | nil => simp [ahas] at h
  | cons e l ih =>
    by_cases he : e.1 = k
    · simp [aget_cons, he]
    · rw [ahas_cons] at h
      simp [he] at h
      rw [List.map_cons, aget_cons]
      simpa [he] using ih h

/-- After `aset`, a lookup of the same key gives the value set. -/
@[simp] theorem aget_aset_same (l : List (κ × α)) (k : κ) (v : α) : aget (aset l k v) k = some v := by
  unfold aset
  split
  · exact aget_map_same l k v ‹_›
  · rename_i h
    have hn : aget l k = none := by simpa [ahas] using h
    rw [aget_append, hn]
    simp [aget_cons]

theorem aget_map_other (l : List (κ × α)) {k j : κ} (v : α) (h : j ≠ k) :
    aget (l.map (fun e => if e.1 == k then (k, v) else e)) j = aget l j := by
  induction l with
  | nil => rfl
  | cons e l ih =>
    rw [List.map_cons, aget_cons, aget_cons, ih]
    by_cases he : e.1 = k
    · have hj : ¬ k = j := fun hh => h hh.symm
      simp [he, hj]
    · simp [he]

theorem aget_aset_other (l : List (κ × α)) {k j : κ} (v : α) (h : j ≠ k) : aget (aset l k v) j = aget l j := by
  unfold aset
  split
  · exact aget_map_other l v h
  · rw [aget_append]
    have hj : ¬ k = j := fun hh => h hh.symm
    cases hc : aget l j <;> simp [aget_cons, hj]

@[simp] theorem agetD_amod_same (l : List (κ × α)) (k : κ) (d : α) (f : α → α) : agetD (amod l k d f) k d = f (agetD l k d) := by
  simp [agetD, amod]

theorem agetD_amod_other (l : List (κ × α)) {k j : κ} (d : α) (f : α → α) (h : j ≠ k) : agetD (amod l k d f) j d = agetD l j d := by
  simp [agetD, amod, aget_aset_other _ _ h]

/-- After `adel`, a lookup of the key finds nothing. -/
@[simp] theorem aget_adel_same (l : List (κ × α)) (k : κ) : aget (adel l k) k = none := by
  induction l with
  | nil => rfl
  | cons e l ih =>
    by_cases he : e.1 = k
    · simpa [adel, he] using ih
    · unfold adel at ih ⊢
      rw [List.filter_cons_of_pos (by simp [he]), aget_cons, if_neg he, ih]

theorem aget_adel_other (l : List (κ × α)) {k j : κ} (h : j ≠ k) : aget (adel l k) j = aget l j := by
  induction l with
  | nil => rfl
  | cons e l ih =>
    by_cases he : e.1 = k
    · have : ¬ e.1 = j := fun hh => h (hh ▸ he)
      simp only [adel] at ih ⊢
      rw [List.filter_cons_of_neg (by simp [he]), ih, aget_cons, if_neg this]
    · simp only [adel] at ih ⊢
      rw [List.filter_cons_of_pos (by simp [he]), aget_cons, aget_cons, ih]

@[simp] theorem ahas_aset_same (l : List (κ × α)) (k : κ) (v : α) : ahas (aset l k v) k = true := by simp [ahas]

@[simp] theorem ahas_adel_same (l : List (κ × α)) (k : κ) : ahas (adel l k) k = false := by simp [ahas]

@[simp] theorem modNth_length (l : List α) (i : Nat) (f : α → α) : (modNth l i f).length = l.length := by simp [modNth]

theorem modNth_get_same (l : List α) (i : Nat) (f : α → α) : (modNth l i f)[i]? = l[i]?.map f := by simp [modNth]

theorem modNth_get_other (l : List α) {i j : Nat} (f : α → α) (h : i ≠ j) : (modNth l i f)[j]? = l[j]? := by simp [modNth, h]

end Sys2Proof.Machine
end

