-- ==== Sys2Proof/Laws/State.lean ====
section
/-! SUPPORT. What each update of the state leaves in each field: one lemma per field and update, true by unfolding the update once. -/
namespace Sys2Proof.Machine
open Sys2Proof

@[simp] theorem State.modPart_pending (s : State) (p : Nat) (f : Part → Part) : (s.modPart p f).pending = s.pending := rfl
@[simp] theorem State.modPart_now (s : State) (p : Nat) (f : Part → Part) : (s.modPart p f).now = s.now := rfl
@[simp] theorem State.modPart_updates (s : State) (p : Nat) (f : Part → Part) : (s.modPart p f).updates = s.updates := rfl
@[simp] theorem State.modPart_hw (s : State) (p : Nat) (f : Part → Part) : (s.modPart p f).hw = s.hw := rfl
@[simp] theorem State.modPart_pkg (s : State) (p : Nat) (f : Part → Part) : (s.modPart p f).pkg = s.pkg := rfl
@[simp] theorem State.modPart_pkgCauses (s : State) (p : Nat) (f : Part → Part) : (s.modPart p f).pkgCauses = s.pkgCauses := rfl
@[simp] theorem State.modPart_parts (s : State) (p : Nat) (f : Part → Part) : (s.modPart p f).parts = aupd s.parts p f := rfl
@[simp] theorem State.modPart_stowed (s : State) (p : Nat) (f : Part → Part) : (s.modPart p f).stowed = s.stowed := rfl
@[simp] theorem State.modPart_dies (s : State) (p : Nat) (f : Part → Part) : (s.modPart p f).dies = s.dies := rfl
@[simp] theorem State.modPart_svc (s : State) (p : Nat) (f : Part → Part) : (s.modPart p f).svc = s.svc := rfl
@[simp] theorem State.modPart_image (s : State) (p : Nat) (f : Part → Part) : (s.modPart p f).image = s.image := rfl
@[simp] theorem State.modPart_sec (s : State) (p : Nat) (f : Part → Part) : (s.modPart p f).sec = s.sec := rfl
@[simp] theorem State.modPart_ports (s : State) (p : Nat) (f : Part → Part) : (s.modPart p f).ports = s.ports := rfl
@[simp] theorem State.modPart_configGen (s : State) (p : Nat) (f : Part → Part) : (s.modPart p f).configGen = s.configGen := rfl
@[simp] theorem State.modPart_running (s : State) (p : Nat) (f : Part → Part) : (s.modPart p f).running = s.running := rfl
@[simp] theorem State.modPart_heldEnds (s : State) (p : Nat) (f : Part → Part) : (s.modPart p f).heldEnds = s.heldEnds := rfl
@[simp] theorem State.modPart_storeNv (s : State) (p : Nat) (f : Part → Part) : (s.modPart p f).storeNv = s.storeNv := rfl
@[simp] theorem State.modPart_phys (s : State) (p : Nat) (f : Part → Part) : (s.modPart p f).phys = s.phys := rfl
@[simp] theorem State.modPart_links (s : State) (p : Nat) (f : Part → Part) : (s.modPart p f).links = s.links := rfl
@[simp] theorem State.modPart_pfc (s : State) (p : Nat) (f : Part → Part) : (s.modPart p f).pfc = s.pfc := rfl
@[simp] theorem State.modPart_eapol (s : State) (p : Nat) (f : Part → Part) : (s.modPart p f).eapol = s.eapol := rfl
@[simp] theorem State.modPart_time (s : State) (p : Nat) (f : Part → Part) : (s.modPart p f).time = s.time := rfl
@[simp] theorem State.modPart_out (s : State) (p : Nat) (f : Part → Part) : (s.modPart p f).out = s.out := rfl

@[simp] theorem State.modDie_pending (s : State) (d : Nat) (f : Die → Die) : (s.modDie d f).pending = s.pending := rfl
@[simp] theorem State.modDie_now (s : State) (d : Nat) (f : Die → Die) : (s.modDie d f).now = s.now := rfl
@[simp] theorem State.modDie_updates (s : State) (d : Nat) (f : Die → Die) : (s.modDie d f).updates = s.updates := rfl
@[simp] theorem State.modDie_hw (s : State) (d : Nat) (f : Die → Die) : (s.modDie d f).hw = s.hw := rfl
@[simp] theorem State.modDie_pkg (s : State) (d : Nat) (f : Die → Die) : (s.modDie d f).pkg = s.pkg := rfl
@[simp] theorem State.modDie_pkgCauses (s : State) (d : Nat) (f : Die → Die) : (s.modDie d f).pkgCauses = s.pkgCauses := rfl
@[simp] theorem State.modDie_parts (s : State) (d : Nat) (f : Die → Die) : (s.modDie d f).parts = s.parts := rfl
@[simp] theorem State.modDie_stowed (s : State) (d : Nat) (f : Die → Die) : (s.modDie d f).stowed = s.stowed := rfl
@[simp] theorem State.modDie_dies (s : State) (d : Nat) (f : Die → Die) : (s.modDie d f).dies = aupd s.dies d f := rfl
@[simp] theorem State.modDie_svc (s : State) (d : Nat) (f : Die → Die) : (s.modDie d f).svc = s.svc := rfl
@[simp] theorem State.modDie_image (s : State) (d : Nat) (f : Die → Die) : (s.modDie d f).image = s.image := rfl
@[simp] theorem State.modDie_sec (s : State) (d : Nat) (f : Die → Die) : (s.modDie d f).sec = s.sec := rfl
@[simp] theorem State.modDie_ports (s : State) (d : Nat) (f : Die → Die) : (s.modDie d f).ports = s.ports := rfl
@[simp] theorem State.modDie_configGen (s : State) (d : Nat) (f : Die → Die) : (s.modDie d f).configGen = s.configGen := rfl
@[simp] theorem State.modDie_running (s : State) (d : Nat) (f : Die → Die) : (s.modDie d f).running = s.running := rfl
@[simp] theorem State.modDie_heldEnds (s : State) (d : Nat) (f : Die → Die) : (s.modDie d f).heldEnds = s.heldEnds := rfl
@[simp] theorem State.modDie_storeNv (s : State) (d : Nat) (f : Die → Die) : (s.modDie d f).storeNv = s.storeNv := rfl
@[simp] theorem State.modDie_phys (s : State) (d : Nat) (f : Die → Die) : (s.modDie d f).phys = s.phys := rfl
@[simp] theorem State.modDie_links (s : State) (d : Nat) (f : Die → Die) : (s.modDie d f).links = s.links := rfl
@[simp] theorem State.modDie_pfc (s : State) (d : Nat) (f : Die → Die) : (s.modDie d f).pfc = s.pfc := rfl
@[simp] theorem State.modDie_eapol (s : State) (d : Nat) (f : Die → Die) : (s.modDie d f).eapol = s.eapol := rfl
@[simp] theorem State.modDie_time (s : State) (d : Nat) (f : Die → Die) : (s.modDie d f).time = s.time := rfl
@[simp] theorem State.modDie_out (s : State) (d : Nat) (f : Die → Die) : (s.modDie d f).out = s.out := rfl

@[simp] theorem State.modPort_pending (s : State) (i : Nat) (f : CtlPort → CtlPort) : (s.modPort i f).pending = s.pending := rfl
@[simp] theorem State.modPort_now (s : State) (i : Nat) (f : CtlPort → CtlPort) : (s.modPort i f).now = s.now := rfl
@[simp] theorem State.modPort_updates (s : State) (i : Nat) (f : CtlPort → CtlPort) : (s.modPort i f).updates = s.updates := rfl
@[simp] theorem State.modPort_hw (s : State) (i : Nat) (f : CtlPort → CtlPort) : (s.modPort i f).hw = s.hw := rfl
@[simp] theorem State.modPort_pkg (s : State) (i : Nat) (f : CtlPort → CtlPort) : (s.modPort i f).pkg = s.pkg := rfl
@[simp] theorem State.modPort_pkgCauses (s : State) (i : Nat) (f : CtlPort → CtlPort) : (s.modPort i f).pkgCauses = s.pkgCauses := rfl
@[simp] theorem State.modPort_parts (s : State) (i : Nat) (f : CtlPort → CtlPort) : (s.modPort i f).parts = s.parts := rfl
@[simp] theorem State.modPort_stowed (s : State) (i : Nat) (f : CtlPort → CtlPort) : (s.modPort i f).stowed = s.stowed := rfl
@[simp] theorem State.modPort_dies (s : State) (i : Nat) (f : CtlPort → CtlPort) : (s.modPort i f).dies = s.dies := rfl
@[simp] theorem State.modPort_svc (s : State) (i : Nat) (f : CtlPort → CtlPort) : (s.modPort i f).svc = s.svc := rfl
@[simp] theorem State.modPort_image (s : State) (i : Nat) (f : CtlPort → CtlPort) : (s.modPort i f).image = s.image := rfl
@[simp] theorem State.modPort_sec (s : State) (i : Nat) (f : CtlPort → CtlPort) : (s.modPort i f).sec = s.sec := rfl
@[simp] theorem State.modPort_ports (s : State) (i : Nat) (f : CtlPort → CtlPort) : (s.modPort i f).ports = modNth s.ports i f := rfl
@[simp] theorem State.modPort_configGen (s : State) (i : Nat) (f : CtlPort → CtlPort) : (s.modPort i f).configGen = s.configGen := rfl
@[simp] theorem State.modPort_running (s : State) (i : Nat) (f : CtlPort → CtlPort) : (s.modPort i f).running = s.running := rfl
@[simp] theorem State.modPort_heldEnds (s : State) (i : Nat) (f : CtlPort → CtlPort) : (s.modPort i f).heldEnds = s.heldEnds := rfl
@[simp] theorem State.modPort_storeNv (s : State) (i : Nat) (f : CtlPort → CtlPort) : (s.modPort i f).storeNv = s.storeNv := rfl
@[simp] theorem State.modPort_phys (s : State) (i : Nat) (f : CtlPort → CtlPort) : (s.modPort i f).phys = s.phys := rfl
@[simp] theorem State.modPort_links (s : State) (i : Nat) (f : CtlPort → CtlPort) : (s.modPort i f).links = s.links := rfl
@[simp] theorem State.modPort_pfc (s : State) (i : Nat) (f : CtlPort → CtlPort) : (s.modPort i f).pfc = s.pfc := rfl
@[simp] theorem State.modPort_eapol (s : State) (i : Nat) (f : CtlPort → CtlPort) : (s.modPort i f).eapol = s.eapol := rfl
@[simp] theorem State.modPort_time (s : State) (i : Nat) (f : CtlPort → CtlPort) : (s.modPort i f).time = s.time := rfl
@[simp] theorem State.modPort_out (s : State) (i : Nat) (f : CtlPort → CtlPort) : (s.modPort i f).out = s.out := rfl

@[simp] theorem State.modSvc_pending (s : State) (f : Service → Service) : (s.modSvc f).pending = s.pending := rfl
@[simp] theorem State.modSvc_now (s : State) (f : Service → Service) : (s.modSvc f).now = s.now := rfl
@[simp] theorem State.modSvc_updates (s : State) (f : Service → Service) : (s.modSvc f).updates = s.updates := rfl
@[simp] theorem State.modSvc_hw (s : State) (f : Service → Service) : (s.modSvc f).hw = s.hw := rfl
@[simp] theorem State.modSvc_pkg (s : State) (f : Service → Service) : (s.modSvc f).pkg = s.pkg := rfl
@[simp] theorem State.modSvc_pkgCauses (s : State) (f : Service → Service) : (s.modSvc f).pkgCauses = s.pkgCauses := rfl
@[simp] theorem State.modSvc_parts (s : State) (f : Service → Service) : (s.modSvc f).parts = s.parts := rfl
@[simp] theorem State.modSvc_stowed (s : State) (f : Service → Service) : (s.modSvc f).stowed = s.stowed := rfl
@[simp] theorem State.modSvc_dies (s : State) (f : Service → Service) : (s.modSvc f).dies = s.dies := rfl
@[simp] theorem State.modSvc_svc (s : State) (f : Service → Service) : (s.modSvc f).svc = f s.svc := rfl
@[simp] theorem State.modSvc_image (s : State) (f : Service → Service) : (s.modSvc f).image = s.image := rfl
@[simp] theorem State.modSvc_sec (s : State) (f : Service → Service) : (s.modSvc f).sec = s.sec := rfl
@[simp] theorem State.modSvc_ports (s : State) (f : Service → Service) : (s.modSvc f).ports = s.ports := rfl
@[simp] theorem State.modSvc_configGen (s : State) (f : Service → Service) : (s.modSvc f).configGen = s.configGen := rfl
@[simp] theorem State.modSvc_running (s : State) (f : Service → Service) : (s.modSvc f).running = s.running := rfl
@[simp] theorem State.modSvc_heldEnds (s : State) (f : Service → Service) : (s.modSvc f).heldEnds = s.heldEnds := rfl
@[simp] theorem State.modSvc_storeNv (s : State) (f : Service → Service) : (s.modSvc f).storeNv = s.storeNv := rfl
@[simp] theorem State.modSvc_phys (s : State) (f : Service → Service) : (s.modSvc f).phys = s.phys := rfl
@[simp] theorem State.modSvc_links (s : State) (f : Service → Service) : (s.modSvc f).links = s.links := rfl
@[simp] theorem State.modSvc_pfc (s : State) (f : Service → Service) : (s.modSvc f).pfc = s.pfc := rfl
@[simp] theorem State.modSvc_eapol (s : State) (f : Service → Service) : (s.modSvc f).eapol = s.eapol := rfl
@[simp] theorem State.modSvc_time (s : State) (f : Service → Service) : (s.modSvc f).time = s.time := rfl
@[simp] theorem State.modSvc_out (s : State) (f : Service → Service) : (s.modSvc f).out = s.out := rfl

@[simp] theorem State.modSec_pending (s : State) (f : Security → Security) : (s.modSec f).pending = s.pending := rfl
@[simp] theorem State.modSec_now (s : State) (f : Security → Security) : (s.modSec f).now = s.now := rfl
@[simp] theorem State.modSec_updates (s : State) (f : Security → Security) : (s.modSec f).updates = s.updates := rfl
@[simp] theorem State.modSec_hw (s : State) (f : Security → Security) : (s.modSec f).hw = s.hw := rfl
@[simp] theorem State.modSec_pkg (s : State) (f : Security → Security) : (s.modSec f).pkg = s.pkg := rfl
@[simp] theorem State.modSec_pkgCauses (s : State) (f : Security → Security) : (s.modSec f).pkgCauses = s.pkgCauses := rfl
@[simp] theorem State.modSec_parts (s : State) (f : Security → Security) : (s.modSec f).parts = s.parts := rfl
@[simp] theorem State.modSec_stowed (s : State) (f : Security → Security) : (s.modSec f).stowed = s.stowed := rfl
@[simp] theorem State.modSec_dies (s : State) (f : Security → Security) : (s.modSec f).dies = s.dies := rfl
@[simp] theorem State.modSec_svc (s : State) (f : Security → Security) : (s.modSec f).svc = s.svc := rfl
@[simp] theorem State.modSec_image (s : State) (f : Security → Security) : (s.modSec f).image = s.image := rfl
@[simp] theorem State.modSec_sec (s : State) (f : Security → Security) : (s.modSec f).sec = f s.sec := rfl
@[simp] theorem State.modSec_ports (s : State) (f : Security → Security) : (s.modSec f).ports = s.ports := rfl
@[simp] theorem State.modSec_configGen (s : State) (f : Security → Security) : (s.modSec f).configGen = s.configGen := rfl
@[simp] theorem State.modSec_running (s : State) (f : Security → Security) : (s.modSec f).running = s.running := rfl
@[simp] theorem State.modSec_heldEnds (s : State) (f : Security → Security) : (s.modSec f).heldEnds = s.heldEnds := rfl
@[simp] theorem State.modSec_storeNv (s : State) (f : Security → Security) : (s.modSec f).storeNv = s.storeNv := rfl
@[simp] theorem State.modSec_phys (s : State) (f : Security → Security) : (s.modSec f).phys = s.phys := rfl
@[simp] theorem State.modSec_links (s : State) (f : Security → Security) : (s.modSec f).links = s.links := rfl
@[simp] theorem State.modSec_pfc (s : State) (f : Security → Security) : (s.modSec f).pfc = s.pfc := rfl
@[simp] theorem State.modSec_eapol (s : State) (f : Security → Security) : (s.modSec f).eapol = s.eapol := rfl
@[simp] theorem State.modSec_time (s : State) (f : Security → Security) : (s.modSec f).time = s.time := rfl
@[simp] theorem State.modSec_out (s : State) (f : Security → Security) : (s.modSec f).out = s.out := rfl

@[simp] theorem State.modImage_pending (s : State) (f : ImageSt → ImageSt) : (s.modImage f).pending = s.pending := rfl
@[simp] theorem State.modImage_now (s : State) (f : ImageSt → ImageSt) : (s.modImage f).now = s.now := rfl
@[simp] theorem State.modImage_updates (s : State) (f : ImageSt → ImageSt) : (s.modImage f).updates = s.updates := rfl
@[simp] theorem State.modImage_hw (s : State) (f : ImageSt → ImageSt) : (s.modImage f).hw = s.hw := rfl
@[simp] theorem State.modImage_pkg (s : State) (f : ImageSt → ImageSt) : (s.modImage f).pkg = s.pkg := rfl
@[simp] theorem State.modImage_pkgCauses (s : State) (f : ImageSt → ImageSt) : (s.modImage f).pkgCauses = s.pkgCauses := rfl
@[simp] theorem State.modImage_parts (s : State) (f : ImageSt → ImageSt) : (s.modImage f).parts = s.parts := rfl
@[simp] theorem State.modImage_stowed (s : State) (f : ImageSt → ImageSt) : (s.modImage f).stowed = s.stowed := rfl
@[simp] theorem State.modImage_dies (s : State) (f : ImageSt → ImageSt) : (s.modImage f).dies = s.dies := rfl
@[simp] theorem State.modImage_svc (s : State) (f : ImageSt → ImageSt) : (s.modImage f).svc = s.svc := rfl
@[simp] theorem State.modImage_image (s : State) (f : ImageSt → ImageSt) : (s.modImage f).image = f s.image := rfl
@[simp] theorem State.modImage_sec (s : State) (f : ImageSt → ImageSt) : (s.modImage f).sec = s.sec := rfl
@[simp] theorem State.modImage_ports (s : State) (f : ImageSt → ImageSt) : (s.modImage f).ports = s.ports := rfl
@[simp] theorem State.modImage_configGen (s : State) (f : ImageSt → ImageSt) : (s.modImage f).configGen = s.configGen := rfl
@[simp] theorem State.modImage_running (s : State) (f : ImageSt → ImageSt) : (s.modImage f).running = s.running := rfl
@[simp] theorem State.modImage_heldEnds (s : State) (f : ImageSt → ImageSt) : (s.modImage f).heldEnds = s.heldEnds := rfl
@[simp] theorem State.modImage_storeNv (s : State) (f : ImageSt → ImageSt) : (s.modImage f).storeNv = s.storeNv := rfl
@[simp] theorem State.modImage_phys (s : State) (f : ImageSt → ImageSt) : (s.modImage f).phys = s.phys := rfl
@[simp] theorem State.modImage_links (s : State) (f : ImageSt → ImageSt) : (s.modImage f).links = s.links := rfl
@[simp] theorem State.modImage_pfc (s : State) (f : ImageSt → ImageSt) : (s.modImage f).pfc = s.pfc := rfl
@[simp] theorem State.modImage_eapol (s : State) (f : ImageSt → ImageSt) : (s.modImage f).eapol = s.eapol := rfl
@[simp] theorem State.modImage_time (s : State) (f : ImageSt → ImageSt) : (s.modImage f).time = s.time := rfl
@[simp] theorem State.modImage_out (s : State) (f : ImageSt → ImageSt) : (s.modImage f).out = s.out := rfl

@[simp] theorem State.send_pending (s : State) (o : Out) : (s.send o).pending = s.pending := rfl
@[simp] theorem State.send_now (s : State) (o : Out) : (s.send o).now = s.now := rfl
@[simp] theorem State.send_updates (s : State) (o : Out) : (s.send o).updates = s.updates := rfl
@[simp] theorem State.send_hw (s : State) (o : Out) : (s.send o).hw = s.hw := rfl
@[simp] theorem State.send_pkg (s : State) (o : Out) : (s.send o).pkg = s.pkg := rfl
@[simp] theorem State.send_pkgCauses (s : State) (o : Out) : (s.send o).pkgCauses = s.pkgCauses := rfl
@[simp] theorem State.send_parts (s : State) (o : Out) : (s.send o).parts = s.parts := rfl
@[simp] theorem State.send_stowed (s : State) (o : Out) : (s.send o).stowed = s.stowed := rfl
@[simp] theorem State.send_dies (s : State) (o : Out) : (s.send o).dies = s.dies := rfl
@[simp] theorem State.send_svc (s : State) (o : Out) : (s.send o).svc = s.svc := rfl
@[simp] theorem State.send_image (s : State) (o : Out) : (s.send o).image = s.image := rfl
@[simp] theorem State.send_sec (s : State) (o : Out) : (s.send o).sec = s.sec := rfl
@[simp] theorem State.send_ports (s : State) (o : Out) : (s.send o).ports = s.ports := rfl
@[simp] theorem State.send_configGen (s : State) (o : Out) : (s.send o).configGen = s.configGen := rfl
@[simp] theorem State.send_running (s : State) (o : Out) : (s.send o).running = s.running := rfl
@[simp] theorem State.send_heldEnds (s : State) (o : Out) : (s.send o).heldEnds = s.heldEnds := rfl
@[simp] theorem State.send_storeNv (s : State) (o : Out) : (s.send o).storeNv = s.storeNv := rfl
@[simp] theorem State.send_phys (s : State) (o : Out) : (s.send o).phys = s.phys := rfl
@[simp] theorem State.send_links (s : State) (o : Out) : (s.send o).links = s.links := rfl
@[simp] theorem State.send_pfc (s : State) (o : Out) : (s.send o).pfc = s.pfc := rfl
@[simp] theorem State.send_eapol (s : State) (o : Out) : (s.send o).eapol = s.eapol := rfl
@[simp] theorem State.send_time (s : State) (o : Out) : (s.send o).time = s.time := rfl
@[simp] theorem State.send_out (s : State) (o : Out) : (s.send o).out = s.out ++ [o] := rfl

@[simp] theorem State.modStore_eq (s : State) (p : Nat) (f : StoreP → StoreP) : s.modStore p f = s.modPart p (fun P => { P with store := f P.store }) := rfl
@[simp] theorem State.modRemote_eq (s : State) (p : Nat) (f : RemoteP → RemoteP) : s.modRemote p f = s.modPart p (fun P => { P with remote := f P.remote }) := rfl
@[simp] theorem State.modTwin_eq (s : State) (p : Nat) (f : TwinP → TwinP) : s.modTwin p f = s.modPart p (fun P => { P with twin := f P.twin }) := rfl
@[simp] theorem State.modFabric_eq (s : State) (p : Nat) (f : FabricP → FabricP) : s.modFabric p f = s.modPart p (fun P => { P with fabric := f P.fabric }) := rfl
@[simp] theorem State.modMode_eq (s : State) (p : Nat) (f : ModeSt → ModeSt) : s.modMode p f = s.modPart p (fun P => { P with mode := f P.mode }) := rfl
@[simp] theorem State.modRd_eq (s : State) (d : Nat) (f : RemoteD → RemoteD) : s.modRd d f = s.modDie d (fun D => { D with remote := f D.remote }) := rfl
@[simp] theorem State.modDram_eq (s : State) (d : Nat) (f : DramD → DramD) : s.modDram d f = s.modDie d (fun D => { D with dram := f D.dram }) := rfl
@[simp] theorem State.modLog_eq (s : State) (f : Logbook → Logbook) : s.modLog f = s.modSvc (fun v => { v with log := f v.log }) := rfl
@[simp] theorem State.modNv_eq (s : State) (f : Nv → Nv) : s.modNv f = s.modSvc (fun v => { v with nv := f v.nv }) := rfl
@[simp] theorem State.modSeq_eq (s : State) (f : Sequencer → Sequencer) : s.modSeq f = s.modSvc (fun v => { v with seq := f v.seq }) := rfl
@[simp] theorem State.modPins_eq (s : State) (f : Pins → Pins) : s.modPins f = s.modSvc (fun v => { v with pins := f v.pins }) := rfl
@[simp] theorem State.modTherm_eq (s : State) (f : Thermal → Thermal) : s.modTherm f = s.modSvc (fun v => { v with thermal := f v.thermal }) := rfl
@[simp] theorem State.modSb_eq (s : State) (f : Sideband → Sideband) : s.modSb f = s.modSvc (fun v => { v with sideband := f v.sideband }) := rfl
@[simp] theorem State.modFlash_eq (s : State) (p : Nat) (f : Flash → Flash) : s.modFlash p f = s.modPart p (fun P => { P with store := { P.store with flash := f P.store.flash } }) := rfl

@[simp] theorem commit_pending (s : State) (now : Nat) (r : State) : (commit s now r).pending = s.pending := rfl
@[simp] theorem commit_now (s : State) (now : Nat) (r : State) : (commit s now r).now = now := rfl
@[simp] theorem commit_updates (s : State) (now : Nat) (r : State) : (commit s now r).updates = s.updates + 1 := rfl
@[simp] theorem commit_hw (s : State) (now : Nat) (r : State) : (commit s now r).hw = s.hw := rfl
@[simp] theorem commit_pkg (s : State) (now : Nat) (r : State) : (commit s now r).pkg = r.pkg := rfl
@[simp] theorem commit_pkgCauses (s : State) (now : Nat) (r : State) : (commit s now r).pkgCauses = r.pkgCauses := rfl
@[simp] theorem commit_parts (s : State) (now : Nat) (r : State) : (commit s now r).parts = r.parts := rfl
@[simp] theorem commit_stowed (s : State) (now : Nat) (r : State) : (commit s now r).stowed = r.stowed := rfl
@[simp] theorem commit_dies (s : State) (now : Nat) (r : State) : (commit s now r).dies = r.dies := rfl
@[simp] theorem commit_image (s : State) (now : Nat) (r : State) : (commit s now r).image = r.image := rfl
@[simp] theorem commit_sec (s : State) (now : Nat) (r : State) : (commit s now r).sec = r.sec := rfl
@[simp] theorem commit_ports (s : State) (now : Nat) (r : State) : (commit s now r).ports = r.ports := rfl
@[simp] theorem commit_configGen (s : State) (now : Nat) (r : State) : (commit s now r).configGen = r.configGen := rfl
@[simp] theorem commit_running (s : State) (now : Nat) (r : State) : (commit s now r).running = r.running := rfl
@[simp] theorem commit_heldEnds (s : State) (now : Nat) (r : State) : (commit s now r).heldEnds = r.heldEnds := rfl
@[simp] theorem commit_storeNv (s : State) (now : Nat) (r : State) : (commit s now r).storeNv = r.storeNv := rfl
@[simp] theorem commit_phys (s : State) (now : Nat) (r : State) : (commit s now r).phys = r.phys := rfl
@[simp] theorem commit_links (s : State) (now : Nat) (r : State) : (commit s now r).links = r.links := rfl
@[simp] theorem commit_pfc (s : State) (now : Nat) (r : State) : (commit s now r).pfc = r.pfc := rfl
@[simp] theorem commit_eapol (s : State) (now : Nat) (r : State) : (commit s now r).eapol = r.eapol := rfl
@[simp] theorem commit_time (s : State) (now : Nat) (r : State) : (commit s now r).time = r.time := rfl
@[simp] theorem commit_out (s : State) (now : Nat) (r : State) : (commit s now r).out = r.out := rfl
@[simp] theorem commit_svc_booted (s : State) (now : Nat) (r : State) : (commit s now r).svc.booted = r.svc.booted := rfl
@[simp] theorem commit_svc_fwStatus (s : State) (now : Nat) (r : State) : (commit s now r).svc.fwStatus = r.svc.fwStatus := rfl
@[simp] theorem commit_svc_bootAt (s : State) (now : Nat) (r : State) : (commit s now r).svc.bootAt = r.svc.bootAt := rfl
@[simp] theorem commit_svc_runningSvc (s : State) (now : Nat) (r : State) : (commit s now r).svc.runningSvc = r.svc.runningSvc := rfl
@[simp] theorem commit_svc_runningStew (s : State) (now : Nat) (r : State) : (commit s now r).svc.runningStew = r.svc.runningStew := rfl
@[simp] theorem commit_svc_log (s : State) (now : Nat) (r : State) : (commit s now r).svc.log = r.svc.log := rfl
@[simp] theorem commit_svc_watchdog (s : State) (now : Nat) (r : State) : (commit s now r).svc.watchdog = r.svc.watchdog := rfl
@[simp] theorem commit_svc_stewards (s : State) (now : Nat) (r : State) : (commit s now r).svc.stewards = r.svc.stewards := rfl
@[simp] theorem commit_svc_brownOut (s : State) (now : Nat) (r : State) : (commit s now r).svc.brownOut = r.svc.brownOut := rfl
@[simp] theorem commit_svc_sideband (s : State) (now : Nat) (r : State) : (commit s now r).svc.sideband = r.svc.sideband := rfl
@[simp] theorem commit_svc_tap (s : State) (now : Nat) (r : State) : (commit s now r).svc.tap = r.svc.tap := rfl
@[simp] theorem commit_svc_seqTable (s : State) (now : Nat) (r : State) : (commit s now r).svc.seqTable = r.svc.seqTable := rfl
@[simp] theorem commit_svc_seq (s : State) (now : Nat) (r : State) : (commit s now r).svc.seq = r.svc.seq := rfl
@[simp] theorem commit_svc_pins (s : State) (now : Nat) (r : State) : (commit s now r).svc.pins = r.svc.pins := rfl
@[simp] theorem commit_svc_avs (s : State) (now : Nat) (r : State) : (commit s now r).svc.avs = r.svc.avs := rfl
@[simp] theorem commit_svc_coreTarget (s : State) (now : Nat) (r : State) : (commit s now r).svc.coreTarget = r.svc.coreTarget := rfl
@[simp] theorem commit_svc_coreWriteAt (s : State) (now : Nat) (r : State) : (commit s now r).svc.coreWriteAt = r.svc.coreWriteAt := rfl
@[simp] theorem commit_svc_powerMw (s : State) (now : Nat) (r : State) : (commit s now r).svc.powerMw = r.svc.powerMw := rfl
@[simp] theorem commit_svc_thermal (s : State) (now : Nat) (r : State) : (commit s now r).svc.thermal = r.svc.thermal := rfl
@[simp] theorem commit_nv_anchorSector (s : State) (now : Nat) (r : State) : (commit s now r).svc.nv.anchorSector = r.svc.nv.anchorSector := rfl
@[simp] theorem commit_nv_anchorUsed (s : State) (now : Nat) (r : State) : (commit s now r).svc.nv.anchorUsed = r.svc.nv.anchorUsed := rfl
@[simp] theorem commit_nv_option (s : State) (now : Nat) (r : State) : (commit s now r).svc.nv.option = r.svc.nv.option := rfl
@[simp] theorem commit_nv_optionSector (s : State) (now : Nat) (r : State) : (commit s now r).svc.nv.optionSector = r.svc.nv.optionSector := rfl
@[simp] theorem commit_nv_optionUsed (s : State) (now : Nat) (r : State) : (commit s now r).svc.nv.optionUsed = r.svc.nv.optionUsed := rfl
@[simp] theorem commit_nv_journal (s : State) (now : Nat) (r : State) : (commit s now r).svc.nv.journal = r.svc.nv.journal := rfl
@[simp] theorem commit_nv_eraseCounts (s : State) (now : Nat) (r : State) : (commit s now r).svc.nv.eraseCounts = r.svc.nv.eraseCounts := rfl
@[simp] theorem commit_nv_erasing (s : State) (now : Nat) (r : State) : (commit s now r).svc.nv.erasing = r.svc.nv.erasing := rfl
@[simp] theorem commit_nv_eraseStopped (s : State) (now : Nat) (r : State) : (commit s now r).svc.nv.eraseStopped = r.svc.nv.eraseStopped := rfl
@[simp] theorem commit_nv_eraseEnd (s : State) (now : Nat) (r : State) : (commit s now r).svc.nv.eraseEnd = r.svc.nv.eraseEnd := rfl
@[simp] theorem commit_nv_svcFw (s : State) (now : Nat) (r : State) : (commit s now r).svc.nv.svcFw = r.svc.nv.svcFw := rfl
@[simp] theorem commit_nv_stewFw (s : State) (now : Nat) (r : State) : (commit s now r).svc.nv.stewFw = r.svc.nv.stewFw := rfl
@[simp] theorem commit_nv_certChain (s : State) (now : Nat) (r : State) : (commit s now r).svc.nv.certChain = r.svc.nv.certChain := rfl
@[simp] theorem commit_nv_watchdogDue (s : State) (now : Nat) (r : State) : (commit s now r).svc.nv.watchdogDue = r.svc.nv.watchdogDue := rfl
@[simp] theorem commit_anchors (s : State) (now : Nat) (r : State) : (commit s now r).svc.nv.anchors = keepAnchors s.svc.nv.anchors r.svc.nv.anchors := rfl

end Sys2Proof.Machine
end

