-- ==== Sys2Proof/Laws/Run.lean ====
section
/-! SUPPORT. What every command's run does to the clock, the queue, the fixed part of the hardware and the boot anchors. -/
namespace Sys2Proof.Machine
open Sys2Proof

@[simp] theorem State.upTo_pending (s : State) (t : Nat) : (s.upTo t).pending = s.pending := rfl
@[simp] theorem State.upTo_hw (s : State) (t : Nat) : (s.upTo t).hw = s.hw := rfl
@[simp] theorem State.upTo_pkg (s : State) (t : Nat) : (s.upTo t).pkg = s.pkg := rfl
@[simp] theorem State.upTo_pkgCauses (s : State) (t : Nat) : (s.upTo t).pkgCauses = s.pkgCauses := rfl
@[simp] theorem State.upTo_parts (s : State) (t : Nat) : (s.upTo t).parts = s.parts := rfl
@[simp] theorem State.upTo_stowed (s : State) (t : Nat) : (s.upTo t).stowed = s.stowed := rfl
@[simp] theorem State.upTo_dies (s : State) (t : Nat) : (s.upTo t).dies = s.dies := rfl
@[simp] theorem State.upTo_svc (s : State) (t : Nat) : (s.upTo t).svc = s.svc := rfl
@[simp] theorem State.upTo_image (s : State) (t : Nat) : (s.upTo t).image = s.image := rfl
@[simp] theorem State.upTo_sec (s : State) (t : Nat) : (s.upTo t).sec = s.sec := rfl
@[simp] theorem State.upTo_ports (s : State) (t : Nat) : (s.upTo t).ports = s.ports := rfl
@[simp] theorem State.upTo_configGen (s : State) (t : Nat) : (s.upTo t).configGen = s.configGen := rfl
@[simp] theorem State.upTo_running (s : State) (t : Nat) : (s.upTo t).running = s.running := rfl
@[simp] theorem State.upTo_heldEnds (s : State) (t : Nat) : (s.upTo t).heldEnds = s.heldEnds := rfl
@[simp] theorem State.upTo_storeNv (s : State) (t : Nat) : (s.upTo t).storeNv = s.storeNv := rfl
@[simp] theorem State.upTo_phys (s : State) (t : Nat) : (s.upTo t).phys = s.phys := rfl
@[simp] theorem State.upTo_links (s : State) (t : Nat) : (s.upTo t).links = s.links := rfl
@[simp] theorem State.upTo_pfc (s : State) (t : Nat) : (s.upTo t).pfc = s.pfc := rfl
@[simp] theorem State.upTo_eapol (s : State) (t : Nat) : (s.upTo t).eapol = s.eapol := rfl
@[simp] theorem State.upTo_time (s : State) (t : Nat) : (s.upTo t).time = s.time := rfl
@[simp] theorem State.upTo_out (s : State) (t : Nat) : (s.upTo t).out = s.out := rfl
@[simp] theorem State.upTo_now (s : State) (t : Nat) : (s.upTo t).now = decided t s := rfl
@[simp] theorem State.upTo_updates (s : State) (t : Nat) : (s.upTo t).updates = s.updates + 1 := rfl

theorem anchorsRise_refl (a : List Anchor) : anchorsRise a a = true := by
  unfold anchorsRise
  by_cases h : anchorOf a 1 = 2 <;> simp [h]

@[simp] theorem keepAnchors_self (a : List Anchor) : keepAnchors a a = a := by simp [keepAnchors, anchorsRise_refl]

/-- The boot anchors after a command may follow those before it. -/
theorem anchorsRise_keepAnchors (a b : List Anchor) : anchorsRise a (keepAnchors a b) = true := by
  unfold keepAnchors
  split
  · assumption
  · exact anchorsRise_refl a

/-- Every command that is run answers, with the committed result of its effect. -/
theorem run_eq (t : Nat) (s : State) (f : State → State) : run t s f = .next (commit s (decided t s) (f (s.upTo t))) := rfl

/-- An effect that leaves the clock, the count of updates, the hardware, the queue and the anchors alone is the whole next state. -/
theorem commit_of_kept {s r : State} {n : Nat} (hn : r.now = n) (hu : r.updates = s.updates + 1) (hh : r.hw = s.hw) (hp : r.pending = s.pending)
    (ha : r.svc.nv.anchors = s.svc.nv.anchors) : commit s n r = r := by
  unfold commit
  simp only [ha, keepAnchors_self, ← hn, ← hu, ← hh, ← hp]
  rw [← ha]

theorem run_of_kept {t : Nat} {s : State} {f : State → State} (hn : (f (s.upTo t)).now = decided t s) (hu : (f (s.upTo t)).updates = s.updates + 1) (hh : (f (s.upTo t)).hw = s.hw)
    (hp : (f (s.upTo t)).pending = s.pending) (ha : (f (s.upTo t)).svc.nv.anchors = s.svc.nv.anchors) : run t s f = .next (f (s.upTo t)) := by
  rw [run_eq, commit_of_kept hn hu hh hp ha]

theorem now_le_decided (t : Nat) (s : State) : s.now ≤ decided t s := Nat.le_max_left _ _

end Sys2Proof.Machine
end

