-- ==== Sys2Proof/Laws/Frames.lean ====
section
/-! SUPPORT. Frames of the shared operations, one lemma each: which parts of the state an operation may change; everything else is as before. -/
namespace Sys2Proof.Machine
open Sys2Proof

/-! ### The ports and what leaves the device -/

/-- Only the control ports and what left the device differ. -/
def KeepsButPorts (s u : State) : Prop := ∃ ps o, u = { s with ports := ps, out := o }

theorem KeepsButPorts.rfl {s : State} : KeepsButPorts s s := ⟨_, _, Eq.refl s⟩

theorem KeepsButPorts.trans {s u v : State} (h : KeepsButPorts s u) (k : KeepsButPorts u v) : KeepsButPorts s v := by
  obtain ⟨ps, o, rfl⟩ := h
  obtain ⟨qs, r, rfl⟩ := k
  exact ⟨qs, r, Eq.refl _⟩

/-- A fold whose every step changes only the ports and what left changes nothing else. -/
theorem KeepsButPorts.foldl {α : Type} {f : State → α → State} (h : ∀ s a, KeepsButPorts s (f s a)) (l : List α) (s : State) : KeepsButPorts s (l.foldl f s) := by
  induction l generalizing s with
  | nil => exact KeepsButPorts.rfl
  | cons a l ih => exact (h s a).trans (ih (f s a))

theorem send_frame (s : State) (o : Out) : KeepsButPorts s (s.send o) := ⟨s.ports, _, rfl⟩

theorem modPort_frame (s : State) (i : Nat) (f : CtlPort → CtlPort) : KeepsButPorts s (s.modPort i f) := ⟨_, s.out, rfl⟩

theorem modRing_frame (s : State) (i : Nat) (r : RingId) (f : RingSt → RingSt) : KeepsButPorts s (s.modRing i r f) := by
  unfold State.modRing; exact modPort_frame s i _

theorem reach_frame (s : State) (i : Nat) : KeepsButPorts s (s.reach i) := modPort_frame s i _

theorem raiseVector_frame (s : State) (i v : Nat) : KeepsButPorts s (s.raiseVector i v) := by
  unfold State.raiseVector
  repeat' split
  · exact .rfl
  · exact .rfl
  · exact send_frame s _
  · exact modPort_frame s i _

theorem writeEvent_frame (s : State) (i typ : Nat) (b : List Byte) : KeepsButPorts s (s.writeEvent i typ b) := by
  unfold State.writeEvent
  split
  · exact .rfl
  · exact ((modPort_frame s i _).trans (send_frame _ _)).trans (raiseVector_frame _ i 1)

theorem writeLost_frame (s : State) (i : Nat) : KeepsButPorts s (s.writeLost i) := by
  unfold State.writeLost
  repeat' split
  · exact .rfl
  · exact .rfl
  · exact (writeEvent_frame s i _ _).trans (modPort_frame _ i _)

theorem headFirst_frame (s : State) (i : Nat) : KeepsButPorts s (s.headFirst i) := by
  unfold State.headFirst
  split
  · exact modPort_frame s i _
  · exact .rfl

theorem portEvent_frame (s : State) (i typ : Nat) (b : List Byte) : KeepsButPorts s (s.portEvent i typ b) := by
  unfold State.portEvent
  refine ((headFirst_frame s i).trans (writeLost_frame _ i)).trans ?_
  dsimp only
  repeat' split
  · exact .rfl
  · exact .rfl
  · exact modPort_frame _ i _
  · exact writeEvent_frame _ i typ b

theorem event_frame (s : State) (typ : Nat) (b : List Byte) : KeepsButPorts s (s.event typ b) :=
  (portEvent_frame s 0 typ b).trans (portEvent_frame _ 1 typ b)

theorem intEvent_frame (s : State) (i mask : Nat) (p : CtlPort) : KeepsButPorts s (s.intEvent i mask p) := by
  unfold State.intEvent
  split
  · exact ⟨s.ports, _, Eq.refl _⟩
  · exact (portEvent_frame s i 3 _).trans (modPort_frame _ i _)

theorem signal_frame (s : State) (i mask : Nat) : KeepsButPorts s (s.signal i mask) := by
  unfold State.signal
  repeat' split
  · exact .rfl
  · exact .rfl
  · exact (intEvent_frame s i mask _).trans (KeepsButPorts.foldl (fun s c => raiseVector_frame s i _) _ _)

theorem intPort_frame (s : State) (i : Nat) (c : IntCause) : KeepsButPorts s (s.intPort i c) := by
  unfold State.intPort
  split
  · exact .rfl
  · dsimp only
    split
    · exact (modPort_frame s i _).trans (signal_frame _ i _)
    · exact modPort_frame s i _

theorem int_frame (s : State) (c : IntCause) : KeepsButPorts s (s.int c) := (intPort_frame s 0 c).trans (intPort_frame _ 1 c)

/-! ### The service die -/

/-- Only the service die differs. -/
def KeepsButSvc (s u : State) : Prop := ∃ v, u = { s with svc := v }

theorem KeepsButSvc.rfl {s : State} : KeepsButSvc s s := ⟨_, Eq.refl s⟩

theorem KeepsButSvc.trans {s u v : State} (h : KeepsButSvc s u) (k : KeepsButSvc u v) : KeepsButSvc s v := by
  obtain ⟨x, rfl⟩ := h
  obtain ⟨y, rfl⟩ := k
  exact ⟨y, Eq.refl _⟩

theorem modSvc_frame (s : State) (f : Service → Service) : KeepsButSvc s (s.modSvc f) := ⟨_, rfl⟩

theorem modSb_frame (s : State) (f : Sideband → Sideband) : KeepsButSvc s (s.modSb f) := ⟨_, rfl⟩

theorem modTap_frame (s : State) (f : Tap → Tap) : KeepsButSvc s (s.modTap f) := ⟨_, rfl⟩

theorem modNv_frame (s : State) (f : Nv → Nv) : KeepsButSvc s (s.modNv f) := ⟨_, rfl⟩

theorem ibi_frame (s : State) (c : Nat) : KeepsButSvc s (s.ibi c) := ⟨_, rfl⟩

/-- Only the logbook differs. -/
def KeepsButLog (s u : State) : Prop := ∃ l, u = { s with svc := { s.svc with log := l } }

theorem KeepsButLog.trans {s u v : State} (h : KeepsButLog s u) (k : KeepsButLog u v) : KeepsButLog s v := by
  obtain ⟨x, rfl⟩ := h
  obtain ⟨y, rfl⟩ := k
  exact ⟨y, Eq.refl _⟩

theorem KeepsButLog.svc {s u : State} (h : KeepsButLog s u) : KeepsButSvc s u := by
  obtain ⟨l, rfl⟩ := h
  exact ⟨_, Eq.refl _⟩

theorem modLog_frame (s : State) (f : Logbook → Logbook) : KeepsButLog s (s.modLog f) := ⟨_, rfl⟩

theorem logRolling_frame (s : State) (r : LogRec) : KeepsButLog s (logRolling s r) := by
  unfold logRolling
  dsimp only
  repeat' split
  all_goals exact modLog_frame s _

theorem logPermanent_frame (s : State) (r : LogRec) : KeepsButLog s (logPermanent s r) := by
  unfold logPermanent
  dsimp only
  repeat' split
  · exact logRolling_frame s _
  · exact (modLog_frame s _).trans (modLog_frame _ _)
  · exact modLog_frame s _

theorem log_frame (s : State) (c : LogCode) (src : LogSrc) (b : List Byte) : KeepsButLog s (s.log c src b) := by
  unfold State.log
  dsimp only
  repeat' split
  · exact (modLog_frame s _).trans (logPermanent_frame _ _)
  all_goals first
    | exact ((modLog_frame s _).trans (modLog_frame _ _)).trans (logRolling_frame _ _)
    | exact (modLog_frame s _).trans (modLog_frame _ _)

theorem wearCheck_frame (s : State) (x : Nat) : KeepsButSvc s (s.wearCheck x) := by
  unfold State.wearCheck
  split
  · exact (log_frame s _ _ _).svc
  · exact .rfl

theorem nvErase_frame (s : State) (x r : Nat) : KeepsButSvc s (s.nvErase x r) := (modNv_frame s _).trans (wearCheck_frame _ x)

theorem writeOption_frame (s : State) (f : OptionRec → OptionRec) : KeepsButSvc s (s.writeOption f) := by
  unfold State.writeOption
  dsimp only
  split
  · exact modNv_frame s _
  · exact ((nvErase_frame s _ 1).trans (modNv_frame _ _)).trans (modNv_frame _ _)

theorem addAnchor_frame (s : State) (typ value : Nat) : KeepsButSvc s (s.addAnchor typ value) := by
  unfold State.addAnchor
  dsimp only
  split
  · exact .rfl
  · split
    · exact modNv_frame s _
    · exact ((nvErase_frame s _ 1).trans (modNv_frame _ _)).trans (modNv_frame _ _)

/-! ### The ends of commands -/

/-- Only the outcomes that wait at the ports and the mailbox differ. -/
def KeepsButEnds (s u : State) : Prop := ∃ ps b, u = { s with ports := ps, svc := { s.svc with sideband := b } }

theorem finishWith_frame (s : State) (c : CmdRef) (op : Nat) (st : Status) (d : Nat) (b : List Byte) (g : Bool) :
    KeepsButEnds s (s.finishWith c op st d b g) := by
  unfold State.finishWith
  dsimp only
  repeat' split
  · exact ⟨_, s.svc.sideband, rfl⟩
  · exact ⟨s.ports, _, rfl⟩
  · exact ⟨s.ports, s.svc.sideband, rfl⟩

theorem finish_frame (s : State) (c : CmdRef) (op : Nat) (st : Status) (b : List Byte) : KeepsButEnds s (s.finish c op st b) := finishWith_frame s c op st 0 b false

theorem finishCfg_frame (s : State) (c : CmdRef) (op : Nat) (st : Status) (b : List Byte) : KeepsButEnds s (s.finishCfg c op st b) := finishWith_frame s c op st 0 b true

/-- What the end of a command adds: its outcome, last in its submitter's list. -/
theorem finishWith_outcomes (s : State) (c : CmdRef) (op : Nat) (st : Status) (b : List Byte) (g : Bool) (h : s.canEnd c = true) :
    (s.finishWith c op st 0 b g).outcomes c.port = s.outcomes c.port ++ [outcome c op st b g] := by
  unfold State.finishWith State.outcomes State.canEnd at *
  by_cases hc : c.port < 2
  · simp [hc] at h ⊢
    rw [modNth_get_same]
    rcases h with h | h
    · cases hq : s.ports[c.port]? <;> simp_all [outcome]
    · omega
  · simp [hc] at h ⊢
    simp [h, outcome]

theorem startRunning_frame (s : State) (c : CmdRef) (op : Nat) (l : LongOp) : ∃ r, s.startRunning c op l = { s with running := s.running ++ [r] } := ⟨_, rfl⟩

/-! ### Parts of the state that one operation alone changes -/

/-- Only the partitions differ. -/
def KeepsButParts (s u : State) : Prop := ∃ ps, u = { s with parts := ps }

theorem modPart_frame (s : State) (p : Nat) (f : Part → Part) : KeepsButParts s (s.modPart p f) := ⟨_, rfl⟩

theorem addCause_frame (s : State) (p : Nat) (c : Cause) : KeepsButParts s (s.addCause p c) := ⟨_, rfl⟩

theorem modQp_frame (s : State) (q : BitVec 24) (f : Qp → Qp) : ∃ ds, s.modQp q f = { s with dies := ds } := by
  unfold State.modQp
  split
  · exact ⟨_, rfl⟩
  · exact ⟨s.dies, rfl⟩

theorem closeScopes_frame (s : State) : ∃ x, s.closeScopes = { s with sec := x } := ⟨_, rfl⟩

theorem calTrigger_frame (s : State) (e : PhyId) (w : CalWhy) : ∃ x, s.calTrigger e w = { s with phys := x } := ⟨_, rfl⟩

/-- A MODE_CHANGE record reaches the logbook, both ports and the sideband, and nothing else. -/
theorem modeRecord_frame (s : State) (src : LogSrc) (b0 a b : Nat) (c : Cause) (l : List Cause) :
    ∃ v ps o, s.modeRecord src b0 a b c l = { s with svc := v, ports := ps, out := o } := by
  unfold State.modeRecord
  dsimp only
  generalize natLE 1 b0 ++ natLE 1 a ++ natLE 1 b ++ natLE 1 c.code ++ natLE 4 (causeMask l) ++ natLE 8 (if s.time.everLocked then fab s else 0) = body
  obtain ⟨v, hv⟩ := (log_frame s .modeChange src body).svc
  rw [hv]
  obtain ⟨ps, o, hp⟩ := (event_frame { s with svc := v } 2 body).trans (int_frame _ .modeChange)
  rw [hp]
  exact ⟨_, ps, o, rfl⟩

/-! ### Storage -/

/-- Only the entry of one partition differs. -/
def KeepsButPart (p : Nat) (s u : State) : Prop := ∃ f, u = s.modPart p f

theorem KeepsButPart.rfl {p : Nat} {s : State} : KeepsButPart p s s := ⟨id, by simp [State.modPart, aupd_id]⟩

theorem KeepsButPart.trans {p : Nat} {s u v : State} (h : KeepsButPart p s u) (k : KeepsButPart p u v) : KeepsButPart p s v := by
  obtain ⟨f, rfl⟩ := h
  obtain ⟨g, rfl⟩ := k
  exact ⟨fun x => g (f x), by simp [State.modPart, aupd_aupd]⟩

theorem KeepsButPart.other {p q : Nat} {s u : State} (h : KeepsButPart p s u) (hq : q ≠ p) : u.part? q = s.part? q := by
  obtain ⟨f, rfl⟩ := h
  simp [State.part?, State.modPart, aget_aupd_other _ _ hq]

theorem modStore_frame (s : State) (p : Nat) (f : StoreP → StoreP) : KeepsButPart p s (s.modStore p f) := ⟨_, rfl⟩

theorem modRemote_frame (s : State) (p : Nat) (f : RemoteP → RemoteP) : KeepsButPart p s (s.modRemote p f) := ⟨_, rfl⟩

theorem modBrick_frame (s : State) (p b : Nat) (f : Brick → Brick) : KeepsButPart p s (s.modBrick p b f) := ⟨_, rfl⟩

theorem modPage_frame (s : State) (p b g : Nat) (f : Page → Page) : KeepsButPart p s (s.modPage p b g f) := ⟨_, rfl⟩

theorem track_frame (s : State) (p table entry : Nat) : KeepsButPart p s (s.track p table entry) := ⟨_, rfl⟩

theorem release_frame (s : State) (p n : Nat) : KeepsButPart p s (s.release p n) := ⟨_, rfl⟩

theorem settleCharge_frame (s : State) (p b g : Nat) : KeepsButPart p s (s.settleCharge p b g) := by
  unfold State.settleCharge
  dsimp only
  split
  · exact modPage_frame s p b g _
  · exact release_frame s p 1

theorem writePage_frame (s : State) (p b g : Nat) (data : Memory) : KeepsButPart p s (s.writePage p b g data) := ⟨_, rfl⟩

theorem remember_frame (s : State) (p b g k : Nat) : KeepsButPart p s (s.remember p b g k) := by
  unfold State.remember
  split
  · exact .rfl
  · exact modStore_frame s p _

/-- Once a grout way has been found, a placement of a line changes its partition alone. -/
theorem putLine_frame (s : State) (p b g k : Nat) (new : List Byte) : KeepsButPart p (s.groutWay p b g) (s.putLine p b g k new) :=
  (modStore_frame (s.groutWay p b g) p _).trans (remember_frame _ p b g k)

theorem setDirty_frame (s : State) (p b g : Nat) : KeepsButPart p s (s.setDirty p b g) := ⟨_, rfl⟩

theorem zeroFill_frame (s : State) (p b g : Nat) (e : Bool) : KeepsButPart p s (s.zeroFill p b g e) := by
  unfold State.zeroFill
  split
  · exact .rfl
  · dsimp only
    split
    · exact (((modBrick_frame s p b _).trans (track_frame _ p 3 _)).trans (writePage_frame _ p b g _)).trans (modBrick_frame _ p b _)
    · exact (writePage_frame s p b g _).trans (modBrick_frame _ p b _)

theorem unlist_frame (s : State) (p b g : Nat) : ∃ l, s.unlist p b g = { s with storeNv := l } := by
  exact ⟨_, rfl⟩

theorem meter_frame (s : State) (p die tenant idx n : Nat) : ∃ ds, s.meter p die tenant idx n = { s with dies := ds } := by
  unfold State.meter
  split
  · exact ⟨_, rfl⟩
  · exact ⟨s.dies, rfl⟩

theorem poison_frame (s : State) (p b g : Nat) : KeepsButPart p s (s.poison p b g) := by
  unfold State.poison
  dsimp only
  split
  · exact .rfl
  · exact (modStore_frame s p _).trans (release_frame _ p _)

end Sys2Proof.Machine
end

