-- ==== Sys2Proof/Laws/Memory.lean ====
section
/-! SUPPORT. The sparse byte storage: reading after writing, and that every operation keeps the canonical form. -/
namespace Sys2Proof.Machine
open Sys2Proof

@[simp] theorem Memory.wf_nil : Memory.wf [] = true := rfl

theorem Memory.wf_cons (c : Nat × Byte) (m : Memory) :
    Memory.wf (c :: m) = true ↔ c.2 ≠ 0 ∧ (∀ d ∈ m.head?, c.1 < d.1) ∧ Memory.wf m = true := by
  cases m with
  | nil => simp [Memory.wf]
  | cons d rest => simp [Memory.wf, and_assoc]

/-- Of a canonical storage, every address lies above the first. -/
theorem Memory.wf_head_lt {c : Nat × Byte} {m : Memory} (h : Memory.wf (c :: m) = true) : ∀ d ∈ m, c.1 < d.1 := by
  induction m generalizing c with
  | nil => simp
  | cons e rest ih =>
    obtain ⟨-, hlt, hw⟩ := (Memory.wf_cons _ _).1 h
    intro d hd
    have hce : c.1 < e.1 := hlt e (by simp)
    rcases List.mem_cons.1 hd with rfl | hd
    · exact hce
    · exact Nat.lt_trans hce (ih hw d hd)

/-- An entry in front of a canonical storage whose addresses all lie above it. -/
theorem Memory.wf_cons_of_lt {c : Nat × Byte} {m : Memory} (hc : c.2 ≠ 0) (hlt : ∀ d ∈ m, c.1 < d.1) (hw : Memory.wf m = true) :
    Memory.wf (c :: m) = true :=
  (Memory.wf_cons _ _).2 ⟨hc, fun d hd => hlt d (List.mem_of_mem_head? hd), hw⟩

theorem Memory.wf_tail {c : Nat × Byte} {m : Memory} (h : Memory.wf (c :: m) = true) : Memory.wf m = true := ((Memory.wf_cons _ _).1 h).2.2

theorem Memory.wf_ne {c : Nat × Byte} {m : Memory} (h : Memory.wf (c :: m) = true) : c.2 ≠ 0 := ((Memory.wf_cons _ _).1 h).1

/-- The entries of a write are those of the storage and the new one. -/
theorem Memory.mem_write {m : Memory} {x : Nat} {v : Byte} {d : Nat × Byte} (h : d ∈ Memory.write m x v) : d ∈ m ∨ d = (x, v) := by
  induction m with
  | nil =>
    unfold Memory.write at h
    split at h
    · exact absurd h (List.not_mem_nil)
    · exact .inr (List.mem_singleton.1 h)
  | cons e rest ih =>
    obtain ⟨a, b⟩ := e
    unfold Memory.write at h
    split at h
    · split at h
      · exact .inl h
      · exact (List.mem_cons.1 h).symm
    · split at h
      · split at h
        · exact .inl (List.mem_cons_of_mem _ h)
        · exact (List.mem_cons.1 h).elim .inr (fun h => .inl (List.mem_cons_of_mem _ h))
      · rcases List.mem_cons.1 h with rfl | h
        · exact .inl List.mem_cons_self
        · exact (ih h).imp (List.mem_cons_of_mem _) id

/-- A write keeps the canonical form. -/
theorem Memory.wf_write {m : Memory} (h : Memory.wf m = true) (x : Nat) (v : Byte) : Memory.wf (Memory.write m x v) = true := by
  induction m with
  | nil => unfold Memory.write; split <;> simp_all [Memory.wf]
  | cons e rest ih =>
    obtain ⟨a, b⟩ := e
    have hlt := Memory.wf_head_lt h
    unfold Memory.write
    split
    · split
      · exact h
      · rename_i hxa hv
        refine Memory.wf_cons_of_lt hv (fun d hd => ?_) h
        rcases List.mem_cons.1 hd with rfl | hd
        · exact hxa
        · exact Nat.lt_trans hxa (hlt d hd)
    · split
      · split
        · exact Memory.wf_tail h
        · rename_i hxa hv
          exact Memory.wf_cons_of_lt hv (fun d hd => hxa ▸ hlt d hd) (Memory.wf_tail h)
      · rename_i h1 h2
        refine Memory.wf_cons_of_lt (Memory.wf_ne h) (fun d hd => ?_) (ih (Memory.wf_tail h))
        rcases Memory.mem_write hd with hd | rfl
        · exact hlt d hd
        · show a < x
          omega

theorem Memory.wf_writeN {m : Memory} (h : Memory.wf m = true) (x : Nat) (bs : List Byte) : Memory.wf (Memory.writeN m x bs) = true := by
  induction bs generalizing m x with
  | nil => exact h
  | cons b bs ih => exact ih (Memory.wf_write h x b) (x + 1)

/-- Any selection of entries keeps the canonical form. -/
theorem Memory.wf_filter {m : Memory} (h : Memory.wf m = true) (p : Nat × Byte → Bool) : Memory.wf (m.filter p) = true := by
  induction m with
  | nil => rfl
  | cons c rest ih =>
    by_cases hp : p c = true
    · rw [List.filter_cons_of_pos hp]
      exact Memory.wf_cons_of_lt (Memory.wf_ne h) (fun d hd => Memory.wf_head_lt h d (List.mem_filter.1 hd).1) (ih (Memory.wf_tail h))
    · rw [List.filter_cons_of_neg hp]
      exact ih (Memory.wf_tail h)

theorem Memory.wf_clear {m : Memory} (h : Memory.wf m = true) (lo n : Nat) : Memory.wf (Memory.clear m lo n) = true := Memory.wf_filter h _

/-- Moving entries that lie at or above `lo` down by `lo` keeps the canonical form. -/
theorem Memory.wf_shift {m : Memory} (h : Memory.wf m = true) (lo : Nat) (hlo : ∀ c ∈ m, lo ≤ c.1) :
    Memory.wf (m.map (fun c => (c.1 - lo, c.2))) = true := by
  induction m with
  | nil => rfl
  | cons c rest ih =>
    have hne : c.2 ≠ 0 := Memory.wf_ne h
    refine Memory.wf_cons_of_lt hne (fun d hd => ?_) (ih (Memory.wf_tail h) (fun e he => hlo e (by simp [he])))
    obtain ⟨e, he, rfl⟩ := List.mem_map.1 hd
    have h1 := Memory.wf_head_lt h e he
    have h2 := hlo c (by simp)
    show c.1 - lo < e.1 - lo
    omega

theorem Memory.wf_extract {m : Memory} (h : Memory.wf m = true) (lo n : Nat) : Memory.wf (Memory.extract m lo n) = true :=
  Memory.wf_shift (Memory.wf_filter h _) lo (fun c hc => by have := (List.mem_filter.1 hc).2; simp at this; exact this.1)

theorem Memory.wf_xorIn {m : Memory} (h : Memory.wf m = true) (lo : Nat) (o : Memory) : Memory.wf (Memory.xorIn m lo o) = true := by
  induction o generalizing m with
  | nil => exact h
  | cons c rest ih => exact ih (Memory.wf_write h _ _)

/-- Below its first address a canonical storage reads 0. -/
theorem Memory.read_below {m : Memory} {x : Nat} (h : ∀ d ∈ m, x < d.1) : Memory.read m x = 0 := by
  induction m with
  | nil => rfl
  | cons c rest ih =>
    have hc := h c (by simp)
    unfold Memory.read
    rw [if_neg (by omega)]
    exact ih (fun d hd => h d (by simp [hd]))

/-- A read of the address just written gives the byte written. -/
theorem Memory.read_write_same {m : Memory} (h : Memory.wf m = true) (x : Nat) (v : Byte) : Memory.read (Memory.write m x v) x = v := by
  induction m with
  | nil => unfold Memory.write; split <;> simp_all [Memory.read]
  | cons e rest ih =>
    obtain ⟨a, b⟩ := e
    have hlt := Memory.wf_head_lt h
    unfold Memory.write
    split
    · rename_i hxa
      split
      · rename_i hv
        rw [hv]
        refine Memory.read_below (fun d hd => ?_)
        rcases List.mem_cons.1 hd with rfl | hd
        · exact hxa
        · exact Nat.lt_trans hxa (hlt d hd)
      · simp [Memory.read]
    · split
      · rename_i hxa
        split
        · rename_i hv
          rw [hv]
          exact Memory.read_below (fun d hd => hxa ▸ hlt d hd)
        · simp [Memory.read]
      · rename_i h1 h2
        unfold Memory.read
        rw [if_neg (fun hh => h2 hh.symm)]
        exact ih (Memory.wf_tail h)

/-- A write leaves every other address as it read. -/
theorem Memory.read_write_other (m : Memory) {x y : Nat} (v : Byte) (hxy : y ≠ x) : Memory.read (Memory.write m x v) y = Memory.read m y := by
  induction m with
  | nil => unfold Memory.write; split <;> simp [Memory.read, hxy.symm]
  | cons e rest ih =>
    obtain ⟨a, b⟩ := e
    unfold Memory.write
    split
    · split
      · rfl
      · simp [Memory.read, hxy.symm]
    · split
      · rename_i hxa
        subst hxa
        split <;> simp [Memory.read, hxy.symm]
      · simp only [Memory.read]
        split
        · rfl
        · exact ih

end Sys2Proof.Machine
end

