-- ==== Sys2Proof/Laws/PerInstr.lean ====
section
/-! SUPPORT. What holds of every command, one lemma per constructor: its meaning runs one effect on its decision cycle. -/
namespace Sys2Proof.Laws.Runs
open Sys2Proof Sys2Proof.Machine

/-- The command's meaning is one effect, run on a cycle that the command names. -/
def Statement (i : Instr) : Prop := ∀ s : State, ∃ (t : Nat) (f : State → State), exec i s = run t s f

theorem rdmaWrite (t : Nat) (p : Pkt) : Statement (.rdmaWrite t p) := fun s => ⟨t, _, by unfold exec execRdmaWrite; rfl⟩
theorem rdmaWriteWithImmediate (t : Nat) (p : Pkt) (imm : BitVec 32) : Statement (.rdmaWriteWithImmediate t p imm) := fun s => ⟨t, _, by unfold exec execRdmaWriteWithImmediate; rfl⟩
theorem rdmaReadRequest (t : Nat) (p : Pkt) : Statement (.rdmaReadRequest t p) := fun s => ⟨t, _, by unfold exec execRdmaReadRequest; rfl⟩
theorem compareSwap (t : Nat) (p : Pkt) (cmp : BitVec 64) (swp : BitVec 64) : Statement (.compareSwap t p cmp swp) := fun s => ⟨t, _, by unfold exec execCompareSwap; rfl⟩
theorem fetchAdd (t : Nat) (p : Pkt) (add : BitVec 64) : Statement (.fetchAdd t p add) := fun s => ⟨t, _, by unfold exec execFetchAdd; rfl⟩
theorem atomicWrite (t : Nat) (p : Pkt) : Statement (.atomicWrite t p) := fun s => ⟨t, _, by unfold exec execAtomicWrite; rfl⟩
theorem flush (t : Nat) (p : Pkt) (sel : BitVec 4) (bits : BitVec 2) : Statement (.flush t p sel bits) := fun s => ⟨t, _, by unfold exec execFlush; rfl⟩
theorem send (t : Nat) (p : Pkt) : Statement (.send t p) := fun s => ⟨t, _, by unfold exec execSend; rfl⟩
theorem cnp (t : Nat) (f : QpFrame) : Statement (.cnp t f) := fun s => ⟨t, _, by unfold exec execCnp; rfl⟩
theorem rateIncrease (t : Nat) (qpn : BitVec 24) : Statement (.rateIncrease t qpn) := fun s => ⟨t, _, by unfold exec execRateIncrease; rfl⟩
theorem cmReq (t : Nat) (r : CmReq) : Statement (.cmReq t r) := fun s => ⟨t, _, by unfold exec execCmReq; rfl⟩
theorem cmRtu (t : Nat) (f : QpFrame) : Statement (.cmRtu t f) := fun s => ⟨t, _, by unfold exec execCmRtu; rfl⟩
theorem cmDreq (t : Nat) (f : QpFrame) : Statement (.cmDreq t f) := fun s => ⟨t, _, by unfold exec execCmDreq; rfl⟩
theorem cmDrep (t : Nat) (f : QpFrame) : Statement (.cmDrep t f) := fun s => ⟨t, _, by unfold exec execCmDrep; rfl⟩
theorem repResend (t : Nat) (qpn : BitVec 24) : Statement (.repResend t qpn) := fun s => ⟨t, _, by unfold exec execRepResend; rfl⟩
theorem closingTimeout (t : Nat) (qpn : BitVec 24) : Statement (.closingTimeout t qpn) := fun s => ⟨t, _, by unfold exec execClosingTimeout; rfl⟩
theorem timewaitExpiry (t : Nat) (qpn : BitVec 24) : Statement (.timewaitExpiry t qpn) := fun s => ⟨t, _, by unfold exec execTimewaitExpiry; rfl⟩
theorem ackCoalesce (t : Nat) (qpn : BitVec 24) : Statement (.ackCoalesce t qpn) := fun s => ⟨t, _, by unfold exec execAckCoalesce; rfl⟩
theorem budgetAccept (t : Nat) (part : Nat) (die : Nat) : Statement (.budgetAccept t part die) := fun s => ⟨t, _, by unfold exec execBudgetAccept; rfl⟩
theorem budgetWait (t : Nat) (part : Nat) (die : Nat) : Statement (.budgetWait t part die) := fun s => ⟨t, _, by unfold exec execBudgetWait; rfl⟩
theorem budgetRecompute (t : Nat) : Statement (.budgetRecompute t) := fun s => ⟨t, _, by unfold exec execBudgetRecompute; rfl⟩
theorem placement (t : Nat) (part : Nat) (op : Nat) : Statement (.placement t part op) := fun s => ⟨t, _, by unfold exec execPlacement; rfl⟩
theorem flushResponse (t : Nat) (qpn : BitVec 24) (psn : BitVec 24) : Statement (.flushResponse t qpn psn) := fun s => ⟨t, _, by unfold exec execFlushResponse; rfl⟩
theorem qpFlushComplete (t : Nat) (qpn : BitVec 24) : Statement (.qpFlushComplete t qpn) := fun s => ⟨t, _, by unfold exec execQpFlushComplete; rfl⟩
theorem serviceMsgDequeue (t : Nat) (part : Nat) (tenant : Nat) : Statement (.serviceMsgDequeue t part tenant) := fun s => ⟨t, _, by unfold exec execServiceMsgDequeue; rfl⟩
theorem statusRecordPlace (t : Nat) (part : Nat) : Statement (.statusRecordPlace t part) := fun s => ⟨t, _, by unfold exec execStatusRecordPlace; rfl⟩
theorem hostHamperPost (t : Nat) (part : Nat) (tenant : Nat) : Statement (.hostHamperPost t part tenant) := fun s => ⟨t, _, by unfold exec execHostHamperPost; rfl⟩
theorem hostHamperCancel (t : Nat) (part : Nat) (tenant : Nat) : Statement (.hostHamperCancel t part tenant) := fun s => ⟨t, _, by unfold exec execHostHamperCancel; rfl⟩
theorem hostHamperQuery (t : Nat) (part : Nat) (tenant : Nat) : Statement (.hostHamperQuery t part tenant) := fun s => ⟨t, _, by unfold exec execHostHamperQuery; rfl⟩
theorem linkDown (t : Nat) (port : Nat) (brk : Nat) : Statement (.linkDown t port brk) := fun s => ⟨t, _, by unfold exec execLinkDown; rfl⟩
theorem linkLost (t : Nat) (port : Nat) (brk : Nat) : Statement (.linkLost t port brk) := fun s => ⟨t, _, by unfold exec execLinkLost; rfl⟩
theorem linkUp (t : Nat) (port : Nat) (brk : Nat) : Statement (.linkUp t port brk) := fun s => ⟨t, _, by unfold exec execLinkUp; rfl⟩
theorem revokeForced (t : Nat) (part : Nat) (idx : Nat) : Statement (.revokeForced t part idx) := fun s => ⟨t, _, by unfold exec execRevokeForced; rfl⟩
theorem correctiveWrite (t : Nat) (part : Nat) (fr : Nat × Nat) (page : Nat) (k : Nat) : Statement (.correctiveWrite t part fr page k) := fun s => ⟨t, _, by unfold exec execCorrectiveWrite; rfl⟩
theorem correctiveReread (t : Nat) (part : Nat) (fr : Nat × Nat) (page : Nat) (k : Nat) (err : List RawErr) : Statement (.correctiveReread t part fr page k err) := fun s => ⟨t, _, by unfold exec execCorrectiveReread; rfl⟩
theorem pageRebuild (t : Nat) (part : Nat) (brick : Nat) (page : Nat) : Statement (.pageRebuild t part brick page) := fun s => ⟨t, _, by unfold exec execPageRebuild; rfl⟩
theorem groutWriteback (t : Nat) (part : Nat) (brick : Nat) (page : Nat) (why : GroutWhy) : Statement (.groutWriteback t part brick page why) := fun s => ⟨t, _, by unfold exec execGroutWriteback; rfl⟩
theorem parityRecompute (t : Nat) (part : Nat) (brick : Nat) (page : Nat) : Statement (.parityRecompute t part brick page) := fun s => ⟨t, _, by unfold exec execParityRecompute; rfl⟩
theorem evacuateFrame (t : Nat) (part : Nat) (course : Nat) (frame : Nat) : Statement (.evacuateFrame t part course frame) := fun s => ⟨t, _, by unfold exec execEvacuateFrame; rfl⟩
theorem patrolRead (t : Nat) (part : Nat) (course : Nat) (err : List RawErr) : Statement (.patrolRead t part course err) := fun s => ⟨t, _, by unfold exec execPatrolRead; rfl⟩
theorem refresh (t : Nat) (die : Nat) (ch : Nat) (rank : Nat) (class2 : Bool) (idle : Bool) : Statement (.refresh t die ch rank class2 idle) := fun s => ⟨t, _, by unfold exec execRefresh; rfl⟩
theorem rfm (t : Nat) (die : Nat) (ch : Nat) (sub : Nat) (rank : Nat) (b : BankActs) : Statement (.rfm t die ch sub rank b) := fun s => ⟨t, _, by unfold exec execRfm; rfl⟩
theorem rowHammerRfm (t : Nat) (die : Nat) (ch : Nat) (sub : Nat) (rank : Nat) (bank : Nat) (rows : List Nat) : Statement (.rowHammerRfm t die ch sub rank bank rows) := fun s => ⟨t, _, by unfold exec execRowHammerRfm; rfl⟩
theorem activateTableReset (t : Nat) : Statement (.activateTableReset t) := fun s => ⟨t, _, by unfold exec execActivateTableReset; rfl⟩
theorem dimmTempSample (t : Nat) (die : Nat) (ch : Nat) (slot : Nat) (temps : List Int) (ok : Bool) : Statement (.dimmTempSample t die ch slot temps ok) := fun s => ⟨t, _, by unfold exec execDimmTempSample; rfl⟩
theorem thermalExitReturn (t : Nat) (die : Nat) (ch : Nat) : Statement (.thermalExitReturn t die ch) := fun s => ⟨t, _, by unfold exec execThermalExitReturn; rfl⟩
theorem sidebandLost (t : Nat) (die : Nat) (ch : Nat) (slot : Nat) : Statement (.sidebandLost t die ch slot) := fun s => ⟨t, _, by unfold exec execSidebandLost; rfl⟩
theorem pmicStatusRead (t : Nat) (die : Nat) (ch : Nat) (slot : Nat) (status : BitVec 8) (fail : Bool) : Statement (.pmicStatusRead t die ch slot status fail) := fun s => ⟨t, _, by unfold exec execPmicStatusRead; rfl⟩
theorem calibrationTrigger (t : Nat) (phy : PhyId) (why : CalCause) : Statement (.calibrationTrigger t phy why) := fun s => ⟨t, _, by unfold exec execCalibrationTrigger; rfl⟩
theorem calibrationRun (t : Nat) (phy : PhyId) (run : CalMeas) : Statement (.calibrationRun t phy run) := fun s => ⟨t, _, by unfold exec execCalibrationRun; rfl⟩
theorem calibrationWindow (t : Nat) (phy : PhyId) : Statement (.calibrationWindow t phy) := fun s => ⟨t, _, by unfold exec execCalibrationWindow; rfl⟩
theorem settingStep (t : Nat) (phy : PhyId) : Statement (.settingStep t phy) := fun s => ⟨t, _, by unfold exec execSettingStep; rfl⟩
theorem meshLinkRetrain (t : Nat) (a : Nat) (port : Nat) (r : Retrained) : Statement (.meshLinkRetrain t a port r) := fun s => ⟨t, _, by unfold exec execMeshLinkRetrain; rfl⟩
theorem serviceLink (t : Nat) (die : Nat) : Statement (.serviceLink t die) := fun s => ⟨t, _, by unfold exec execServiceLink; rfl⟩
theorem flashReadComplete (t : Nat) (part : Nat) (brick : Nat) (unit : Nat) (outs : List CwOutcome) : Statement (.flashReadComplete t part brick unit outs) := fun s => ⟨t, _, by unfold exec execFlashReadComplete; rfl⟩
theorem lowMarkEviction (t : Nat) (part : Nat) (course : Nat) : Statement (.lowMarkEviction t part course) := fun s => ⟨t, _, by unfold exec execLowMarkEviction; rfl⟩
theorem eviction (t : Nat) (part : Nat) (brick : Nat) : Statement (.eviction t part brick) := fun s => ⟨t, _, by unfold exec execEviction; rfl⟩
theorem frameRelease (t : Nat) (part : Nat) (brick : Nat) : Statement (.frameRelease t part brick) := fun s => ⟨t, _, by unfold exec execFrameRelease; rfl⟩
theorem evictionRetry (t : Nat) (part : Nat) (op : Nat) : Statement (.evictionRetry t part op) := fun s => ⟨t, _, by unfold exec execEvictionRetry; rfl⟩
theorem agingSweep (t : Nat) (part : Nat) : Statement (.agingSweep t part) := fun s => ⟨t, _, by unfold exec execAgingSweep; rfl⟩
theorem hamperEntryStart (t : Nat) (part : Nat) (hamper : Nat) : Statement (.hamperEntryStart t part hamper) := fun s => ⟨t, _, by unfold exec execHamperEntryStart; rfl⟩
theorem hamperDeadline (t : Nat) (part : Nat) (hamper : Nat) (entry : Nat) : Statement (.hamperDeadline t part hamper entry) := fun s => ⟨t, _, by unfold exec execHamperDeadline; rfl⟩
theorem directWindowRecord (t : Nat) (die : Nat) (part : Nat) (hamper : Nat) (entry : Nat) : Statement (.directWindowRecord t die part hamper entry) := fun s => ⟨t, _, by unfold exec execDirectWindowRecord; rfl⟩
theorem directWindowClose (t : Nat) (part : Nat) (hamper : Nat) (entry : Nat) : Statement (.directWindowClose t part hamper entry) := fun s => ⟨t, _, by unfold exec execDirectWindowClose; rfl⟩
theorem holdEnd (t : Nat) (part : Nat) (hamper : Nat) (entry : Nat) : Statement (.holdEnd t part hamper entry) := fun s => ⟨t, _, by unfold exec execHoldEnd; rfl⟩
theorem writeBack (t : Nat) (part : Nat) (brick : Nat) (unit : Nat) (group : Nat) : Statement (.writeBack t part brick unit group) := fun s => ⟨t, _, by unfold exec execWriteBack; rfl⟩
theorem writeBackComplete (t : Nat) (part : Nat) (brick : Nat) (unit : Nat) (ok : Bool) (group : Nat) : Statement (.writeBackComplete t part brick unit ok group) := fun s => ⟨t, _, by unfold exec execWriteBackComplete; rfl⟩
theorem relocation (t : Nat) (part : Nat) (group : Nat) : Statement (.relocation t part group) := fun s => ⟨t, _, by unfold exec execRelocation; rfl⟩
theorem readDisturbRelocate (t : Nat) (part : Nat) (ch : Nat) (ce : Nat) (lun : Nat) (block : Nat) : Statement (.readDisturbRelocate t part ch ce lun block) := fun s => ⟨t, _, by unfold exec execReadDisturbRelocate; rfl⟩
theorem wearLevel (t : Nat) (part : Nat) (group : Nat) : Statement (.wearLevel t part group) := fun s => ⟨t, _, by unfold exec execWearLevel; rfl⟩
theorem eraseSuperblock (t : Nat) (part : Nat) (group : Nat) (sb : Nat) : Statement (.eraseSuperblock t part group sb) := fun s => ⟨t, _, by unfold exec execEraseSuperblock; rfl⟩
theorem objectSectorErase (t : Nat) (sector : Nat) : Statement (.objectSectorErase t sector) := fun s => ⟨t, _, by unfold exec execObjectSectorErase; rfl⟩
theorem trackedPageWrite (t : Nat) (part : Nat) (table : Nat) (index : Nat) : Statement (.trackedPageWrite t part table index) := fun s => ⟨t, _, by unfold exec execTrackedPageWrite; rfl⟩
theorem checkpoint (t : Nat) (part : Nat) : Statement (.checkpoint t part) := fun s => ⟨t, _, by unfold exec execCheckpoint; rfl⟩
theorem checkpointFooter (t : Nat) (part : Nat) : Statement (.checkpointFooter t part) := fun s => ⟨t, _, by unfold exec execCheckpointFooter; rfl⟩
theorem pwrFailNAssert (t : Nat) : Statement (.pwrFailNAssert t) := fun s => ⟨t, _, by unfold exec execPwrFailNAssert; rfl⟩
theorem pwrFailNDeassert (t : Nat) : Statement (.pwrFailNDeassert t) := fun s => ⟨t, _, by unfold exec execPwrFailNDeassert; rfl⟩
theorem holdupOkLoss (t : Nat) : Statement (.holdupOkLoss t) := fun s => ⟨t, _, by unfold exec execHoldupOkLoss; rfl⟩
theorem holdupOkHold (t : Nat) : Statement (.holdupOkHold t) := fun s => ⟨t, _, by unfold exec execHoldupOkHold; rfl⟩
theorem bmcEmergencyDrain (t : Nat) : Statement (.bmcEmergencyDrain t) := fun s => ⟨t, _, by unfold exec execBmcEmergencyDrain; rfl⟩
theorem drainSet (t : Nat) (part : Nat) : Statement (.drainSet t part) := fun s => ⟨t, _, by unfold exec execDrainSet; rfl⟩
theorem drainDone (t : Nat) (part : Nat) : Statement (.drainDone t part) := fun s => ⟨t, _, by unfold exec execDrainDone; rfl⟩
theorem restore (t : Nat) (r : RestoreRead) : Statement (.restore t r) := fun s => ⟨t, _, by unfold exec execRestore; rfl⟩
theorem restoreTwinWait (t : Nat) (part : Nat) : Statement (.restoreTwinWait t part) := fun s => ⟨t, _, by unfold exec execRestoreTwinWait; rfl⟩
theorem restoreExit (t : Nat) (part : Nat) : Statement (.restoreExit t part) := fun s => ⟨t, _, by unfold exec execRestoreExit; rfl⟩
theorem buildDone (t : Nat) (part : Nat) (rep : BuildRep) : Statement (.buildDone t part rep) := fun s => ⟨t, _, by unfold exec execBuildDone; rfl⟩
theorem haltComplete (t : Nat) (part : Nat) : Statement (.haltComplete t part) := fun s => ⟨t, _, by unfold exec execHaltComplete; rfl⟩
theorem restartAfterCooling (t : Nat) (part : Option Nat) : Statement (.restartAfterCooling t part) := fun s => ⟨t, _, by unfold exec execRestartAfterCooling; rfl⟩
theorem powerDown (t : Nat) : Statement (.powerDown t) := fun s => ⟨t, _, by unfold exec execPowerDown; rfl⟩
theorem apply (t : Nat) (part : Nat) (h : MirHdr) (es : List ApplyEntry) : Statement (.apply t part h es) := fun s => ⟨t, _, by unfold exec execApply; rfl⟩
theorem replicate (t : Nat) (part : Nat) (h : MirHdr) (r : ReplBody) : Statement (.replicate t part h r) := fun s => ⟨t, _, by unfold exec execReplicate; rfl⟩
theorem confirm (t : Nat) (part : Nat) (h : MirHdr) (upTo : Nat) : Statement (.confirm t part h upTo) := fun s => ⟨t, _, by unfold exec execConfirm; rfl⟩
theorem progress (t : Nat) (part : Nat) (h : MirHdr) (ps : List QpnPsn) : Statement (.progress t part h ps) := fun s => ⟨t, _, by unfold exec execProgress; rfl⟩
theorem digest (t : Nat) (part : Nat) (h : MirHdr) (epoch : Nat) (count : Nat) (d : BitVec 128) : Statement (.digest t part h epoch count d) := fun s => ⟨t, _, by unfold exec execDigest; rfl⟩
theorem fetchReq (t : Nat) (part : Nat) (h : MirHdr) (qpn : BitVec 24) (first : BitVec 24) (count : Nat) : Statement (.fetchReq t part h qpn first count) := fun s => ⟨t, _, by unfold exec execFetchReq; rfl⟩
theorem fetchData (t : Nat) (part : Nat) (h : MirHdr) (qpn : BitVec 24) (pkts : List Kept) : Statement (.fetchData t part h qpn pkts) := fun s => ⟨t, _, by unfold exec execFetchData; rfl⟩
theorem fetchNone (t : Nat) (part : Nat) (h : MirHdr) (qpn : BitVec 24) : Statement (.fetchNone t part h qpn) := fun s => ⟨t, _, by unfold exec execFetchNone; rfl⟩
theorem twinFetchTimeout (t : Nat) (qpn : BitVec 24) : Statement (.twinFetchTimeout t qpn) := fun s => ⟨t, _, by unfold exec execTwinFetchTimeout; rfl⟩
theorem pageReq (t : Nat) (part : Nat) (h : MirHdr) (brick : Nat) (page : Nat) : Statement (.pageReq t part h brick page) := fun s => ⟨t, _, by unfold exec execPageReq; rfl⟩
theorem pageData (t : Nat) (part : Nat) (h : MirHdr) (brick : Nat) (page : Nat) (data : List Byte) : Statement (.pageData t part h brick page data) := fun s => ⟨t, _, by unfold exec execPageData; rfl⟩
theorem tableSync (t : Nat) (part : Nat) (h : MirHdr) (body : TableSync) : Statement (.tableSync t part h body) := fun s => ⟨t, _, by unfold exec execTableSync; rfl⟩
theorem qpOpen (t : Nat) (part : Nat) (h : MirHdr) (q : QpCtx) : Statement (.qpOpen t part h q) := fun s => ⟨t, _, by unfold exec execQpOpen; rfl⟩
theorem qpState (t : Nat) (part : Nat) (h : MirHdr) (q : QpCtx) : Statement (.qpState t part h q) := fun s => ⟨t, _, by unfold exec execQpState; rfl⟩
theorem brickData (t : Nat) (part : Nat) (h : MirHdr) (b : BrickBody) : Statement (.brickData t part h b) := fun s => ⟨t, _, by unfold exec execBrickData; rfl⟩
theorem resyncEnd (t : Nat) (part : Nat) (h : MirHdr) : Statement (.resyncEnd t part h) := fun s => ⟨t, _, by unfold exec execResyncEnd; rfl⟩
theorem heartbeat (t : Nat) (part : Nat) (h : MirHdr) : Statement (.heartbeat t part h) := fun s => ⟨t, _, by unfold exec execHeartbeat; rfl⟩
theorem fenceNotice (t : Nat) (part : Nat) (h : MirHdr) (reason : Nat) : Statement (.fenceNotice t part h reason) := fun s => ⟨t, _, by unfold exec execFenceNotice; rfl⟩
theorem applySend (t : Nat) (part : Nat) : Statement (.applySend t part) := fun s => ⟨t, _, by unfold exec execApplySend; rfl⟩
theorem progressSend (t : Nat) (part : Nat) : Statement (.progressSend t part) := fun s => ⟨t, _, by unfold exec execProgressSend; rfl⟩
theorem heartbeatSend (t : Nat) (part : Nat) (path : Nat) : Statement (.heartbeatSend t part path) := fun s => ⟨t, _, by unfold exec execHeartbeatSend; rfl⟩
theorem digestEpoch (t : Nat) (part : Nat) : Statement (.digestEpoch t part) := fun s => ⟨t, _, by unfold exec execDigestEpoch; rfl⟩
theorem mirrorPathDown (t : Nat) (part : Nat) (path : Nat) : Statement (.mirrorPathDown t part path) := fun s => ⟨t, _, by unfold exec execMirrorPathDown; rfl⟩
theorem mirrorLost (t : Nat) (part : Nat) : Statement (.mirrorLost t part) := fun s => ⟨t, _, by unfold exec execMirrorLost; rfl⟩
theorem followerLagging (t : Nat) (part : Nat) : Statement (.followerLagging t part) := fun s => ⟨t, _, by unfold exec execFollowerLagging; rfl⟩
theorem changeMapSwap (t : Nat) (part : Nat) : Statement (.changeMapSwap t part) := fun s => ⟨t, _, by unfold exec execChangeMapSwap; rfl⟩
theorem leaseRenew (t : Nat) (part : Nat) : Statement (.leaseRenew t part) := fun s => ⟨t, _, by unfold exec execLeaseRenew; rfl⟩
theorem grant (t : Nat) (part : Nat) (m : ArbMsg) : Statement (.grant t part m) := fun s => ⟨t, _, by unfold exec execGrant; rfl⟩
theorem fence (t : Nat) (part : Nat) (m : ArbMsg) : Statement (.fence t part m) := fun s => ⟨t, _, by unfold exec execFence; rfl⟩
theorem renew (t : Nat) (part : Nat) (m : ArbMsg) : Statement (.renew t part m) := fun s => ⟨t, _, by unfold exec execRenew; rfl⟩
theorem report (t : Nat) (part : Nat) (m : ArbMsg) : Statement (.report t part m) := fun s => ⟨t, _, by unfold exec execReport; rfl⟩
theorem release (t : Nat) (part : Nat) (m : ArbMsg) : Statement (.release t part m) := fun s => ⟨t, _, by unfold exec execRelease; rfl⟩
theorem leaseExpiry (t : Nat) (part : Nat) (group : Nat) : Statement (.leaseExpiry t part group) := fun s => ⟨t, _, by unfold exec execLeaseExpiry; rfl⟩
theorem leaseGuard (t : Nat) (part : Nat) : Statement (.leaseGuard t part) := fun s => ⟨t, _, by unfold exec execLeaseGuard; rfl⟩
theorem arbiterLost (t : Nat) (part : Nat) : Statement (.arbiterLost t part) := fun s => ⟨t, _, by unfold exec execArbiterLost; rfl⟩
theorem releaseResend (t : Nat) (part : Nat) : Statement (.releaseResend t part) := fun s => ⟨t, _, by unfold exec execReleaseResend; rfl⟩
theorem penquavinData (t : Nat) (part : Nat) (die : Nat) (h : PqHdr) (payload : List Byte) (ce : Bool) : Statement (.penquavinData t part die h payload ce) := fun s => ⟨t, _, by unfold exec execPenquavinData; rfl⟩
theorem penquavinAck (t : Nat) (part : Nat) (h : PqHdr) (a : PqAck) : Statement (.penquavinAck t part h a) := fun s => ⟨t, _, by unfold exec execPenquavinAck; rfl⟩
theorem resend (t : Nat) (part : Nat) (h : PqHdr) : Statement (.resend t part h) := fun s => ⟨t, _, by unfold exec execResend; rfl⟩
theorem ackSend (t : Nat) (part : Nat) (peer : Nat) (path : Nat) : Statement (.ackSend t part peer path) := fun s => ⟨t, _, by unfold exec execAckSend; rfl⟩
theorem retransmitTimeout (t : Nat) (part : Nat) (peer : Nat) (path : Nat) (pseq : Nat) : Statement (.retransmitTimeout t part peer path pseq) := fun s => ⟨t, _, by unfold exec execRetransmitTimeout; rfl⟩
theorem pathDown (t : Nat) (part : Nat) (peer : Nat) (path : Nat) : Statement (.pathDown t part peer path) := fun s => ⟨t, _, by unfold exec execPathDown; rfl⟩
theorem pathProbe (t : Nat) (part : Nat) (peer : Nat) (path : Nat) : Statement (.pathProbe t part peer path) := fun s => ⟨t, _, by unfold exec execPathProbe; rfl⟩
theorem reasmTimeout (t : Nat) (part : Nat) (src : Nat) (cls : Nat) (msg : Nat) : Statement (.reasmTimeout t part src cls msg) := fun s => ⟨t, _, by unfold exec execReasmTimeout; rfl⟩
theorem announceSend (t : Nat) (part : Nat) : Statement (.announceSend t part) := fun s => ⟨t, _, by unfold exec execAnnounceSend; rfl⟩
theorem announce (t : Nat) (part : Nat) (src : Nat) (a : AnnounceBody) : Statement (.announce t part src a) := fun s => ⟨t, _, by unfold exec execAnnounce; rfl⟩
theorem peerSilence (t : Nat) (part : Nat) (peer : Nat) : Statement (.peerSilence t part peer) := fun s => ⟨t, _, by unfold exec execPeerSilence; rfl⟩
theorem joinReq (t : Nat) (part : Nat) (src : Nat) (ident : BitVec 64) : Statement (.joinReq t part src ident) := fun s => ⟨t, _, by unfold exec execJoinReq; rfl⟩
theorem joinAccept (t : Nat) (part : Nat) (src : Nat) (ident : BitVec 64) : Statement (.joinAccept t part src ident) := fun s => ⟨t, _, by unfold exec execJoinAccept; rfl⟩
theorem joinRefuse (t : Nat) (part : Nat) (src : Nat) (cause : Nat) (retryAt : Nat) : Statement (.joinRefuse t part src cause retryAt) := fun s => ⟨t, _, by unfold exec execJoinRefuse; rfl⟩
theorem leave (t : Nat) (part : Nat) (src : Nat) : Statement (.leave t part src) := fun s => ⟨t, _, by unfold exec execLeave; rfl⟩
theorem joinResend (t : Nat) (part : Nat) (peer : Nat) : Statement (.joinResend t part peer) := fun s => ⟨t, _, by unfold exec execJoinResend; rfl⟩
theorem joinSlot (t : Nat) (part : Nat) (peer : Nat) : Statement (.joinSlot t part peer) := fun s => ⟨t, _, by unfold exec execJoinSlot; rfl⟩
theorem joinSlotRelease (t : Nat) (part : Nat) (peer : Nat) : Statement (.joinSlotRelease t part peer) := fun s => ⟨t, _, by unfold exec execJoinSlotRelease; rfl⟩
theorem farRequest (t : Nat) (part : Nat) (src : Nat) (r : FarReq) : Statement (.farRequest t part src r) := fun s => ⟨t, _, by unfold exec execFarRequest; rfl⟩
theorem farResult (t : Nat) (part : Nat) (src : Nat) (r : FarRes) : Statement (.farResult t part src r) := fun s => ⟨t, _, by unfold exec execFarResult; rfl⟩
theorem farRetry (t : Nat) (part : Nat) (qpn : BitVec 24) (sseq : Nat) : Statement (.farRetry t part qpn sseq) := fun s => ⟨t, _, by unfold exec execFarRetry; rfl⟩
theorem farTimeout (t : Nat) (part : Nat) (qpn : BitVec 24) (sseq : Nat) : Statement (.farTimeout t part qpn sseq) := fun s => ⟨t, _, by unfold exec execFarTimeout; rfl⟩
theorem farClose (t : Nat) (part : Nat) (src : Nat) (r : FarReq) : Statement (.farClose t part src r) := fun s => ⟨t, _, by unfold exec execFarClose; rfl⟩
theorem pauseFrame (t : Nat) (port : Nat) (prio : Nat) (quanta : Nat) : Statement (.pauseFrame t port prio quanta) := fun s => ⟨t, _, by unfold exec execPauseFrame; rfl⟩
theorem pauseRepeat (t : Nat) (port : Nat) (f : PfcFill) : Statement (.pauseRepeat t port f) := fun s => ⟨t, _, by unfold exec execPauseRepeat; rfl⟩
theorem ptpAnnounce (t : Nat) (f : PtpFrame) (a : PtpAnn) : Statement (.ptpAnnounce t f a) := fun s => ⟨t, _, by unfold exec execPtpAnnounce; rfl⟩
theorem ptpSync (t : Nat) (f : PtpFrame) (src : BitVec 80) (offset : Int) (gm : Nat) : Statement (.ptpSync t f src offset gm) := fun s => ⟨t, _, by unfold exec execPtpSync; rfl⟩
theorem ppsEdge (t : Nat) (offset : Int) : Statement (.ppsEdge t offset) := fun s => ⟨t, _, by unfold exec execPpsEdge; rfl⟩
theorem holdover (t : Nat) : Statement (.holdover t) := fun s => ⟨t, _, by unfold exec execHoldover; rfl⟩
theorem timeLost (t : Nat) : Statement (.timeLost t) := fun s => ⟨t, _, by unfold exec execTimeLost; rfl⟩
theorem meterSample (t : Nat) (part : Nat) : Statement (.meterSample t part) := fun s => ⟨t, _, by unfold exec execMeterSample; rfl⟩
theorem minuteCut (t : Nat) (part : Nat) : Statement (.minuteCut t part) := fun s => ⟨t, _, by unfold exec execMinuteCut; rfl⟩
theorem hourlyEvidence (t : Nat) (part : Nat) : Statement (.hourlyEvidence t part) := fun s => ⟨t, _, by unfold exec execHourlyEvidence; rfl⟩
theorem maintenanceSlot (t : Nat) (part : Nat) (slot : Nat) (start : Bool) : Statement (.maintenanceSlot t part slot start) := fun s => ⟨t, _, by unfold exec execMaintenanceSlot; rfl⟩
theorem meterIndexFree (t : Nat) (part : Nat) (idx : Nat) : Statement (.meterIndexFree t part idx) := fun s => ⟨t, _, by unfold exec execMeterIndexFree; rfl⟩
theorem powerRequest (t : Nat) : Statement (.powerRequest t) := fun s => ⟨t, _, by unfold exec execPowerRequest; rfl⟩
theorem powerWithdraw (t : Nat) : Statement (.powerWithdraw t) := fun s => ⟨t, _, by unfold exec execPowerWithdraw; rfl⟩
theorem latchClear (t : Nat) : Statement (.latchClear t) := fun s => ⟨t, _, by unfold exec execLatchClear; rfl⟩
theorem chainUpIn (t : Nat) (level : Bool) : Statement (.chainUpIn t level) := fun s => ⟨t, _, by unfold exec execChainUpIn; rfl⟩
theorem chainDnIn (t : Nat) (level : Bool) : Statement (.chainDnIn t level) := fun s => ⟨t, _, by unfold exec execChainDnIn; rfl⟩
theorem chainTimeout (t : Nat) : Statement (.chainTimeout t) := fun s => ⟨t, _, by unfold exec execChainTimeout; rfl⟩
theorem seqPgAssert (t : Nat) (entry : Nat) (raw : Nat) (sns : Nat) : Statement (.seqPgAssert t entry raw sns) := fun s => ⟨t, _, by unfold exec execSeqPgAssert; rfl⟩
theorem pgTimeout (t : Nat) (entry : Nat) : Statement (.pgTimeout t entry) := fun s => ⟨t, _, by unfold exec execPgTimeout; rfl⟩
theorem stepDelayEnd (t : Nat) (entry : Nat) : Statement (.stepDelayEnd t entry) := fun s => ⟨t, _, by unfold exec execStepDelayEnd; rfl⟩
theorem pllLock (t : Nat) (locked : Bool) : Statement (.pllLock t locked) := fun s => ⟨t, _, by unfold exec execPllLock; rfl⟩
theorem seqRetry (t : Nat) : Statement (.seqRetry t) := fun s => ⟨t, _, by unfold exec execSeqRetry; rfl⟩
theorem railFault (t : Nat) (entry : Nat) : Statement (.railFault t entry) := fun s => ⟨t, _, by unfold exec execRailFault; rfl⟩
theorem railDischarge (t : Nat) (entry : Nat) (sns : Nat) : Statement (.railDischarge t entry sns) := fun s => ⟨t, _, by unfold exec execRailDischarge; rfl⟩
theorem avsRead (t : Nat) (rail : Nat) (mv : Nat) (ma : Nat) (ok : Bool) (fault : Bool) : Statement (.avsRead t rail mv ma ok fault) := fun s => ⟨t, _, by unfold exec execAvsRead; rfl⟩
theorem avsLost (t : Nat) (rail : Nat) : Statement (.avsLost t rail) := fun s => ⟨t, _, by unfold exec execAvsLost; rfl⟩
theorem avsTargetWrite (t : Nat) : Statement (.avsTargetWrite t) := fun s => ⟨t, _, by unfold exec execAvsTargetWrite; rfl⟩
theorem thermalUpdate (t : Nat) (acts : List BlockPower) : Statement (.thermalUpdate t acts) := fun s => ⟨t, _, by unfold exec execThermalUpdate; rfl⟩
theorem diodeRead (t : Nat) (diode : Nat) (temp : Int) : Statement (.diodeRead t diode temp) := fun s => ⟨t, _, by unfold exec execDiodeRead; rfl⟩
theorem ambientWrite (t : Nat) (bytes : List Byte) : Statement (.ambientWrite t bytes) := fun s => ⟨t, _, by unfold exec execAmbientWrite; rfl⟩
theorem ambientStale (t : Nat) : Statement (.ambientStale t) := fun s => ⟨t, _, by unfold exec execAmbientStale; rfl⟩
theorem throttleTick (t : Nat) : Statement (.throttleTick t) := fun s => ⟨t, _, by unfold exec execThrottleTick; rfl⟩
theorem criticalTrip (t : Nat) : Statement (.criticalTrip t) := fun s => ⟨t, _, by unfold exec execCriticalTrip; rfl⟩
theorem refclkLoss (t : Nat) : Statement (.refclkLoss t) := fun s => ⟨t, _, by unfold exec execRefclkLoss; rfl⟩
theorem refclkRecover (t : Nat) : Statement (.refclkRecover t) := fun s => ⟨t, _, by unfold exec execRefclkRecover; rfl⟩
theorem boot (t : Nat) : Statement (.boot t) := fun s => ⟨t, _, by unfold exec execBoot; rfl⟩
theorem watchdogRestart (t : Nat) : Statement (.watchdogRestart t) := fun s => ⟨t, _, by unfold exec execWatchdogRestart; rfl⟩
theorem watchdogRecovery (t : Nat) : Statement (.watchdogRecovery t) := fun s => ⟨t, _, by unfold exec execWatchdogRecovery; rfl⟩
theorem watchdogReset (t : Nat) : Statement (.watchdogReset t) := fun s => ⟨t, _, by unfold exec execWatchdogReset; rfl⟩
theorem stewardReset (t : Nat) (die : Nat) (st : Nat) : Statement (.stewardReset t die st) := fun s => ⟨t, _, by unfold exec execStewardReset; rfl⟩
theorem bootOk (t : Nat) (target : Nat) : Statement (.bootOk t target) := fun s => ⟨t, _, by unfold exec execBootOk; rfl⟩
theorem brownOut (t : Nat) : Statement (.brownOut t) := fun s => ⟨t, _, by unfold exec execBrownOut; rfl⟩
theorem brownOutRelease (t : Nat) : Statement (.brownOutRelease t) := fun s => ⟨t, _, by unfold exec execBrownOutRelease; rfl⟩
theorem logSuppressed (t : Nat) : Statement (.logSuppressed t) := fun s => ⟨t, _, by unfold exec execLogSuppressed; rfl⟩
theorem logSummary (t : Nat) : Statement (.logSummary t) := fun s => ⟨t, _, by unfold exec execLogSummary; rfl⟩
theorem logSectorErase (t : Nat) : Statement (.logSectorErase t) := fun s => ⟨t, _, by unfold exec execLogSectorErase; rfl⟩
theorem entropyFail (t : Nat) : Statement (.entropyFail t) := fun s => ⟨t, _, by unfold exec execEntropyFail; rfl⟩
theorem unwrapBurst (t : Nat) : Statement (.unwrapBurst t) := fun s => ⟨t, _, by unfold exec execUnwrapBurst; rfl⟩
theorem rekeyUnit (t : Nat) (part : Nat) (slot : Nat) : Statement (.rekeyUnit t part slot) := fun s => ⟨t, _, by unfold exec execRekeyUnit; rfl⟩
theorem debugExpiry (t : Nat) : Statement (.debugExpiry t) := fun s => ⟨t, _, by unfold exec execDebugExpiry; rfl⟩
theorem eapolRx (t : Nat) (port : Nat) (brk : Nat) (frame : List Byte) : Statement (.eapolRx t port brk frame) := fun s => ⟨t, _, by unfold exec execEapolRx; rfl⟩
theorem functionLevelReset (t : Nat) (port : Nat) : Statement (.functionLevelReset t port) := fun s => ⟨t, _, by unfold exec execFunctionLevelReset; rfl⟩
theorem d3hotEntry (t : Nat) (port : Nat) : Statement (.d3hotEntry t port) := fun s => ⟨t, _, by unfold exec execD3hotEntry; rfl⟩
theorem perstN (t : Nat) (port : Nat) (level : Bool) : Statement (.perstN t port level) := fun s => ⟨t, _, by unfold exec execPerstN; rfl⟩
theorem dmaFail (t : Nat) (port : Nat) (what : DmaWhat) (tag : BitVec 32) : Statement (.dmaFail t port what tag) := fun s => ⟨t, _, by unfold exec execDmaFail; rfl⟩
theorem ownerLost (t : Nat) (port : Nat) : Statement (.ownerLost t port) := fun s => ⟨t, _, by unfold exec execOwnerLost; rfl⟩
theorem bar2Write (t : Nat) (port : Nat) (off : Nat) : Statement (.bar2Write t port off) := fun s => ⟨t, _, by unfold exec execBar2Write; rfl⟩
theorem registerWrite (t : Nat) (port : Nat) (off : Nat) (size : Nat) (v : RegValue) : Statement (.registerWrite t port off size v) := fun s => ⟨t, _, by unfold exec execRegisterWrite; rfl⟩
theorem cfgLockOpen (t : Nat) (port : Nat) : Statement (.cfgLockOpen t port) := fun s => ⟨t, _, by unfold exec execCfgLockOpen; rfl⟩
theorem cfgLockClose (t : Nat) (port : Nat) : Statement (.cfgLockClose t port) := fun s => ⟨t, _, by unfold exec execCfgLockClose; rfl⟩
theorem intStatusClear (t : Nat) (port : Nat) (mask : BitVec 32) : Statement (.intStatusClear t port mask) := fun s => ⟨t, _, by unfold exec execIntStatusClear; rfl⟩
theorem intEnableWrite (t : Nat) (port : Nat) (value : BitVec 32) : Statement (.intEnableWrite t port value) := fun s => ⟨t, _, by unfold exec execIntEnableWrite; rfl⟩
theorem ringEnable (t : Nat) (port : Nat) (ring : RingId) : Statement (.ringEnable t port ring) := fun s => ⟨t, _, by unfold exec execRingEnable; rfl⟩
theorem ringDisable (t : Nat) (port : Nat) (ring : RingId) : Statement (.ringDisable t port ring) := fun s => ⟨t, _, by unfold exec execRingDisable; rfl⟩
theorem cmdTailDoorbell (t : Nat) (port : Nat) (tail : Nat) (descs : List (List Byte)) : Statement (.cmdTailDoorbell t port tail descs) := fun s => ⟨t, _, by unfold exec execCmdTailDoorbell; rfl⟩
theorem cplHeadWrite (t : Nat) (port : Nat) (head : Nat) : Statement (.cplHeadWrite t port head) := fun s => ⟨t, _, by unfold exec execCplHeadWrite; rfl⟩
theorem evtHeadWrite (t : Nat) (port : Nat) (head : Nat) : Statement (.evtHeadWrite t port head) := fun s => ⟨t, _, by unfold exec execEvtHeadWrite; rfl⟩
theorem tmuxSelectWrite (t : Nat) (port : Nat) (value : BitVec 32) : Statement (.tmuxSelectWrite t port value) := fun s => ⟨t, _, by unfold exec execTmuxSelectWrite; rfl⟩
theorem msixUnmask (t : Nat) (port : Nat) (vec : Nat) : Statement (.msixUnmask t port vec) := fun s => ⟨t, _, by unfold exec execMsixUnmask; rfl⟩
theorem completionIntTimer (t : Nat) (port : Nat) : Statement (.completionIntTimer t port) := fun s => ⟨t, _, by unfold exec execCompletionIntTimer; rfl⟩
theorem commandStart (t : Nat) (port : Nat) : Statement (.commandStart t port) := fun s => ⟨t, _, by unfold exec execCommandStart; rfl⟩
theorem commandCompletion (t : Nat) (port : Nat) (tag : BitVec 32) : Statement (.commandCompletion t port tag) := fun s => ⟨t, _, by unfold exec execCommandCompletion; rfl⟩
theorem sidebandWrite (t : Nat) (off : Nat) (bytes : List Byte) : Statement (.sidebandWrite t off bytes) := fun s => ⟨t, _, by unfold exec execSidebandWrite; rfl⟩
theorem mailboxGo (t : Nat) : Statement (.mailboxGo t) := fun s => ⟨t, _, by unfold exec execMailboxGo; rfl⟩
theorem fwLoadChunk (t : Nat) (off : BitVec 32) (len : BitVec 32) (flags : BitVec 2) (sigOk : Bool) : Statement (.fwLoadChunk t off len flags sigOk) := fun s => ⟨t, _, by unfold exec execFwLoadChunk; rfl⟩
theorem ibi (t : Nat) (cause : BitVec 8) (accepted : Bool) : Statement (.ibi t cause accepted) := fun s => ⟨t, _, by unfold exec execIbi; rfl⟩
theorem entdaa (t : Nat) (addr : BitVec 7) : Statement (.entdaa t addr) := fun s => ⟨t, _, by unfold exec execEntdaa; rfl⟩
theorem setdasa (t : Nat) (addr : BitVec 7) : Statement (.setdasa t addr) := fun s => ⟨t, _, by unfold exec execSetdasa; rfl⟩
theorem setnewda (t : Nat) (addr : BitVec 7) : Statement (.setnewda t addr) := fun s => ⟨t, _, by unfold exec execSetnewda; rfl⟩
theorem rstdaa (t : Nat) : Statement (.rstdaa t) := fun s => ⟨t, _, by unfold exec execRstdaa; rfl⟩
theorem enec (t : Nat) : Statement (.enec t) := fun s => ⟨t, _, by unfold exec execEnec; rfl⟩
theorem disec (t : Nat) : Statement (.disec t) := fun s => ⟨t, _, by unfold exec execDisec; rfl⟩
theorem getpid (t : Nat) : Statement (.getpid t) := fun s => ⟨t, _, by unfold exec execGetpid; rfl⟩
theorem getbcr (t : Nat) : Statement (.getbcr t) := fun s => ⟨t, _, by unfold exec execGetbcr; rfl⟩
theorem getdcr (t : Nat) : Statement (.getdcr t) := fun s => ⟨t, _, by unfold exec execGetdcr; rfl⟩
theorem getstatus (t : Nat) : Statement (.getstatus t) := fun s => ⟨t, _, by unfold exec execGetstatus; rfl⟩
theorem getmwl (t : Nat) : Statement (.getmwl t) := fun s => ⟨t, _, by unfold exec execGetmwl; rfl⟩
theorem getmrl (t : Nat) : Statement (.getmrl t) := fun s => ⟨t, _, by unfold exec execGetmrl; rfl⟩
theorem setmwl (t : Nat) (n : BitVec 16) : Statement (.setmwl t n) := fun s => ⟨t, _, by unfold exec execSetmwl; rfl⟩
theorem setmrl (t : Nat) (n : BitVec 16) : Statement (.setmrl t n) := fun s => ⟨t, _, by unfold exec execSetmrl; rfl⟩
theorem rstact (t : Nat) (whole : Bool) : Statement (.rstact t whole) := fun s => ⟨t, _, by unfold exec execRstact; rfl⟩
theorem extest (t : Nat) : Statement (.extest t) := fun s => ⟨t, _, by unfold exec execExtest; rfl⟩
theorem idcode (t : Nat) : Statement (.idcode t) := fun s => ⟨t, _, by unfold exec execIdcode; rfl⟩
theorem samplePreload (t : Nat) (cells : PinSample) : Statement (.samplePreload t cells) := fun s => ⟨t, _, by unfold exec execSamplePreload; rfl⟩
theorem clamp (t : Nat) : Statement (.clamp t) := fun s => ⟨t, _, by unfold exec execClamp; rfl⟩
theorem highz (t : Nat) : Statement (.highz t) := fun s => ⟨t, _, by unfold exec execHighz; rfl⟩
theorem extestPulse (t : Nat) : Statement (.extestPulse t) := fun s => ⟨t, _, by unfold exec execExtestPulse; rfl⟩
theorem extestTrain (t : Nat) : Statement (.extestTrain t) := fun s => ⟨t, _, by unfold exec execExtestTrain; rfl⟩
theorem jtagStatus (t : Nat) : Statement (.jtagStatus t) := fun s => ⟨t, _, by unfold exec execJtagStatus; rfl⟩
theorem tmuxSel (t : Nat) (v : BitVec 8) : Statement (.tmuxSel t v) := fun s => ⟨t, _, by unfold exec execTmuxSel; rfl⟩
theorem jtagDebug (t : Nat) (scope : BitVec 2) : Statement (.jtagDebug t scope) := fun s => ⟨t, _, by unfold exec execJtagDebug; rfl⟩
theorem bypass (t : Nat) (code : BitVec 8) : Statement (.bypass t code) := fun s => ⟨t, _, by unfold exec execBypass; rfl⟩
theorem nop (t : Nat) (c : CmdRef) : Statement (.nop t c) := fun s => ⟨t, _, by unfold exec execNop; rfl⟩
theorem portClaim (t : Nat) (c : CmdRef) (mask : BitVec 4) (force : Bool) : Statement (.portClaim t c mask force) := fun s => ⟨t, _, by unfold exec execPortClaim; rfl⟩
theorem portRelease (t : Nat) (c : CmdRef) (mask : BitVec 4) : Statement (.portRelease t c mask) := fun s => ⟨t, _, by unfold exec execPortRelease; rfl⟩
theorem modeRequest (t : Nat) (c : CmdRef) (part : Nat) (target : BitVec 3) : Statement (.modeRequest t c part target) := fun s => ⟨t, _, by unfold exec execModeRequest; rfl⟩
theorem imageLoad (t : Nat) (c : CmdRef) (len : BitVec 32) (flags : BitVec 2) (img : Image) : Statement (.imageLoad t c len flags img) := fun s => ⟨t, _, by unfold exec execImageLoad; rfl⟩
theorem imagePatch (t : Nat) (c : CmdRef) (len : BitVec 32) (img : Image) : Statement (.imagePatch t c len img) := fun s => ⟨t, _, by unfold exec execImagePatch; rfl⟩
theorem timeSet (t : Nat) (c : CmdRef) (seconds : BitVec 64) : Statement (.timeSet t c seconds) := fun s => ⟨t, _, by unfold exec execTimeSet; rfl⟩
theorem twinPair (t : Nat) (c : CmdRef) (part : Nat) (start : BitVec 2) (peer : PeerPair) : Statement (.twinPair t c part start peer) := fun s => ⟨t, _, by unfold exec execTwinPair; rfl⟩
theorem twinUnpair (t : Nat) (c : CmdRef) (part : Nat) : Statement (.twinUnpair t c part) := fun s => ⟨t, _, by unfold exec execTwinUnpair; rfl⟩
theorem tenantAuthorise (t : Nat) (c : CmdRef) (part : Nat) (a : TenAuth) : Statement (.tenantAuthorise t c part a) := fun s => ⟨t, _, by unfold exec execTenantAuthorise; rfl⟩
theorem tenantWithdraw (t : Nat) (c : CmdRef) (part : Nat) (tenant : BitVec 12) : Statement (.tenantWithdraw t c part tenant) := fun s => ⟨t, _, by unfold exec execTenantWithdraw; rfl⟩
theorem createQp (t : Nat) (c : CmdRef) (part : Nat) (q : NewQp) : Statement (.createQp t c part q) := fun s => ⟨t, _, by unfold exec execCreateQp; rfl⟩
theorem destroyQp (t : Nat) (c : CmdRef) (part : Nat) (qpn : BitVec 24) : Statement (.destroyQp t c part qpn) := fun s => ⟨t, _, by unfold exec execDestroyQp; rfl⟩
theorem openWindow (t : Nat) (c : CmdRef) (part : Nat) (w : WinReq) : Statement (.openWindow t c part w) := fun s => ⟨t, _, by unfold exec execOpenWindow; rfl⟩
theorem revokeWindow (t : Nat) (c : CmdRef) (part : Nat) (key : BitVec 32) : Statement (.revokeWindow t c part key) := fun s => ⟨t, _, by unfold exec execRevokeWindow; rfl⟩
theorem loadKey (t : Nat) (c : CmdRef) (part : Nat) (slot : BitVec 16) (src : BitVec 1) (blob : List Byte) : Statement (.loadKey t c part slot src blob) := fun s => ⟨t, _, by unfold exec execLoadKey; rfl⟩
theorem rekey (t : Nat) (c : CmdRef) (part : Nat) (slot : BitVec 16) (src : BitVec 1) (blob : List Byte) (rate : BitVec 6) : Statement (.rekey t c part slot src blob rate) := fun s => ⟨t, _, by unfold exec execRekey; rfl⟩
theorem eraseKey (t : Nat) (c : CmdRef) (part : Nat) (slot : BitVec 16) : Statement (.eraseKey t c part slot) := fun s => ⟨t, _, by unfold exec execEraseKey; rfl⟩
theorem importKeySet (t : Nat) (c : CmdRef) (key : List Byte) : Statement (.importKeySet t c key) := fun s => ⟨t, _, by unfold exec execImportKeySet; rfl⟩
theorem systemKeySet (t : Nat) (c : CmdRef) (part : Nat) (which : BitVec 1) (blob : List Byte) : Statement (.systemKeySet t c part which blob) := fun s => ⟨t, _, by unfold exec execSystemKeySet; rfl⟩
theorem macsecMode (t : Nat) (c : CmdRef) (port : BitVec 4) (brk : BitVec 3) (mode : BitVec 2) (window : BitVec 32) : Statement (.macsecMode t c port brk mode window) := fun s => ⟨t, _, by unfold exec execMacsecMode; rfl⟩
theorem macsecKey (t : Nat) (c : CmdRef) (port : BitVec 4) (brk : BitVec 3) (k : MacKey) : Statement (.macsecKey t c port brk k) := fun s => ⟨t, _, by unfold exec execMacsecKey; rfl⟩
theorem macsecTxSelect (t : Nat) (c : CmdRef) (port : BitVec 4) (brk : BitVec 3) (an : BitVec 2) : Statement (.macsecTxSelect t c port brk an) := fun s => ⟨t, _, by unfold exec execMacsecTxSelect; rfl⟩
theorem macsecDelete (t : Nat) (c : CmdRef) (port : BitVec 4) (brk : BitVec 3) (dir : BitVec 1) (sci : BitVec 64) (an : BitVec 2) : Statement (.macsecDelete t c port brk dir sci an) := fun s => ⟨t, _, by unfold exec execMacsecDelete; rfl⟩
theorem eapolSend (t : Nat) (c : CmdRef) (port : BitVec 4) (brk : BitVec 3) (len : BitVec 16) (frame : List Byte) : Statement (.eapolSend t c port brk len frame) := fun s => ⟨t, _, by unfold exec execEapolSend; rfl⟩
theorem attest (t : Nat) (c : CmdTo) (part : Nat) (kind : BitVec 1) (slot : BitVec 12) (nonce : List Byte) : Statement (.attest t c part kind slot nonce) := fun s => ⟨t, _, by unfold exec execAttest; rfl⟩
theorem attestCert (t : Nat) (c : CmdTo) (len : BitVec 32) : Statement (.attestCert t c len) := fun s => ⟨t, _, by unfold exec execAttestCert; rfl⟩
theorem debugChallenge (t : Nat) (c : CmdTo) : Statement (.debugChallenge t c) := fun s => ⟨t, _, by unfold exec execDebugChallenge; rfl⟩
theorem debugUnlock (t : Nat) (c : CmdRef) (tok : Signed) : Statement (.debugUnlock t c tok) := fun s => ⟨t, _, by unfold exec execDebugUnlock; rfl⟩
theorem ownerSet (t : Nat) (c : CmdRef) (blob : Signed) : Statement (.ownerSet t c blob) := fun s => ⟨t, _, by unfold exec execOwnerSet; rfl⟩
theorem fwLoad (t : Nat) (c : CmdRef) (len : BitVec 32) (flags : BitVec 1) (fw : Signed) : Statement (.fwLoad t c len flags fw) := fun s => ⟨t, _, by unfold exec execFwLoad; rfl⟩
theorem ropSet (t : Nat) (c : CmdRef) (target : BitVec 2) : Statement (.ropSet t c target) := fun s => ⟨t, _, by unfold exec execRopSet; rfl⟩
theorem registerObject (t : Nat) (c : CmdRef) (part : Nat) (o : ObjReq) : Statement (.registerObject t c part o) := fun s => ⟨t, _, by unfold exec execRegisterObject; rfl⟩
theorem unregisterObject (t : Nat) (c : CmdRef) (part : Nat) (obj : BitVec 20) : Statement (.unregisterObject t c part obj) := fun s => ⟨t, _, by unfold exec execUnregisterObject; rfl⟩
theorem promote (t : Nat) (c : CmdRef) (part : Nat) (obj : BitVec 20) (first : BitVec 32) (pages : BitVec 32) (hold : BitVec 16) (flags : BitVec 2) : Statement (.promote t c part obj first pages hold flags) := fun s => ⟨t, _, by unfold exec execPromote; rfl⟩
theorem demote (t : Nat) (c : CmdRef) (part : Nat) (obj : BitVec 20) (target : BitVec 2) (evict : Bool) : Statement (.demote t c part obj target evict) := fun s => ⟨t, _, by unfold exec execDemote; rfl⟩
theorem hamperPost (t : Nat) (c : CmdRef) (part : Nat) (tenant : BitVec 12) (count : BitVec 9) (entries : List HampEntry) : Statement (.hamperPost t c part tenant count entries) := fun s => ⟨t, _, by unfold exec execHamperPost; rfl⟩
theorem hamperCancel (t : Nat) (c : CmdRef) (part : Nat) (hamper : BitVec 8) : Statement (.hamperCancel t c part hamper) := fun s => ⟨t, _, by unfold exec execHamperCancel; rfl⟩
theorem hamperQuery (t : Nat) (c : CmdRef) (part : Nat) (hamper : BitVec 8) : Statement (.hamperQuery t c part hamper) := fun s => ⟨t, _, by unfold exec execHamperQuery; rfl⟩
theorem scrub (t : Nat) (c : CmdRef) (part : Nat) (q : ScrubRun) : Statement (.scrub t c part q) := fun s => ⟨t, _, by unfold exec execScrub; rfl⟩
theorem pprApply (t : Nat) (c : CmdRef) (part : Nat) (kind : BitVec 1) (mask : BitVec 32) (limit : BitVec 16) (outs : List PprOut) : Statement (.pprApply t c part kind mask limit outs) := fun s => ⟨t, _, by unfold exec execPprApply; rfl⟩
theorem clearLost (t : Nat) (c : CmdRef) (part : Nat) (brick : BitVec 28) (page : BitVec 9) (encipher : Bool) : Statement (.clearLost t c part brick page encipher) := fun s => ⟨t, _, by unfold exec execClearLost; rfl⟩
theorem logFreeze (t : Nat) (c : CmdRef) (freeze : Bool) : Statement (.logFreeze t c freeze) := fun s => ⟨t, _, by unfold exec execLogFreeze; rfl⟩
theorem logRead (t : Nat) (c : CmdTo) (first : BitVec 32) (max : BitVec 16) : Statement (.logRead t c first max) := fun s => ⟨t, _, by unfold exec execLogRead; rfl⟩
theorem optionSet (t : Nat) (c : CmdRef) (compat : Bool) (addr : BitVec 7) : Statement (.optionSet t c compat addr) := fun s => ⟨t, _, by unfold exec execOptionSet; rfl⟩
theorem seqTableSet (t : Nat) (c : CmdRef) (tab : List Byte) : Statement (.seqTableSet t c tab) := fun s => ⟨t, _, by unfold exec execSeqTableSet; rfl⟩
theorem buildEntry (t : Nat) (steward : Bool) : Statement (.buildEntry t steward) := fun s => ⟨t, _, by unfold exec execBuildEntry; rfl⟩
theorem buildFail (t : Nat) (part : Nat) (why : BuildFail) (rep : BuildRep) : Statement (.buildFail t part why rep) := fun s => ⟨t, _, by unfold exec execBuildFail; rfl⟩
theorem deviceConflictRetry (t : Nat) (part : Nat) (peer : Nat) : Statement (.deviceConflictRetry t part peer) := fun s => ⟨t, _, by unfold exec execDeviceConflictRetry; rfl⟩
theorem joinRetry (t : Nat) (part : Nat) (peer : Nat) : Statement (.joinRetry t part peer) := fun s => ⟨t, _, by unfold exec execJoinRetry; rfl⟩
theorem arpRequest (t : Nat) (f : ArpFrame) (addr : BitVec 128) : Statement (.arpRequest t f addr) := fun s => ⟨t, _, by unfold exec execArpRequest; rfl⟩
theorem pcieLinkDown (t : Nat) (port : Nat) (why : LinkWhy) : Statement (.pcieLinkDown t port why) := fun s => ⟨t, _, by unfold exec execPcieLinkDown; rfl⟩
theorem warmReset (t : Nat) (die : Nat) : Statement (.warmReset t die) := fun s => ⟨t, _, by unfold exec execWarmReset; rfl⟩
theorem lunRetired (t : Nat) (part : Nat) (ch : Nat) (ce : Nat) (lun : Nat) : Statement (.lunRetired t part ch ce lun) := fun s => ⟨t, _, by unfold exec execLunRetired; rfl⟩
theorem holdupOkEdge (t : Nat) (level : Bool) : Statement (.holdupOkEdge t level) := fun s => ⟨t, _, by unfold exec execHoldupOkEdge; rfl⟩
theorem relocationComplete (t : Nat) (part : Nat) (group : Nat) (ok : Bool) : Statement (.relocationComplete t part group ok) := fun s => ⟨t, _, by unfold exec execRelocationComplete; rfl⟩
theorem blockEraseComplete (t : Nat) (part : Nat) (group : Nat) (sb : Nat) (failed : List Nat) : Statement (.blockEraseComplete t part group sb failed) := fun s => ⟨t, _, by unfold exec execBlockEraseComplete; rfl⟩

/-- Every command's meaning is one effect, run on a cycle that the command names. -/
theorem all (i : Instr) : Statement i := by
  cases i with
  | rdmaWrite t p => exact rdmaWrite t p
  | rdmaWriteWithImmediate t p imm => exact rdmaWriteWithImmediate t p imm
  | rdmaReadRequest t p => exact rdmaReadRequest t p
  | compareSwap t p cmp swp => exact compareSwap t p cmp swp
  | fetchAdd t p add => exact fetchAdd t p add
  | atomicWrite t p => exact atomicWrite t p
  | flush t p sel bits => exact flush t p sel bits
  | send t p => exact send t p
  | cnp t f => exact cnp t f
  | rateIncrease t qpn => exact rateIncrease t qpn
  | cmReq t r => exact cmReq t r
  | cmRtu t f => exact cmRtu t f
  | cmDreq t f => exact cmDreq t f
  | cmDrep t f => exact cmDrep t f
  | repResend t qpn => exact repResend t qpn
  | closingTimeout t qpn => exact closingTimeout t qpn
  | timewaitExpiry t qpn => exact timewaitExpiry t qpn
  | ackCoalesce t qpn => exact ackCoalesce t qpn
  | budgetAccept t part die => exact budgetAccept t part die
  | budgetWait t part die => exact budgetWait t part die
  | budgetRecompute t => exact budgetRecompute t
  | placement t part op => exact placement t part op
  | flushResponse t qpn psn => exact flushResponse t qpn psn
  | qpFlushComplete t qpn => exact qpFlushComplete t qpn
  | serviceMsgDequeue t part tenant => exact serviceMsgDequeue t part tenant
  | statusRecordPlace t part => exact statusRecordPlace t part
  | hostHamperPost t part tenant => exact hostHamperPost t part tenant
  | hostHamperCancel t part tenant => exact hostHamperCancel t part tenant
  | hostHamperQuery t part tenant => exact hostHamperQuery t part tenant
  | linkDown t port brk => exact linkDown t port brk
  | linkLost t port brk => exact linkLost t port brk
  | linkUp t port brk => exact linkUp t port brk
  | revokeForced t part idx => exact revokeForced t part idx
  | correctiveWrite t part fr page k => exact correctiveWrite t part fr page k
  | correctiveReread t part fr page k err => exact correctiveReread t part fr page k err
  | pageRebuild t part brick page => exact pageRebuild t part brick page
  | groutWriteback t part brick page why => exact groutWriteback t part brick page why
  | parityRecompute t part brick page => exact parityRecompute t part brick page
  | evacuateFrame t part course frame => exact evacuateFrame t part course frame
  | patrolRead t part course err => exact patrolRead t part course err
  | refresh t die ch rank class2 idle => exact refresh t die ch rank class2 idle
  | rfm t die ch sub rank b => exact rfm t die ch sub rank b
  | rowHammerRfm t die ch sub rank bank rows => exact rowHammerRfm t die ch sub rank bank rows
  | activateTableReset t => exact activateTableReset t
  | dimmTempSample t die ch slot temps ok => exact dimmTempSample t die ch slot temps ok
  | thermalExitReturn t die ch => exact thermalExitReturn t die ch
  | sidebandLost t die ch slot => exact sidebandLost t die ch slot
  | pmicStatusRead t die ch slot status fail => exact pmicStatusRead t die ch slot status fail
  | calibrationTrigger t phy why => exact calibrationTrigger t phy why
  | calibrationRun t phy run => exact calibrationRun t phy run
  | calibrationWindow t phy => exact calibrationWindow t phy
  | settingStep t phy => exact settingStep t phy
  | meshLinkRetrain t a port r => exact meshLinkRetrain t a port r
  | serviceLink t die => exact serviceLink t die
  | flashReadComplete t part brick unit outs => exact flashReadComplete t part brick unit outs
  | lowMarkEviction t part course => exact lowMarkEviction t part course
  | eviction t part brick => exact eviction t part brick
  | frameRelease t part brick => exact frameRelease t part brick
  | evictionRetry t part op => exact evictionRetry t part op
  | agingSweep t part => exact agingSweep t part
  | hamperEntryStart t part hamper => exact hamperEntryStart t part hamper
  | hamperDeadline t part hamper entry => exact hamperDeadline t part hamper entry
  | directWindowRecord t die part hamper entry => exact directWindowRecord t die part hamper entry
  | directWindowClose t part hamper entry => exact directWindowClose t part hamper entry
  | holdEnd t part hamper entry => exact holdEnd t part hamper entry
  | writeBack t part brick unit group => exact writeBack t part brick unit group
  | writeBackComplete t part brick unit ok group => exact writeBackComplete t part brick unit ok group
  | relocation t part group => exact relocation t part group
  | readDisturbRelocate t part ch ce lun block => exact readDisturbRelocate t part ch ce lun block
  | wearLevel t part group => exact wearLevel t part group
  | eraseSuperblock t part group sb => exact eraseSuperblock t part group sb
  | objectSectorErase t sector => exact objectSectorErase t sector
  | trackedPageWrite t part table index => exact trackedPageWrite t part table index
  | checkpoint t part => exact checkpoint t part
  | checkpointFooter t part => exact checkpointFooter t part
  | pwrFailNAssert t => exact pwrFailNAssert t
  | pwrFailNDeassert t => exact pwrFailNDeassert t
  | holdupOkLoss t => exact holdupOkLoss t
  | holdupOkHold t => exact holdupOkHold t
  | bmcEmergencyDrain t => exact bmcEmergencyDrain t
  | drainSet t part => exact drainSet t part
  | drainDone t part => exact drainDone t part
  | restore t r => exact restore t r
  | restoreTwinWait t part => exact restoreTwinWait t part
  | restoreExit t part => exact restoreExit t part
  | buildDone t part rep => exact buildDone t part rep
  | haltComplete t part => exact haltComplete t part
  | restartAfterCooling t part => exact restartAfterCooling t part
  | powerDown t => exact powerDown t
  | apply t part h es => exact apply t part h es
  | replicate t part h r => exact replicate t part h r
  | confirm t part h upTo => exact confirm t part h upTo
  | progress t part h ps => exact progress t part h ps
  | digest t part h epoch count d => exact digest t part h epoch count d
  | fetchReq t part h qpn first count => exact fetchReq t part h qpn first count
  | fetchData t part h qpn pkts => exact fetchData t part h qpn pkts
  | fetchNone t part h qpn => exact fetchNone t part h qpn
  | twinFetchTimeout t qpn => exact twinFetchTimeout t qpn
  | pageReq t part h brick page => exact pageReq t part h brick page
  | pageData t part h brick page data => exact pageData t part h brick page data
  | tableSync t part h body => exact tableSync t part h body
  | qpOpen t part h q => exact qpOpen t part h q
  | qpState t part h q => exact qpState t part h q
  | brickData t part h b => exact brickData t part h b
  | resyncEnd t part h => exact resyncEnd t part h
  | heartbeat t part h => exact heartbeat t part h
  | fenceNotice t part h reason => exact fenceNotice t part h reason
  | applySend t part => exact applySend t part
  | progressSend t part => exact progressSend t part
  | heartbeatSend t part path => exact heartbeatSend t part path
  | digestEpoch t part => exact digestEpoch t part
  | mirrorPathDown t part path => exact mirrorPathDown t part path
  | mirrorLost t part => exact mirrorLost t part
  | followerLagging t part => exact followerLagging t part
  | changeMapSwap t part => exact changeMapSwap t part
  | leaseRenew t part => exact leaseRenew t part
  | grant t part m => exact grant t part m
  | fence t part m => exact fence t part m
  | renew t part m => exact renew t part m
  | report t part m => exact report t part m
  | release t part m => exact release t part m
  | leaseExpiry t part group => exact leaseExpiry t part group
  | leaseGuard t part => exact leaseGuard t part
  | arbiterLost t part => exact arbiterLost t part
  | releaseResend t part => exact releaseResend t part
  | penquavinData t part die h payload ce => exact penquavinData t part die h payload ce
  | penquavinAck t part h a => exact penquavinAck t part h a
  | resend t part h => exact resend t part h
  | ackSend t part peer path => exact ackSend t part peer path
  | retransmitTimeout t part peer path pseq => exact retransmitTimeout t part peer path pseq
  | pathDown t part peer path => exact pathDown t part peer path
  | pathProbe t part peer path => exact pathProbe t part peer path
  | reasmTimeout t part src cls msg => exact reasmTimeout t part src cls msg
  | announceSend t part => exact announceSend t part
  | announce t part src a => exact announce t part src a
  | peerSilence t part peer => exact peerSilence t part peer
  | joinReq t part src ident => exact joinReq t part src ident
  | joinAccept t part src ident => exact joinAccept t part src ident
  | joinRefuse t part src cause retryAt => exact joinRefuse t part src cause retryAt
  | leave t part src => exact leave t part src
  | joinResend t part peer => exact joinResend t part peer
  | joinSlot t part peer => exact joinSlot t part peer
  | joinSlotRelease t part peer => exact joinSlotRelease t part peer
  | farRequest t part src r => exact farRequest t part src r
  | farResult t part src r => exact farResult t part src r
  | farRetry t part qpn sseq => exact farRetry t part qpn sseq
  | farTimeout t part qpn sseq => exact farTimeout t part qpn sseq
  | farClose t part src r => exact farClose t part src r
  | pauseFrame t port prio quanta => exact pauseFrame t port prio quanta
  | pauseRepeat t port f => exact pauseRepeat t port f
  | ptpAnnounce t f a => exact ptpAnnounce t f a
  | ptpSync t f src offset gm => exact ptpSync t f src offset gm
  | ppsEdge t offset => exact ppsEdge t offset
  | holdover t => exact holdover t
  | timeLost t => exact timeLost t
  | meterSample t part => exact meterSample t part
  | minuteCut t part => exact minuteCut t part
  | hourlyEvidence t part => exact hourlyEvidence t part
  | maintenanceSlot t part slot start => exact maintenanceSlot t part slot start
  | meterIndexFree t part idx => exact meterIndexFree t part idx
  | powerRequest t => exact powerRequest t
  | powerWithdraw t => exact powerWithdraw t
  | latchClear t => exact latchClear t
  | chainUpIn t level => exact chainUpIn t level
  | chainDnIn t level => exact chainDnIn t level
  | chainTimeout t => exact chainTimeout t
  | seqPgAssert t entry raw sns => exact seqPgAssert t entry raw sns
  | pgTimeout t entry => exact pgTimeout t entry
  | stepDelayEnd t entry => exact stepDelayEnd t entry
  | pllLock t locked => exact pllLock t locked
  | seqRetry t => exact seqRetry t
  | railFault t entry => exact railFault t entry
  | railDischarge t entry sns => exact railDischarge t entry sns
  | avsRead t rail mv ma ok fault => exact avsRead t rail mv ma ok fault
  | avsLost t rail => exact avsLost t rail
  | avsTargetWrite t => exact avsTargetWrite t
  | thermalUpdate t acts => exact thermalUpdate t acts
  | diodeRead t diode temp => exact diodeRead t diode temp
  | ambientWrite t bytes => exact ambientWrite t bytes
  | ambientStale t => exact ambientStale t
  | throttleTick t => exact throttleTick t
  | criticalTrip t => exact criticalTrip t
  | refclkLoss t => exact refclkLoss t
  | refclkRecover t => exact refclkRecover t
  | boot t => exact boot t
  | watchdogRestart t => exact watchdogRestart t
  | watchdogRecovery t => exact watchdogRecovery t
  | watchdogReset t => exact watchdogReset t
  | stewardReset t die st => exact stewardReset t die st
  | bootOk t target => exact bootOk t target
  | brownOut t => exact brownOut t
  | brownOutRelease t => exact brownOutRelease t
  | logSuppressed t => exact logSuppressed t
  | logSummary t => exact logSummary t
  | logSectorErase t => exact logSectorErase t
  | entropyFail t => exact entropyFail t
  | unwrapBurst t => exact unwrapBurst t
  | rekeyUnit t part slot => exact rekeyUnit t part slot
  | debugExpiry t => exact debugExpiry t
  | eapolRx t port brk frame => exact eapolRx t port brk frame
  | functionLevelReset t port => exact functionLevelReset t port
  | d3hotEntry t port => exact d3hotEntry t port
  | perstN t port level => exact perstN t port level
  | dmaFail t port what tag => exact dmaFail t port what tag
  | ownerLost t port => exact ownerLost t port
  | bar2Write t port off => exact bar2Write t port off
  | registerWrite t port off size v => exact registerWrite t port off size v
  | cfgLockOpen t port => exact cfgLockOpen t port
  | cfgLockClose t port => exact cfgLockClose t port
  | intStatusClear t port mask => exact intStatusClear t port mask
  | intEnableWrite t port value => exact intEnableWrite t port value
  | ringEnable t port ring => exact ringEnable t port ring
  | ringDisable t port ring => exact ringDisable t port ring
  | cmdTailDoorbell t port tail descs => exact cmdTailDoorbell t port tail descs
  | cplHeadWrite t port head => exact cplHeadWrite t port head
  | evtHeadWrite t port head => exact evtHeadWrite t port head
  | tmuxSelectWrite t port value => exact tmuxSelectWrite t port value
  | msixUnmask t port vec => exact msixUnmask t port vec
  | completionIntTimer t port => exact completionIntTimer t port
  | commandStart t port => exact commandStart t port
  | commandCompletion t port tag => exact commandCompletion t port tag
  | sidebandWrite t off bytes => exact sidebandWrite t off bytes
  | mailboxGo t => exact mailboxGo t
  | fwLoadChunk t off len flags sigOk => exact fwLoadChunk t off len flags sigOk
  | ibi t cause accepted => exact ibi t cause accepted
  | entdaa t addr => exact entdaa t addr
  | setdasa t addr => exact setdasa t addr
  | setnewda t addr => exact setnewda t addr
  | rstdaa t => exact rstdaa t
  | enec t => exact enec t
  | disec t => exact disec t
  | getpid t => exact getpid t
  | getbcr t => exact getbcr t
  | getdcr t => exact getdcr t
  | getstatus t => exact getstatus t
  | getmwl t => exact getmwl t
  | getmrl t => exact getmrl t
  | setmwl t n => exact setmwl t n
  | setmrl t n => exact setmrl t n
  | rstact t whole => exact rstact t whole
  | extest t => exact extest t
  | idcode t => exact idcode t
  | samplePreload t cells => exact samplePreload t cells
  | clamp t => exact clamp t
  | highz t => exact highz t
  | extestPulse t => exact extestPulse t
  | extestTrain t => exact extestTrain t
  | jtagStatus t => exact jtagStatus t
  | tmuxSel t v => exact tmuxSel t v
  | jtagDebug t scope => exact jtagDebug t scope
  | bypass t code => exact bypass t code
  | nop t c => exact nop t c
  | portClaim t c mask force => exact portClaim t c mask force
  | portRelease t c mask => exact portRelease t c mask
  | modeRequest t c part target => exact modeRequest t c part target
  | imageLoad t c len flags img => exact imageLoad t c len flags img
  | imagePatch t c len img => exact imagePatch t c len img
  | timeSet t c seconds => exact timeSet t c seconds
  | twinPair t c part start peer => exact twinPair t c part start peer
  | twinUnpair t c part => exact twinUnpair t c part
  | tenantAuthorise t c part a => exact tenantAuthorise t c part a
  | tenantWithdraw t c part tenant => exact tenantWithdraw t c part tenant
  | createQp t c part q => exact createQp t c part q
  | destroyQp t c part qpn => exact destroyQp t c part qpn
  | openWindow t c part w => exact openWindow t c part w
  | revokeWindow t c part key => exact revokeWindow t c part key
  | loadKey t c part slot src blob => exact loadKey t c part slot src blob
  | rekey t c part slot src blob rate => exact rekey t c part slot src blob rate
  | eraseKey t c part slot => exact eraseKey t c part slot
  | importKeySet t c key => exact importKeySet t c key
  | systemKeySet t c part which blob => exact systemKeySet t c part which blob
  | macsecMode t c port brk mode window => exact macsecMode t c port brk mode window
  | macsecKey t c port brk k => exact macsecKey t c port brk k
  | macsecTxSelect t c port brk an => exact macsecTxSelect t c port brk an
  | macsecDelete t c port brk dir sci an => exact macsecDelete t c port brk dir sci an
  | eapolSend t c port brk len frame => exact eapolSend t c port brk len frame
  | attest t c part kind slot nonce => exact attest t c part kind slot nonce
  | attestCert t c len => exact attestCert t c len
  | debugChallenge t c => exact debugChallenge t c
  | debugUnlock t c tok => exact debugUnlock t c tok
  | ownerSet t c blob => exact ownerSet t c blob
  | fwLoad t c len flags fw => exact fwLoad t c len flags fw
  | ropSet t c target => exact ropSet t c target
  | registerObject t c part o => exact registerObject t c part o
  | unregisterObject t c part obj => exact unregisterObject t c part obj
  | promote t c part obj first pages hold flags => exact promote t c part obj first pages hold flags
  | demote t c part obj target evict => exact demote t c part obj target evict
  | hamperPost t c part tenant count entries => exact hamperPost t c part tenant count entries
  | hamperCancel t c part hamper => exact hamperCancel t c part hamper
  | hamperQuery t c part hamper => exact hamperQuery t c part hamper
  | scrub t c part q => exact scrub t c part q
  | pprApply t c part kind mask limit outs => exact pprApply t c part kind mask limit outs
  | clearLost t c part brick page encipher => exact clearLost t c part brick page encipher
  | logFreeze t c freeze => exact logFreeze t c freeze
  | logRead t c first max => exact logRead t c first max
  | optionSet t c compat addr => exact optionSet t c compat addr
  | seqTableSet t c tab => exact seqTableSet t c tab
  | buildEntry t steward => exact buildEntry t steward
  | buildFail t part why rep => exact buildFail t part why rep
  | deviceConflictRetry t part peer => exact deviceConflictRetry t part peer
  | joinRetry t part peer => exact joinRetry t part peer
  | arpRequest t f addr => exact arpRequest t f addr
  | pcieLinkDown t port why => exact pcieLinkDown t port why
  | warmReset t die => exact warmReset t die
  | lunRetired t part ch ce lun => exact lunRetired t part ch ce lun
  | holdupOkEdge t level => exact holdupOkEdge t level
  | relocationComplete t part group ok => exact relocationComplete t part group ok
  | blockEraseComplete t part group sb failed => exact blockEraseComplete t part group sb failed

end Sys2Proof.Laws.Runs
end

