-- ==== Sys2Proof/Laws/Still.lean ====
section
/-! SUPPORT. A partition in which nothing is under way: what settles there settles nothing. -/
namespace Sys2Proof.Machine
open Sys2Proof

theorem farCloses_of_none (s : State) (p : Nat) (h : (s.fabric p).farStreams = []) : s.farCloses p = s := by simp [State.farCloses, h]

theorem clearLosts_of_none (s : State) (p : Nat) (h : s.running = []) : s.clearLosts p = s := by simp [State.clearLosts, h]

theorem finishRevokes_of_none (s : State) (p : Nat) (h : (s.remote p).windows.all (fun e => e.2.revoking.isNone) = true) : s.finishRevokes p = s := by
  unfold State.finishRevokes
  have : (s.remote p).windows.filter (fun e => e.2.revoking.isSome && (s.oldOps p e.1).isEmpty && e.2.forced != some s.now &&
      s.running.all (fun r => !(r.op == .revoke p e.1) || r.mseq == 0 || decide (r.mseq ≤ (s.twin p).confirmed) || !(s.twin p).mirrors)) = [] := by
    rw [List.filter_eq_nil_iff]
    intro e he
    have := List.all_eq_true.mp h e he
    cases hr : e.2.revoking <;> simp_all
  rw [this]; rfl

theorem settle_of_still (s : State) (p : Nat) (h : s.still p = true) : s.settle p = s := by
  simp only [State.still, Bool.and_eq_true, Bool.not_eq_true', List.isEmpty_iff] at h
  obtain ⟨⟨⟨⟨h1, h2⟩, h3⟩, h4⟩, h5⟩ := h
  have ht : s.twinSettle p = s := by simp [State.twinSettle, h1]
  have hw : s.forwardHeld p = s := by simp [State.forwardHeld, h2]
  have hr : s.serveReads p = s := by simp [State.serveReads, h2]
  have hf : s.farFlushes p = s := by simp [State.farFlushes, h2]
  simp [State.settle, State.settleFar, ht, hw, hr, hf, farCloses_of_none s p h3, finishRevokes_of_none s p h4, clearLosts_of_none s p h5]

/-- Where MACsec is off a frame is handled as it came. -/
theorem frameIn_of_off (s : State) (port brk : Nat) (tag : Option SecTag) (f : State → State) (h : (s.macPort port brk).mode = 0) :
    s.frameIn port brk tag f = f s := by simp [State.frameIn, h]

/-- Where MACsec is off a packet leaves as it is. -/
theorem sendOn_of_off (s : State) (port brk : Nat) (o : Out) (h : (s.macPort port brk).mode = 0) : s.sendOn port brk o = s.send o := by
  simp [State.sendOn, MacPort.txAssoc, h]

/-- With no other command waiting, a timer that expires does what it does: nothing it awaits comes on its cycle. -/
theorem timer_of_alone (t : Nat) (s : State) (l : List Awaited) (f : State → State) (h : s.pending = []) : timer t s l f = run t s f := by
  have hs : ∀ a, (s.upTo t).sooner a = false := fun a => by simp [State.sooner, State.upTo, h]
  have : l.any (s.upTo t).sooner = false := by simp [List.any_eq_false, hs]
  simp [timer, run, this]

/-- The same for a timer of the service die. -/
theorem timerSvc_of_alone (t : Nat) (s : State) (l : List Awaited) (f : State → State) (h : s.pending = []) : timerSvc t s l f = run t s f := by
  have hs : ∀ a, (s.upTo t).soonerSvc a = false := fun a => by simp [State.soonerSvc, State.upTo, h]
  have : l.any (s.upTo t).soonerSvc = false := by simp [List.any_eq_false, hs]
  simp [timerSvc, run, this]

/-- Which events wait on the cycle of the decision is a matter of the clock and the queue alone. -/
theorem sooner_congr {s u : State} (hn : u.now = s.now) (hp : u.pending = s.pending) (a : Awaited) : u.sooner a = s.sooner a := by simp [State.sooner, hn, hp]
theorem soonerSvc_congr {s u : State} (hn : u.now = s.now) (hp : u.pending = s.pending) (a : Awaited) : u.soonerSvc a = s.soonerSvc a := by
  simp [State.soonerSvc, hn, hp]

/-- The key checks read the clock, the queue and the partition's tables (R116, R130). -/
theorem keyCheck_congr {s u : State} (p n : Nat) (key : BitVec 32) (hn : u.now = s.now) (hp : u.pending = s.pending) (hr : u.remote p = s.remote p) :
    u.keyCheck p n key = s.keyCheck p n key := by
  unfold State.keyCheck; simp only [hr, sooner_congr hn hp]

end Sys2Proof.Machine
end

