-- ==== Sys2Proof/Tests/Slice0.lean ====
section
/-! SUPPORT. Checks of single steps on small states: every well-formedness check refuses an ill-formed term, and every clause of an obligation with hypotheses
has a state and operands that meet them. -/
set_option Elab.async false
open Sys2Proof Sys2Proof.Machine

/-! ### A small machine in service -/

/-- A payload of zeros but for some little-endian fields: offset, width, value. -/
def Demo.payload (len : Nat) (fs : List (Nat × Nat × Nat)) : List Byte := fs.foldl (fun b f => patchBytes b f.1 (natLE f.2.1 f.2.2)) (fill len 0)

/-- The effective image of the demonstration: partition 0 on dies 0 and 1 with the Ethernet port 0, one course, one flash channel, one profile, one class. -/
def Demo.records : List ImgRec :=
  [{ typ := 1, part := 0, inst := 0, payload := Demo.payload 64 [(0, 1, 3), (2, 2, 1), (4, 4, 0x11), (8, 8, 1), (16, 4, 4), (20, 2, 1), (24, 4, 8)] },
   { typ := 3, part := 0xFF, inst := 0, payload := Demo.payload 24 [(0, 2, 1), (2, 2, 16), (6, 2, 512), (10, 2, 1)] },
   { typ := 3, part := 0xFF, inst := 1, payload := Demo.payload 24 [(0, 2, 1), (2, 2, 16), (6, 2, 512), (10, 2, 1)] },
   { typ := 4, part := 0, inst := 0, payload := Demo.payload 8 [] },
   { typ := 5, part := 0, inst := 0, payload := Demo.payload 48 [(0, 2, 4), (4, 4, 8), (28, 4, 1), (32, 4, 4), (36, 4, 4), (40, 1, 4)] },
   { typ := 9, part := 0, inst := 0, payload := Demo.payload 120 [(4, 2, 7), (6, 2, 49310), (8, 2, 4096), (20, 4, 65536), (26, 2, 50), (31, 1, 1), (119, 1, 9)] }]

def Demo.course : Course :=
  { w := 2, d := 2, order := .spray, p := 2, dies := [0, 1], channels := [(0, 0), (1, 0)], r := 1, h := 1, rows := 65536, frames := 8, metaFrames := 0,
    inService := true, retired := [], hand := 0, metaMoved := [], metaDue := [] }

def Demo.part : Part :=
  { Part.reset with mode := { ModeSt.reset with mode := .serve }, store := { StoreP.reset with courses := [(0, Demo.course)], brickCount := 4 }, dieMask := 3 }

/-- The demonstration: the package on, partition 0 in SERVE. -/
def Demo.s : State :=
  { State.reset with pkg := .on, parts := [(0, Demo.part)], svc := { Service.reset with booted := true }, image := { ImageSt.reset with eff := Demo.records } }

/-- A command of control port 0. -/
def Demo.c : CmdRef := { port := 0, tag := 5, irq := false }

/-- The state that a command answers with. -/
def Demo.next (i : Instr) (s : State) : State :=
  match exec i s with
  | .next u => u
  | _ => s

/-! ### The queue, the anchors -/

theorem test_frontRuns : (match step { State.reset with pending := [.idcode 3, .extest 4] } with | .next u => u.pending == [.extest 4] && u.svc.tap.instr == 1 && u.now == 3 | _ => false) = true ∧
    (match step State.reset with | .next u => u == State.reset | _ => false) = true := by decide +kernel
/-- A part at ROP2 with floors 3, 4 and 5. -/
def Demo.sealed : State := Demo.s.modNv (fun n => { n with
  anchors := [{ typ := 1, seq := 1, value := 2 }, { typ := 3, seq := 2, value := 3 }, { typ := 4, seq := 3, value := 4 }, { typ := 5, seq := 4, value := 5 }] })
theorem test_lockedForGood : Locked 3 4 5 Demo.sealed ∧ (match step Demo.sealed with | .next u => u == Demo.sealed | _ => false) = true := by
  unfold Locked; decide +kernel
theorem test_runs : Host.Core.run Sys2Proof.core 2 State.reset = .next State.reset := rfl

/-! ### The sideband and test access -/

def Demo.sideband (f : Sideband → Sideband) : State := Demo.s.modSb f
def Demo.sbOf (u : State) : Sideband := u.svc.sideband
theorem test_sidebandAddress : (Demo.sbOf (Demo.next (.setdasa 9 0x30) Demo.s)).dynAddr = some 0x30 ∧
    (Demo.sbOf (Demo.next (.setnewda 9 0x31) (Demo.sideband (fun b => { b with dynAddr := some 5 })))).dynAddr = some 0x31 ∧
    (Demo.sbOf (Demo.next (.setnewda 9 0x31) Demo.s)).dynAddr = none ∧ (Demo.sbOf (Demo.next (.setmwl 9 0xFFFF) Demo.s)).mwl = 4160 := by decide +kernel
theorem test_sidebandReads : (Demo.next (.getbcr 9) Demo.s).out = [Out.sideband [6]] ∧ (Demo.sbOf (Demo.next (.getmwl 9) Demo.s)).lastCcc = [0x10, 0x40] := by decide +kernel
theorem test_sidebandWrite : Demo.s.svc.booted = true ∧ (let u := Demo.next (.sidebandWrite 9 0xFFF [1, 2]) (Demo.sideband (fun b => { b with data := [(0, 7), (1, 8)] }))
    u.svc.sideband.data = [(0, 2), (1, 8)] ∧ u.svc.sideband.readPtr = 0) ∧ (Demo.sbOf (Demo.next (.sidebandWrite 9 65535 []) Demo.s)).readPtr = 65535 := by decide +kernel
theorem test_mailboxGo : let a := Demo.sideband (fun b => { b with busy := true })
    let b := Demo.sideband (fun b => { b with opcode := 0x101 })
    let c := Demo.sideband (fun b => { b with opcode := 0x601 })
    a.svc.sideband.busy = true ∧ b.mbxTakes 0x101 = false ∧ EndsAs b (Demo.next (.mailboxGo 9) b) mbxRef 0x101 .badOpcode ∧ c.mbxTakes 0x601 = true ∧
      fieldsFit (fill 8 0 ++ c.svc.sideband.params) (mbxFields 0x601) 8 = true ∧ (Demo.sbOf (Demo.next (.mailboxGo 9) c)).busy = true := by unfold EndsAs; decide +kernel
theorem test_ibi : let a := Demo.sideband (fun b => { b with ibiEnabled := true, dynAddr := some 9, ibiPending := [255] })
    aget a.svc.sideband.ibiLast 255 = none ∧ (Demo.next (.ibi 9 255 true) a).out = [Out.ibi 255] ∧ (Demo.sbOf (Demo.next (.ibi 9 255 true) a)).ibiPending = [] := by decide +kernel
def Demo.chunk : State :=
  { Demo.sideband (fun b => { b with busy := true, opcode := 0x310, data := [(0, 9)], fwLoad := some { target := 0, copy := 1, bytes := [3] } }) with pkg := .cold }
theorem test_fwLoadChunk : Demo.chunk.fwMode = true ∧ (let u := Demo.next (.fwLoadChunk 9 1 1 0 true) Demo.chunk
    u.svc.sideband.fwLoad.map (·.bytes) = some [3, 9] ∧ EndsAs Demo.chunk u mbxRef 0x310 .ok) := by unfold EndsAs; decide +kernel
theorem test_pins : Demo.s.pinsFree = false ∧ State.reset.pinsFree = true ∧ (Demo.next (.highz 9) State.reset).svc.tap.pins = .highz ∧
    (Demo.next (.highz 9) Demo.s).svc.tap.instr = 0xFF ∧ bit (Demo.next (.highz 9) Demo.s).tapStatus 6 = true := by decide +kernel
theorem test_tap : let a := Demo.s.modSec (fun x => { x with scopes := [3] })
    a.sec.scopes.contains 3 = true ∧ (Demo.next (.jtagDebug 9 3) a).svc.tap.instr = 0x33 ∧ Demo.s.sec.scopes.contains 0 = false ∧ Demo.s.ropLevel ≠ 0 ∧
      (Demo.next (.jtagDebug 9 0) Demo.s).svc.tap.instr = 0xFF ∧ tapKnown 0x05 = false ∧ (Demo.next (.tmuxSel 9 0x73) Demo.s).svc.pins.tmuxDie = 7 := by decide +kernel
theorem test_sidebandWrite_special : 4 ≤ Demo.s.svc.sideband.mwl ∧ Demo.s.svc.fwStatus ≠ 1 ∧
    (Demo.next (.sidebandWrite 9 0x40 (natLE 2 400)) Demo.s).svc.thermal.ambient = 400 ∧ (Demo.next (.sidebandWrite 9 0x44 (natLE 4 0x44524E31)) Demo.s).mode 0 = .drain := by decide +kernel

/-! ### Control ports -/

/-- The demonstration after the 100 ms of R712, its port 0 changed. -/
def Demo.ctl (f : CtlPort → CtlPort) : State := { Demo.s with now := 1000000000 }.modPort 0 f
def Demo.port0 (u : State) : CtlPort := (u.ports[0]?).getD CtlPort.reset
theorem test_portLock : (({ Demo.s with now := 1000000000 } : State).upTo 9).portOpen 0 = true ∧ (Demo.port0 (Demo.next (.cfgLockOpen 9 0) (Demo.ctl id))).lockOpen = true ∧
    (Demo.port0 (Demo.next (.cfgLockClose 9 0) (Demo.ctl (fun p => { p with lockOpen := true })))).lockOpen = false := by decide +kernel
theorem test_tmuxSelect : let w := Instr.tmuxSelectWrite 9 0 0x25
    (Demo.next w (Demo.ctl (fun p => { p with lockOpen := true }))).svc.pins.tmuxGroup = 5 ∧ (Demo.port0 (Demo.next w (Demo.ctl id))).violations = 1 ∧ (Demo.port0 (Demo.next w (Demo.ctl id))).unsupported = 0 ∧
      (Demo.port0 (Demo.next w (Demo.ctl (fun p => { p with violations := 65534 })))).violations = 65535 ∧
      (Demo.port0 (Demo.next w (Demo.ctl (fun p => { p with violations := 65535 })))).violations = 65535 := by decide +kernel
theorem test_interrupts : (Demo.port0 (Demo.next (.intStatusClear 9 0 4) (Demo.ctl (fun p => { p with intStatus := 6 })))).intStatus = 2 ∧
    (Demo.port0 (Demo.ctl id)).intStatus = 0 ∧ (Demo.port0 (Demo.next (.intEnableWrite 9 0 0x1FFFF) (Demo.ctl id))).intEnable = 0x1FFFF := by decide +kernel
theorem test_registerWrite : (Demo.port0 (Demo.next (.registerWrite 9 0 0x1009 4 ⟨1, []⟩) (Demo.ctl id))).unsupported = 1 ∧
    (Demo.port0 (Demo.next (.registerWrite 9 0 0x100C 8 ⟨1, []⟩) (Demo.ctl id))).unsupported = 1 ∧
    (Demo.port0 (Demo.next (.registerWrite 9 0 0xEFFFC 4 ⟨1, []⟩) (Demo.ctl id))).unsupported = 0 ∧
    (Demo.port0 (Demo.next (.registerWrite 9 0 0x1008 4 ⟨0xFFFFFFFF, []⟩) (Demo.ctl id))).apertureSel = 0xFFFF00F3 ∧
    (Demo.port0 (Demo.next (.bar2Write 9 0 (2 ^ 36 - 1)) (Demo.ctl id))).unsupported = 1 := by decide +kernel
theorem test_msixUnmask : let a := Demo.ctl (fun p => { p with pendingBits := [255] })
    (Demo.port0 a).msixEnable = true ∧ (Demo.next (.msixUnmask 9 0 255) a).out = [Out.vector 0 255] ∧ (Demo.next (.msixUnmask 9 0 254) a).out = [] := by decide +kernel
theorem test_ringEnable : let at_ (l : Nat) := Demo.ctl (fun p => { p with cmd := { p.cmd with log2 := l } })
    ((Demo.port0 (at_ 6)).ring .cmd).log2 = 6 ∧ (Demo.port0 (Demo.next (.ringEnable 9 0 .cmd) (at_ 6))).cmd.enable = true ∧
      (Demo.port0 (Demo.next (.ringEnable 9 0 .cmd) (at_ 12))).cmd.cause = .none ∧
      (Demo.port0 (Demo.next (.ringEnable 9 0 .cmd) (at_ 5))).cmd.cause = .badSize ∧ (Demo.port0 (Demo.next (.ringEnable 9 0 .cmd) (at_ 13))).cmd.enable = false := by decide +kernel
def Demo.ring : RingSt := { RingSt.reset with enable := true, stopped := false, cause := .none, log2 := 6 }
def Demo.ringed (f : CtlPort → CtlPort) : State := Demo.ctl (fun p => f { p with cmd := Demo.ring, cpl := Demo.ring, evt := Demo.ring })
theorem test_ringDisable : (Demo.port0 (Demo.next (.ringDisable 9 0 .cmd) (Demo.ringed id))).cmd.cause = .disabled := by decide +kernel
def Demo.desc : List Byte := patchBytes (fill 64 0) 0 [1, 0, 0, 0, 5]
theorem test_cmdTailDoorbell : (Demo.port0 (Demo.ctl id)).cmd.enable = false ∧ (Demo.port0 (Demo.next (.cmdTailDoorbell 9 0 1 [Demo.desc]) (Demo.ctl id))).cmd.tail = 0 ∧
    (Demo.port0 (Demo.ringed id)).cmd.size = 64 ∧ (Demo.port0 (Demo.next (.cmdTailDoorbell 9 0 64 [Demo.desc]) (Demo.ringed id))).cmd.cause = .badDoorbell ∧
    Demo.desc.length = 64 ∧ (Demo.port0 (Demo.next (.cmdTailDoorbell 9 0 1 [Demo.desc]) (Demo.ringed id))).journal.map (fun e => (e.desc, e.status, e.jseq)) =
      [(Demo.desc, .running, 1)] := by decide +kernel
theorem test_headDoorbells : (Demo.port0 (Demo.next (.cplHeadWrite 9 0 63) (Demo.ringed id))).cpl.head = 63 ∧ (Demo.port0 (Demo.next (.evtHeadWrite 9 0 63) (Demo.ringed id))).evt.head = 63 ∧
    (Demo.port0 (Demo.next (.cplHeadWrite 9 0 64) (Demo.ringed id))).cpl.cause = .badDoorbell ∧ (Demo.port0 (Demo.ringed id)).eventsDropped = 0 := by decide +kernel
theorem test_completionIntTimer : let a := Demo.ringed (fun p => { p with unsignalled := 1, oldestUnsignalled := some 999998400, cplIntTime := 1, unmasked := [0] })
    999998400 + 1 * 1600 ≤ decided 9 a ∧ (Demo.next (.completionIntTimer 9 0) a).out = [Out.vector 0 0] ∧ (Demo.port0 (Demo.next (.completionIntTimer 9 0) a)).unsignalled = 0 := by decide +kernel
def Demo.entry0 : JEntry :=
  { desc := Demo.desc, tag := 5, opcode := 1, status := .running, detail := 0, result := [], jseq := 1, fetched := 0, completed := none, written := false, at_ := 0, started := none }
def Demo.journaled (d : List Byte) : State := Demo.ringed (fun p => { p with jseq := 1, journal := [{ Demo.entry0 with desc := d }] })
theorem test_portResets : (Demo.journaled Demo.desc).portExists 0 = true ∧ (Demo.port0 (Demo.journaled Demo.desc)).unwritten = [] ∧
    (let q := Demo.port0 (Demo.next (.d3hotEntry 9 0) (Demo.journaled Demo.desc)); q.cmd = RingSt.reset ∧ q.jseq = 1 ∧ q.d3hot = true ∧ q.journal = [Demo.entry0]) := by decide +kernel
theorem test_links : (Demo.port0 (Demo.next (.perstN 9 0 true) (Demo.ctl (fun p => { p with perst := true })))).perstHighAt = 1000000000 ∧
    (Demo.port0 (Demo.next (.perstN 9 0 false) (Demo.ringed id))).perst = true ∧ (Demo.port0 (Demo.next (.pcieLinkDown 9 0 .refclk) (Demo.ringed id))).evt.cause = .reset := by decide +kernel
theorem test_ownerLost : let a := (Demo.ctl (fun p => { p with linkDownSince := some 0 })).modPart 0 (fun P => { P with owner := .port0 })
    (a.part? 0).map (·.owner) = some (portOwner 0) ∧ 0 + 1600000000 ≤ decided 1600000000 a ∧
      ((Demo.next (.ownerLost 1600000000 0) a).part? 0).map (·.owner) = some .both := by decide +kernel
theorem test_warmReset : let a := (Demo.ctl id).modDie 1 (fun D => { D with fabricCounters := [("x", 2)] })
    (a.die? 1).map (·.fabricCounters) = some [("x", 2)] ∧ ((Demo.next (.warmReset 9 1) a).die? 1).map (·.fabricCounters) = some [] ∧
      (Demo.port0 a).unwritten = [] ∧ (a.ports[1]?).map (·.unwritten) = some [] := by decide +kernel
theorem test_dmaFail : (Demo.port0 (Demo.next (.dmaFail 9 0 .descriptor 5) (Demo.ringed id))).cmd.cause = .dma ∧
    (Demo.port0 (Demo.next (.dmaFail 9 0 .completion 5) (Demo.ringed id))).cpl.cause = .dma ∧ (Demo.port0 (Demo.journaled Demo.desc)).entry? 5 = some Demo.entry0 ∧
    ((Demo.next (.dmaFail 9 0 .command 5) (Demo.journaled Demo.desc)).outcomes 0).map (fun x => (x.tag, x.status, x.opcode)) = [(5, .dmaFail, 1)] := by decide +kernel
theorem test_eapolRx : let a := { Demo.s with eapol := [(3, (255, []))] }
    a.pkg = .on ∧ 3 < 2 * a.dieCount ∧ aget (Demo.next (.eapolRx 9 3 0 [1]) a).eapol 3 = some (0, [{ slot := 255, frame := [1] }]) := by decide +kernel
theorem test_commandStart : let a := Demo.journaled Demo.desc
    let b := Demo.journaled (patchBytes Demo.desc 0 [0xFF, 0xFF])
    a.mayStart { port := 0, entry := Demo.entry0 } = true ∧ descFault Demo.desc = none ∧ ((Demo.port0 (Demo.next (.commandStart 9 0) a)).journal.map (·.started)) = [some 1000000000] ∧
      cmdFields 0xFFFF = none ∧ ((Demo.next (.commandStart 9 0) b).outcomes 0).map (·.status) = [.badOpcode] := by decide +kernel
def Demo.endedNop : Ended := { tag := 5, opcode := 1, irq := false, status := .ok, detail := 0, result := [], cfg := true }
theorem test_commandCompletion : let a := Demo.sideband (fun b => { b with busy := true, ended := [Demo.endedNop] })
    let b := Demo.ctl (fun p => { p with ended := [Demo.endedNop] })
    a.svc.sideband.ended = [Demo.endedNop] ∧ (Demo.next (.commandCompletion 9 2 5) a).svc.sideband.doneBit = true ∧ (Demo.next (.commandCompletion 9 2 5) a).configGen = 1 ∧
      (Demo.port0 b).cpl.enable = false ∧ (Demo.next (.commandCompletion 9 0 5) b).outcomes 0 = [] ∧ (Demo.next (.commandCompletion 9 0 5) b).configGen = 1 := by decide +kernel
/-- A write of eight bytes takes its low word and its high word, and an index is what stands in its low 12 bits (R15, R17). -/
theorem test_registerPairs : (let u := Demo.next (.registerWrite 9 0 0x1008 8 ⟨(0x2500000010 : BitVec 64), []⟩) (Demo.ctl id)
     ((Demo.port0 u).apertureSel, (Demo.port0 u).violations) = (0x10, 1)) ∧
    (Demo.port0 (Demo.next (.cmdTailDoorbell 9 0 (4096 + 1) [Demo.desc]) (Demo.ringed id))).cmd.tail = 1 ∧
    (let a := Demo.ctl (fun p => { p with intStatus := 6, intAt := [(2, 1000000000)] })
     (Demo.port0 (Demo.next (.intStatusClear 9 0 6) a)).intStatus = 4) ∧
    (let a := Demo.ringed (fun p => { p with cplIntCount := 0, ended := [{ Demo.endedNop with cfg := false }] })
     (Demo.port0 a).cpl.active = true ∧ (Demo.port0 a).cpl.full = false ∧ (a.upTo 9).cplStops 0 = false ∧ (Demo.port0 a).cplIntCount = 0 ∧
       (Demo.next (.commandCompletion 9 0 5) a).out = [Out.completion 0 0 true { Demo.endedNop with cfg := false }]) := by decide +kernel
/-- The entries of the brick map and of the flash map, the latter the manual's example (R59, R326), and the former in the table window (R750). -/
theorem test_tableWindow : FMap.word { loc := { ch := 5, ce := 2, lun := 1, block := 3071, page := 412 }, keyHalf := [0, 0, 0, 0] } = 0x003380BFF50B := by decide +kernel

/-! ### Keys, MACsec, attestation and debug access -/

def Demo.key : KeySlot := { KeySlot.reset with state := .active, part := some 0, half0 := [1], loadCount := 1 }
def Demo.keys : State := Demo.s.modSec (fun x => { x with slots := [(3, Demo.key), (4, { Demo.key with half0 := [2] })], sys := [(1, fill 32 7)] })

theorem test_loadKey : Demo.keys.still 0 = true ∧ Demo.keys.admits Demo.c 0 modesOpen = true ∧ Demo.keys.engine = true ∧ (Demo.keys.slot 5).state = .empty := by
  decide +kernel
theorem test_rekey : Demo.keys.admits Demo.c 0 modesServing = true ∧ (Demo.keys.slot 3).state = .active ∧ (Demo.keys.slot 3).part = some 0 ∧
    (Demo.keys.upTo 9).soonerSvc (.erase 3) = false ∧ (let s : State := { Demo.keys with pending := [.eraseKey 9 Demo.c 0 3] }
      (s.upTo 9).soonerSvc (.erase 3) = true ∧ EndsAs s (Demo.next (.rekey 9 Demo.c 0 3 0 [] 5) s) Demo.c 0x302 .notLoaded) := by unfold EndsAs; decide +kernel
theorem test_eraseKey : let u := Demo.next (.eraseKey 9 Demo.c 0 3) Demo.keys
    EndsAs Demo.keys u Demo.c 0x303 .ok [] true ∧ u.slot 3 = { KeySlot.reset with loadCount := 1, lastErase := 5 } ∧ u.slot 4 = Demo.keys.slot 4 ∧
      (u.die? 1).map (fun D => aget D.remote.eraseStamps 3) = some (some 9) ∧ (u.die? 2).map (fun D => aget D.remote.eraseStamps 3) = some none := by
  unfold EndsAs; decide +kernel
def Demo.idle : State := Demo.keys.modMode 0 (fun m => { m with mode := .service })
theorem test_importKeySet : Demo.idle.canEnd Demo.c = true ∧ Demo.idle.engine = true ∧ Demo.idle.ownsAll Demo.c = true ∧ Demo.idle.allService = true ∧
    Demo.idle.ropLevel ≠ 2 ∧ aget (Demo.next (.importKeySet 9 Demo.c (fill 32 8)) Demo.idle).sec.sys 1 = some (fill 32 8) := by decide +kernel
theorem test_systemKeySet : Demo.keys.pkg = .on ∧ Demo.keys.hasPart 0 = true ∧ Demo.keys.owns Demo.c 0 = true ∧ Demo.keys.mode 0 ≠ .drain ∧
    Demo.keys.sec.unwrapFails = [] ∧ Demo.keys.sec.unwrapRefuseUntil = none ∧ aget Demo.keys.sec.sys 1 = some (fill 32 7) := by decide +kernel
def Demo.assoc : Assoc := { tx := true, sci := 1, an := 2, ssci := 0, salt := fill 12 0, pn := 1, key := fill 32 3 }
def Demo.mac : State := Demo.keys.modMac 0 0 (fun m => { m with assocs := [Demo.assoc, { Demo.assoc with tx := false }] })
theorem test_macsec : Demo.mac.canEnd Demo.c = true ∧ Demo.mac.portPart 0 0 = some 0 ∧ Demo.mac.owns Demo.c 0 = true ∧
    Demo.mac.macPort 0 0 = { MacPort.reset with assocs := [Demo.assoc, { Demo.assoc with tx := false }] } := by decide +kernel
theorem test_macsecMode : let u := Demo.next (.macsecMode 9 Demo.c 0 0 2 64) Demo.mac
    u.macPort 0 0 = { Demo.mac.macPort 0 0 with mode := 2, window := 64 } ∧ EndsAs Demo.mac u Demo.c 0x306 .ok := by unfold EndsAs; decide +kernel
theorem test_macsecKey : (Demo.mac.macPort 0 0).full { tx := false, sci := 1, an := 1, ssci := 0, salt := fill 12 0, pn := 1, blob := [] } = false := by decide +kernel
theorem test_macsecTxSelect : (Demo.mac.macPort 0 0).assocs.any (fun a => a.tx && a.an == 2) = true ∧
    ((Demo.next (.macsecTxSelect 9 Demo.c 0 0 2) Demo.mac).macPort 0 0).txAn = some 2 := by decide +kernel
theorem test_macsecDelete : (Demo.mac.macPort 0 0).assocs.any (fun a => !a.tx && a.an == 2 && a.sci == 1) = true ∧
    ((Demo.next (.macsecDelete 9 Demo.c 0 0 0 1 2) Demo.mac).macPort 0 0).assocs = [Demo.assoc] := by decide +kernel
/-- MUST at port 0, and a transmit association at a packet number. -/
def Demo.must (pn : Nat) : State := Demo.mac.modMac 0 0 (fun m => { m with mode := 2, txAn := some 2, assocs := [{ Demo.assoc with pn := pn }, { Demo.assoc with tx := false, pn := 40 }] })
def Demo.tag (pn : Nat) : Option SecTag := some { sci := 1, an := 2, pn := pn }
theorem test_macsecReceive : let m := (Demo.must 1).macPort 0 0
    m.covers none = false ∧ m.covers (Demo.tag 3) = true ∧ m.fresh (Demo.tag 3) = false ∧ m.fresh (Demo.tag 40) = true ∧
      ((Demo.next (.cnp 9 ⟨{ port := 0, brk := 0, tag := none }, 4⟩) (Demo.must 1)).macPort 0 0).drops = 1 ∧
      ((Demo.next (.cmRtu 9 ⟨{ port := 0, brk := 0, tag := Demo.tag 3 }, 4⟩) (Demo.must 1)).macPort 0 0).drops = 1 ∧
      ((Demo.next (.cmRtu 9 ⟨{ port := 0, brk := 0, tag := Demo.tag 41 }, 4⟩) (Demo.must 1)).macPort 0 0).drops = 0 := by decide +kernel
def Demo.frame : List Byte := fill 12 0 ++ [0x88, 0x8E] ++ fill 46 0
theorem test_eapolSend : Demo.frame.length = 60 ∧ beAt Demo.frame 12 2 = 0x888E ∧
    (Demo.next (.eapolSend 9 Demo.c 0 0 60 Demo.frame) Demo.mac).out = [Out.frame 0 0 Demo.frame] := by decide +kernel
theorem test_attestCert : (Demo.next (.attestCert 9 ⟨Demo.c, 64⟩ 2) (Demo.s.modNv (fun n => { n with certChain := [1, 2, 3] }))).out = [Out.dma 0 64 [1, 2]] := by decide +kernel
theorem test_debugChallenge : Demo.s.ownsAll Demo.c = true ∧ Demo.s.sec.drbgStopped = false := by decide +kernel
def Demo.unlocked : State := (Demo.idle.modSec (fun x => { x with challenge := some (fill 64 9) })).modNv (fun n => { n with anchors := [{ typ := 1, seq := 1, value := 0 }] })
def Demo.token : Signed := { bytes := fill 16 0 ++ fill 64 9 ++ fill 64 9 ++ fill 7211 0, sigOk := true }
theorem test_debugUnlock_raise : let s : State := { Demo.unlocked with pending := [.ropSet 9 Demo.c 1] }
    (s.upTo 9).raiseWaits = true ∧ (Demo.unlocked.upTo 9).raiseWaits = false ∧ EndsAs s (Demo.next (.debugUnlock 9 Demo.c Demo.token) s) Demo.c 0x30E .badChallenge ∧
    (Demo.next (.ropSet 9 Demo.c 1) { Demo.unlocked with pending := [.debugUnlock 9 Demo.c Demo.token] }).sec.challenge = none := by unfold EndsAs; decide +kernel
theorem test_debugUnlock : Demo.unlocked.ropLevel = 0 ∧ Demo.unlocked.sec.challenge = some (slice Demo.token.bytes 16 64) ∧
    (Demo.next (.debugUnlock 9 Demo.c { Demo.token with bytes := [] }) Demo.unlocked).sec.challenge = some (fill 64 9) := by decide +kernel
def Demo.blob : Signed := { bytes := fill 64 5 ++ fill 64 9 ++ [1] ++ fill 7226 0, sigOk := false }
theorem test_ownerSet : Demo.idle.allService = true ∧ Demo.idle.svc.nv.opt.ownerHash = [] ∧ Demo.blob.bytes.length = 7355 ∧ allZero (slice Demo.blob.bytes 129 7) = true ∧
    allZero (slice Demo.blob.bytes 0 64) = false ∧ (let s := Demo.unlocked; let u := Demo.next (.ownerSet 9 Demo.c Demo.blob) s
      EndsAs s u Demo.c 0x30F .ok ∧ u.svc.nv.opt.ownerHash = fill 64 5 ∧ u.svc.nv.opt.vendorDebug = true ∧ u.sec.challenge = none) := by unfold EndsAs; decide +kernel
theorem test_attest : Demo.idle.hasPart 0 = true ∧ Demo.idle.engine = true ∧ Demo.idle.pkg = .on := by decide +kernel

/-! ### Tenants, queue pairs, windows and objects -/

def Demo.tenant : Tenant :=
  { cls := 0, slot := 0xFFFF, token := fill 16 7, hostHampers := true, farDevices := [], reserve := 1, meter := 0, badCredentials := 0, degradedFlush := 0 }
def Demo.qp : Qp := { newQp Demo.s 0 0 0 .ready false 0 5 2 77 10 0 0 0 0 4 0 0 with qpn := mkQpn 0 1 0 }
def Demo.win : Win :=
  { baseVa := 0, length := 4194304, gen := 1, firstBrick := 0, tenant := 2, profile := 0, rights := 31, farDevice := 0, valid := true, far := false, ring := none,
    revoking := none, forced := none, retired := false }
def Demo.object : Object := { part := 0, first := 0, bricks := 2, placement := 0, tenant := 2, courses := 0, removed := false, freeing := none }
def Demo.brick : Brick := { newBrick 2 0 0 with res := some (0, 1), valid := 3 }
/-- With tenant 2, its READY QP, window 0, object 0 of two bricks, brick 0 in DRAM with pages 0 and 1. -/
def Demo.full : State :=
  let s := (Demo.s.modRemote 0 (fun r => { r with tenants := [(2, Demo.tenant)], windows := [(0, Demo.win)], checkKey := some (0, 1), nextOp := 1,
                                                   budget := { Budget.reset with pages := 64, data := 60, meta_ := 4, homeFree := 40 } })).modRd 0
    (fun r => { r with qps := [(0, Demo.qp)], credit := 16 })
  let s := s.modStore 0 (fun S => { S with bricks := [(0, Demo.brick), (1, newBrick 2 0 0)],
                                           pages := [((0, 0), { Page.empty with filled := true }), ((0, 1), { Page.empty with filled := true })] })
  { s with storeNv := { s.storeNv with objects := [(0, Demo.object)] } }

theorem test_full : Demo.full.still 0 = true ∧ Demo.full.admits Demo.c 0 modesServing = true ∧ Demo.full.live 0 = true := by decide +kernel
def Demo.auth : TenAuth := { cls := 0, tenant := 3, slot := 0xFFFF, hostHampers := false, token := fill 16 1, far := [] }
theorem test_tenantAuthorise : Demo.full.engine = true ∧ (Demo.full.tclass? 0 0).map (·.maxTenants) = some 4 ∧ Demo.full.classCount 0 0 3 < 4 ∧
    8 * Demo.full.reservesWith 0 3 (Demo.full.tclass? 0 0) ≤ 7 * (Demo.full.store 0).pool ∧ (Demo.full.upTo 9).freeMeter 0 = some 0 ∧
    (let u := Demo.next (.tenantAuthorise 9 Demo.c 0 Demo.auth) Demo.full
     EndsAs Demo.full u Demo.c 0x201 .ok [] true ∧ aget (u.meterSt 0).index 3 = some 0 ∧
     aget (u.remote 0).tenants 3 = some { Demo.tenant with token := fill 16 1, hostHampers := false }) := by unfold EndsAs; decide +kernel
theorem test_tenantWithdraw : let s := (Demo.full.modRemote 0 (fun r => { r with windows := [] })).modRd 0 (fun r => { r with qps := [] })
    s.openWindows 0 = [] ∧ s.tenantQps 0 2 = 0 ∧ (s.store 0).hampers = [] ∧ (let u := Demo.next (.tenantWithdraw 9 Demo.c 0 2) s
      EndsAs s u Demo.c 0x202 .ok [] true ∧ aget (u.remote 0).tenants 2 = none) := by unfold EndsAs; decide +kernel
def Demo.newQp : NewQp := { port := 0, brk := 0, pmtu := 5, tenant := 2, dscp := 0, respRes := 4, dest := 9, epsn := 3, vlan := 0, mac := 0, ip := 0 }
theorem test_createQp : Demo.full.partHasPort 0 0 = true ∧ 0 < Demo.full.breakouts 0 0 ∧ Demo.full.freeSlot 0 0 false = some 1 ∧ Demo.full.tenantQps 0 2 < 8 ∧
    (Demo.full.tenantClass 0 2).map (·.qpLimit) = some 8 ∧ (let u := Demo.next (.createQp 9 Demo.c 0 Demo.newQp) Demo.full
      EndsAs Demo.full u Demo.c 0x203 .ok (natLE 4 (mkQpn 0 1 1).toNat) ∧
      (u.qp? (mkQpn 0 1 1)).map (fun x => (x.state, x.twinned, x.tenant, x.dest, x.epsn)) = some (QpState.ready, false, 2, 9, 3)) := by unfold EndsAs; decide +kernel
theorem test_destroyQp : (Demo.full.partDies 0).contains (qpnDie (mkQpn 0 1 0)) = true ∧ Demo.full.qp? (mkQpn 0 1 0) = some Demo.qp ∧ Demo.qp.state = .ready ∧
    (Demo.next (.destroyQp 9 Demo.c 0 (mkQpn 0 1 0)) Demo.full).qp? (mkQpn 0 1 0) = some { Demo.qp with state := .closing, closingAt := some 9 } := by decide +kernel
theorem test_destroyQp_others : let at_ (st : QpState) := Demo.full.modRd 0 (fun r => { r with qps := [(0, { Demo.qp with state := st })] })
    EndsAs (at_ .timewait) (Demo.next (.destroyQp 9 Demo.c 0 (mkQpn 0 1 0)) (at_ .timewait)) Demo.c 0x204 .ok ∧
      (Demo.next (.destroyQp 9 Demo.c 0 (mkQpn 0 1 0)) (at_ .error)).running.map (·.op) = [.destroyQp 0 (mkQpn 0 1 0).toNat] := by unfold EndsAs; decide +kernel
def Demo.winReq : WinReq :=
  { profile := 0, rights := 31, far := false, tenant := 2, farDevice := 0, baseVa := 0, length := 4194304, firstBrick := 0, ringOrder := 0, ringKey := 0, ringVa := 0 }
def Demo.unopened : State := Demo.full.modRemote 0 (fun r => { r with windows := [(0, { Demo.win with valid := false, gen := 2 })] })
theorem test_openWindow : Demo.unopened.still 0 = true ∧ Demo.unopened.inBricks 0 0 2 = true ∧ Demo.unopened.allOf 0 2 0 2 = true ∧ Demo.unopened.openWindows 0 = [] ∧
    0 < Demo.unopened.windowLimit 0 ∧ (Demo.unopened.profile? 0 0).isSome = true ∧ Demo.unopened.freeIndex 0 = some 0 ∧ (winOfReq Demo.winReq 0).bricks = 2 ∧
    (let u := Demo.next (.openWindow 9 Demo.c 0 Demo.winReq) Demo.unopened
     EndsAs Demo.unopened u Demo.c 0x205 .ok (natLE 4 (mkKey (0, 1) 2 0).toNat) true ∧ aget (u.remote 0).windows 0 = some { Demo.win with gen := 2 } ∧
     (u.die? 1).map (fun D => aget D.remote.replica 0) = some (some 2)) := by unfold EndsAs; decide +kernel
def Demo.farWin : WinReq := { Demo.winReq with far := true, farDevice := 8 }
theorem test_openWindow_far : let s := Demo.unopened.modFabric 0 (fun F => { F with peers := [(8, { Peer.reset with state := .joined })] })
    s.still 0 = true ∧ s.admits Demo.c 0 modesServing = true ∧ (s.peer 0 8).state = .joined ∧ (s.winProfile 0 (winOfReq Demo.farWin 0)).durability = 0 ∧
      s.ringOk 0 (winOfReq Demo.farWin 0) = true ∧ ((Demo.next (.openWindow 9 Demo.c 0 Demo.farWin) s).fabric 0).farProbes.map (·.peer) = [8] := by decide +kernel
def Demo.winKey : BitVec 32 := mkKey (0, 1) 1 0
theorem test_revokeWindow : bits Demo.winKey.toNat 23 6 = 0 ∧ bits Demo.winKey.toNat 31 24 = 1 ∧ check6 0 1 1 0 = bits Demo.winKey.toNat 5 0 ∧
    (let u := Demo.next (.revokeWindow 9 Demo.c 0 Demo.winKey) Demo.full
     EndsAs Demo.full u Demo.c 0x206 .ok [] true ∧ (aget (u.remote 0).windows 0).map (fun x => (x.valid, x.gen, x.revoking)) = some (false, 2, none) ∧
     (u.die? 1).map (fun D => aget D.remote.revokeStamps 0) = some (some 9)) := by unfold EndsAs; decide +kernel
theorem test_revokeWindow_notOpen : let s := Demo.full.modRemote 0 (fun r => { r with windows := [] })
    aget (s.remote 0).windows 0 = none ∧ EndsAs s (Demo.next (.revokeWindow 9 Demo.c 0 Demo.winKey) s) Demo.c 0x206 .notOpen := by unfold EndsAs; decide +kernel
def Demo.op : Op :=
  { id := 0, die := 0, qpn := mkQpn 0 1 0, psn := 10, kind := .write, tenant := 2, win := 0, gen := 1, profile := { keystone := false, durability := 0, encipher := false, prio := 0 },
    addr := 0, len := 64, data := fill 64 5, msn := 0, msgLen := 64, last := true, decided := 0, accepted := none, charged := [], ring := none, beforeMsn := 0,
    beforeCur := none, direct := [], stalledAt := none, farTo := none, sseq := none, mirrored := false, farFrom := none, silent := false, duplicate := false, keys := none,
    ringDue := false, scope := [], merged := [], captured := [] }
def Demo.revoking : State :=
  Demo.full.modRemote 0 (fun r => { r with ops := [Demo.op], windows := [(0, { Demo.win with valid := false, gen := 2, revoking := some 0 })] })
theorem test_revokeForced : (Demo.revoking.twin 0).paired = false ∧ Demo.revoking.running = [] ∧ Demo.revoking.hasPart 0 = true ∧ (Demo.revoking.fabric 0).farStreams = [] ∧
    Demo.revoking.pending = [] ∧ (Demo.revoking.macPort 0 0).mode = 0 ∧ (Demo.revoking.fabric 0).farSent = [] ∧
    0 + 100 * cMs ≤ decided 160000000 Demo.revoking ∧ Demo.revoking.qp? (mkQpn 0 1 0) = some Demo.qp ∧
    ((Demo.next (.revokeForced 160000000 0 0) Demo.revoking).qp? (mkQpn 0 1 0)).map (fun y => (y.state, y.errCause, y.errStamp)) =
      some (QpState.error, 0x21, 160000000) := by decide +kernel
def Demo.objReq : ObjReq := { tenant := 2, first := 2, bricks := 2, placement := 0, courses := 0 }
theorem test_registerObject : Demo.full.inBricks 0 2 2 = true ∧ (Demo.full.store 0).allocatedIn 2 2 = [] ∧ Demo.full.freeObject = some 1 ∧
    (let u := Demo.next (.registerObject 9 Demo.c 0 Demo.objReq) Demo.full
     EndsAs Demo.full u Demo.c 0x401 .ok (natLE 4 1) true ∧ aget u.storeNv.objects 1 = some { Demo.object with first := 2 } ∧
     (u.store 0).brick? 3 = some (newBrick 2 0 1)) := by unfold EndsAs; decide +kernel
theorem test_unregisterObject : Demo.unopened.object? 0 0 = some Demo.object ∧ (Demo.unopened.store 0).hampers = [] ∧ (Demo.unopened.store 0).frameWaits = [] ∧
    (let u := Demo.next (.unregisterObject 9 Demo.c 0 0) Demo.unopened
     (u.store 0).brick? 1 = none ∧ u.object? 0 0 = none ∧
       u.running = [{ cmd := Demo.c, opcode := 0x402, op := .unregister 0 0, since := 9, mseq := 0 }]) := by decide +kernel
def Demo.entry : HampEntry := { object := 0, persistent := false, first := 0, pages := 8, deadline := 0, holdMs := 5, bad := false }
def Demo.queued : Entry :=
  { object := 0, persistent := false, first := 0, pages := 8, deadline := 0, holdMs := 5, state := .queued, heldAt := 0, holdEnd := none }
def Demo.hamper : Hamper := { tenant := 2, byHost := false, entries := [Demo.queued], changed := 5, direct := 0 }
theorem test_promote : Demo.full.hamperFull 0 2 = false ∧ Demo.full.flashDirect 0 Demo.object = false ∧ (Demo.full.store 0).freeHamper = some 0 ∧
    ((Demo.next (.promote 9 Demo.c 0 0 0 8 5 0) Demo.full).store 0).hampers = [(0, Demo.hamper)] := by decide +kernel
theorem test_demote : ((Demo.next (.demote 9 Demo.c 0 0 2 false) Demo.full).store 0).brick? 0 = some { Demo.brick with placement := 2 } ∧
    EndsAs Demo.full (Demo.next (.demote 9 Demo.c 0 0 2 false) Demo.full) Demo.c 0x404 .ok [] true := by unfold EndsAs; decide +kernel
theorem test_hamperPost : Demo.full.objectOf 0 2 0 = some Demo.object ∧ ((Demo.next (.hamperPost 9 Demo.c 0 2 1 [Demo.entry]) Demo.full).store 0).hampers = [(0, Demo.hamper)] ∧
    EndsAs Demo.full (Demo.next (.hamperPost 9 Demo.c 0 2 1 [Demo.entry]) Demo.full) Demo.c 0x405 .ok (countResult 0 1) := by unfold EndsAs; decide +kernel
def Demo.posted : State := Demo.full.modStore 0 (fun S => { S with hampers := [(0, Demo.hamper)] })
theorem test_hamperCancel : aget (Demo.posted.store 0).hampers 0 = some Demo.hamper ∧ (let u := Demo.next (.hamperCancel 9 Demo.c 0 0) Demo.posted
    EndsAs Demo.posted u Demo.c 0x406 .ok (countResult 0 1) ∧ aget (u.store 0).hampers 0 = none) := by unfold EndsAs; decide +kernel
theorem test_hamperQuery : EndsAs Demo.posted (Demo.next (.hamperQuery 9 Demo.c 0 0) Demo.posted) Demo.c 0x407 .ok (Demo.posted.hamperResult 0 0) := by unfold EndsAs; decide +kernel
def Demo.scrub : ScrubReq := { kind := 1, scope := 0, course := 0, first := 0, bricks := 0, rate := 5, addr := 256 }
theorem test_scrub : Demo.s.still 0 = true ∧ Demo.s.admits Demo.c 0 modesOpen = true ∧ (Demo.s.store 0).scrub = none ∧ (Demo.s.store 0).bricks = [] ∧ (Demo.s.store 0).errs = [] ∧
    (let u := Demo.next (.scrub 9 Demo.c 0 ⟨Demo.scrub, [], []⟩) Demo.s
     ((u.store 0).scrub.map (fun x => (x.addr, x.port)), u.running.map (·.opcode)) = (some (256, 0), [0x501])) := by decide +kernel
def Demo.spare : SpareRow := { die := 0, ch := 0, slot := 0, sub := 0, rank := 0, bg := 0, ba := 0, row := 7, status := .pending, faults := 2, attempts := 0, time := 0 }
def Demo.spares : State := { Demo.idle with storeNv := { Demo.idle.storeNv with spare := [Demo.spare] } }
/-- Its row out of service, as a pending entry of the map keeps it. -/
def Demo.outRow : State := Demo.spares.modStore 0 (fun S => { S with out := [.row Demo.spare.place] })
theorem test_pprApply : Demo.outRow.field 1 0 0 4 4 0 = 0x11 ∧ Demo.outRow.still 0 = true ∧ Demo.outRow.admits Demo.c 0 [.service] = true ∧
    (Demo.outRow.upTo 9).spareUnits 0 = Demo.outRow.upTo 9 ∧ (Demo.outRow.storeNv.spare.filter (fun r => r.toTry 0x11 false)).length = 1 ∧ (Demo.outRow.partDies 0) = [0, 1] ∧
    (let u := Demo.next (.pprApply 9 Demo.c 0 0 0x11 0 [.pass]) Demo.outRow
     (u.storeNv.spare, u.running.map (·.op)) = ([Demo.spare], [.ppr 0 false 0x11 [.pass]])) := by decide +kernel
/-- A command of port 0 that is under way, with the completion ring off. -/
def Demo.underway (s : State) (op : LongOp) : State :=
  { s with running := [{ cmd := Demo.c, opcode := 0x502, op := op, since := 0, mseq := 0 }] }.modPort 0 (fun p => { p with jseq := 1, journal := [{ Demo.entry0 with started := some 0 }] })
theorem test_commandEnds : let a := Demo.underway Demo.spares (.ppr 0 false 0x11 [.pass])
    (Demo.port0 a).entry? 5 = some { Demo.entry0 with started := some 0 } ∧ a.heldEnds = [] ∧ (Demo.port0 a).ended = [] ∧ (Demo.port0 a).posted = [] ∧ (Demo.port0 a).cpl.enable = false ∧
      (a.store 0).out = [] ∧ (applyPpr 0x11 false a.storeNv.spare [.pass]).all (fun x => !x.out) = true ∧
      (let u := Demo.next (.commandCompletion 9 0 5) a
       (u.running, u.storeNv.spare, (Demo.port0 u).journal.map (fun j => (j.status, j.result))) =
         ([], [{ Demo.spare with status := .spprApplied }], [(.ok, natLE 4 1 ++ natLE 4 0 ++ natLE 4 0)])) := by decide +kernel
theorem test_scrubEnds : let a := Demo.underway (Demo.next (.scrub 9 Demo.c 0 ⟨Demo.scrub, [], []⟩) Demo.s) (.scrub 0)
    let u := Demo.next (.commandCompletion 9 0 5) a
    (a.store 0).scrub.isSome = true ∧ (u.store 0).scrub = none ∧ u.running = [] ∧ u.out.length = 1 := by decide +kernel
/-- What leaves a QP in TIMEWAIT under a transmit association takes its next number (R597). -/
def Demo.sealedOut (pn : Nat) : State :=
  (Demo.full.modRd 0 (fun r => { r with qps := [(0, { Demo.qp with state := .timewait })] })).modMac 0 0 (fun m => { m with mode := 2, txAn := some 2, assocs := [{ Demo.assoc with pn := pn }] })
theorem test_macsecTransmit : ((Demo.sealedOut 1).macPort 0 0).txAssoc = some { Demo.assoc with pn := 1 } ∧ ((Demo.sealedOut 1).macPort 1 0).mode = 0 ∧ (Demo.sealedOut 1).mode 0 ≠ .drain ∧
    (let u := Demo.next (.cmDreq 9 ⟨{ port := 1, brk := 0, tag := none }, (mkQpn 0 1 0)⟩) (Demo.sealedOut 1)
     ((u.macPort 0 0).assocs.map (·.pn), u.out) = ([2], [Out.cm (udpSource 1) (mkQpn 0 1 0) .drep])) ∧
    (let u := Demo.next (.cmDreq 9 ⟨{ port := 1, brk := 0, tag := none }, (mkQpn 0 1 0)⟩) (Demo.sealedOut (2 ^ 64 - 1))
     ((u.macPort 0 0).drops, u.out) = (1, [])) := by decide +kernel
def Demo.lost : State :=
  { Demo.unopened with storeNv := { Demo.unopened.storeNv with lost := [{ slot := 0, part := 0, brick := 0, page := 4, cause := 1, tenant := 2, time := 0 }] } }
theorem test_clearLost : Demo.lost.listed 0 0 4 = true ∧ 0 < (Demo.lost.remote 0).budget.homeFree ∧ (Demo.lost.store 0).resident 0 = true ∧
    (let u := Demo.next (.clearLost 9 Demo.c 0 0 4 false) Demo.lost
     EndsAs Demo.lost u Demo.c 0x503 .ok ∧ u.listed 0 0 4 = false ∧ (u.store 0).valid 0 4 = true ∧ ((u.store 0).page 0 4).dirty = true ∧
       (u.remote 0).budget.charged = 1) := by unfold EndsAs; decide +kernel
/-- The entry of brick 0 in the table window, laid out from R59's table: ALLOC and RES, REKEY_CURSOR 512, frame 1, tenant 2. -/
theorem test_brickWindow : let a : State := { Demo.full with now := 1000000000 }
    (a.store 0).brick? 0 = some Demo.brick ∧ a.brickCount 0 = 4 ∧
      (Demo.next (.registerWrite 9 0 0x1008 4 ⟨16, []⟩) a).readBar2 0 windowBase 8 = [0x03, 0x00, 0x21, 0x00, 0x00, 0x20, 0x00, 0x00] := by decide +kernel

/-! ### Hampers, DRAM channels, calibration, links -/

/-- An entry over page 8 on, none of it VALID. -/
def Demo.quiet : Entry := { Demo.queued with first := 8, deadline := 0 }
def Demo.waiting (e : Entry) : State := Demo.full.modStore 0 (fun S => { S with hampers := [(0, { Demo.hamper with entries := [e] })] })
theorem test_hamperEntryStart : let s := Demo.waiting Demo.quiet
    s.still 0 = true ∧ s.live 0 = true ∧ s.serving 0 = true ∧ (s.entryPages Demo.quiet).all (fun g => !(s.store 0).valid g.1 g.2) = true ∧
      (s.store 0).pinned 2 + (s.entryBricks Demo.quiet).length ≤ s.pinLimit 0 2 ∧ (s.flash 0).reads = [] ∧
      (let u := Demo.next (.hamperEntryStart 9 0 0) s
       ((u.store 0).entry? 0 0).map (fun y => (y.state, y.heldAt)) = some (EntryState.held, 5) ∧ ((u.store 0).brick? 0).map (·.pin) = some true) := by decide +kernel
def Demo.timed : Entry := { Demo.quiet with deadline := 3 }
theorem test_hamperDeadline : fabAt (Demo.waiting Demo.timed) 9 = 5 ∧
    ((Demo.next (.hamperDeadline 9 0 0 0) (Demo.waiting Demo.timed)).store 0).direct =
      [{ hamper := 0, entry := 0, object := 0, first := 8, pages := 8, ends := some 5000003, dies := [] }] ∧
    aget ((Demo.next (.hamperDeadline 9 0 0 0) (Demo.waiting Demo.timed)).store 0).hampers 0 = none := by decide +kernel
theorem test_hamperDeadline_persistent :
    ((((Demo.next (.hamperDeadline 9 0 0 0) (Demo.waiting { Demo.timed with persistent := true })).store 0).entry? 0 0).map (·.state)) = some .late := by decide +kernel
def Demo.heldEntry : Entry := { Demo.quiet with state := .held, holdEnd := some 4 }
theorem test_holdEnd : let u := Demo.next (.holdEnd 9 0 0 0) ((Demo.waiting Demo.heldEntry).modBrick 0 0 (fun B => { B with pin := true }))
    (u.store 0).hampers = [] ∧ ((u.store 0).brick? 0).map (·.pin) = some false := by decide +kernel
def Demo.direct : State := (Demo.waiting Demo.timed).modStore 0 (fun S => { S with direct :=
  [{ hamper := 0, entry := 0, object := 0, first := 0, pages := 8, ends := some 4, dies := [] }, { hamper := 1, entry := 0, object := 0, first := 0, pages := 8, ends := none, dies := [] }] })
theorem test_directWindowRecord : ((Demo.next (.directWindowRecord 9 1 0 0 0) Demo.direct).store 0).direct.map (·.dies) = [[1], []] := by decide +kernel
theorem test_directWindowClose : ((Demo.next (.directWindowClose 9 0 0 0) Demo.direct).store 0).direct.map (·.hamper) = [1] := by decide +kernel
def Demo.work (typ : Nat) (body : List Byte) : SvcWork := { tenant := 2, qpn := mkQpn 0 1 0, typ := typ, tag := 6, key := 0, va := 64, body := body, early := none }
def Demo.postBody : List Byte := natBE 2 1 ++ fill 6 0 ++ natBE 4 0 ++ natBE 4 0 ++ natBE 4 8 ++ natBE 8 99 ++ natBE 2 5 ++ fill 2 0
def Demo.worked (w : SvcWork) : State := Demo.posted.modRemote 0 (fun r => { r with svcWork := [w] })
theorem test_hostHamperPost : let s := Demo.worked (Demo.work 1 Demo.postBody)
    beAt Demo.postBody 0 2 = 1 ∧ allZero (slice Demo.postBody 2 6) = true ∧ Demo.postBody.length = 32 ∧ s.hamperFull 0 2 = false ∧
      s.entriesOk 0 2 false 0 (hostEntries Demo.postBody 1) = true ∧ (s.store 0).freeHamper = some 1 ∧
      ((Demo.next (.hostHamperPost 9 0 2) s).remote 0).statusRecs = [{ tenant := 2, key := 0, va := 64, bytes := natLE 2 6 ++ natLE 1 1 ++ natLE 1 0 ++ natLE 8 5 ++ countResult 1 1 }] ∧
      ((Demo.next (.hostHamperPost 9 0 2) s).store 0).hampers.map (·.1) = [0, 1] := by decide +kernel
theorem test_hostHamperCancel : let s := Demo.worked (Demo.work 2 (fill 8 0))
    (let u := Demo.next (.hostHamperCancel 9 0 2) s
     (u.remote 0).svcWork = [] ∧ aget (u.store 0).hampers 0 = none ∧ (u.remote 0).statusRecs.length = 1) := by decide +kernel
theorem test_hostHamperQuery : let s := Demo.worked (Demo.work 3 (fill 8 0))
    ((Demo.next (.hostHamperQuery 9 0 2) s).remote 0).statusRecs.map (·.bytes.drop 12) = [s.hamperResult 0 0] := by decide +kernel

def Demo.rank : RankSt := { slot := 0, refi := 0, below95 := none, below85 := none, postponed := 0, pulledIn := 0, retired := false, nextRef := 0, trfc1 := 410, busyUntil := 0, windowUntil := 0, corrections := [] }
def Demo.channel : ChannelSt := { inService := true, hot := false, coolSince := none, exitAt := none, under85Since := none, calibratedSinceExit := [] }
def Demo.dimm : Dimm := { kind := 0, gib := 64, serial := 1, temp := 640, sampleAt := 0, goodAt := 0, tempOk := true, pmic := 0, pmicFailed := false }
def Demo.bank : BankSt := { rfm := true, raa := 40, raaimt := 32, raammt := 96, table := [(7, 3)] }
def Demo.dram : State := Demo.s.modDram 0 (fun D =>
  { D with ranks := [((0, 0), Demo.rank)], channels := [(0, Demo.channel)], dimms := [((0, 0), Demo.dimm)], banks := [((0, 0, 0, 5), Demo.bank)] })
theorem test_refresh : Demo.dram.pkg = .on ∧ (let u := Demo.next (.refresh 6240 0 0 0 false false) Demo.dram
      aget (u.dram 0).ranks (0, 0) = some { Demo.rank with nextRef := 6240, busyUntil := 6896 } ∧ aget (u.dram 0).banks (0, 0, 0, 5) = some { Demo.bank with raa := 8 }) ∧
    aget ((Demo.next (.refresh 6240 0 0 0 true false) Demo.dram).dram 0).ranks (0, 0) = some { Demo.rank with nextRef := 6240, postponed := 1 } := by decide +kernel
def Demo.plainBank : State := Demo.dram.modDram 0 (fun D => { D with banks := [((0, 0, 0, 5), { Demo.bank with rfm := false })] })
theorem test_rfm : (Demo.dram.upTo 9).rankFree 0 0 0 = true ∧ aget ((Demo.next (.rfm 9 0 0 0 0 ⟨5, []⟩) Demo.dram).dram 0).banks (0, 0, 0, 5) = some { Demo.bank with raa := 8 } ∧
    1 < Demo.plainBank.hammerLimit 0 ∧
    aget ((Demo.next (.rfm 9 0 0 0 0 ⟨5, [4]⟩) Demo.plainBank).dram 0).banks (0, 0, 0, 5) = some { Demo.bank with rfm := false, raa := 41, table := [(7, 3), (4, 1)] } := by decide +kernel
theorem test_rowHammerRfm : let a := Demo.dram.modDram 0 (fun D => { D with banks := [((0, 0, 0, 5), { Demo.bank with table := [(7, 2 ^ 20)] })] })
    a.hammerLimit 0 ≤ 2 ^ 20 + 1 ∧
      aget ((Demo.next (.rowHammerRfm 9 0 0 0 0 5 [7]) a).dram 0).banks (0, 0, 0, 5) = some { Demo.bank with raa := 9, table := [(7, 0)] } := by decide +kernel
theorem test_activateTableReset : (Demo.dram.dram 0).tableResetAt + 32 * cMs ≤ decided 51200000 Demo.dram ∧
    aget ((Demo.next (.activateTableReset 51200000) Demo.dram).dram 0).banks (0, 0, 0, 5) = some { Demo.bank with table := [] } := by decide +kernel
theorem test_dimmTempSample : aget ((Demo.next (.dimmTempSample 9 0 0 0 [800] true) Demo.dram).dram 0).dimms (0, 0) = some { Demo.dimm with temp := 800, sampleAt := 9, goodAt := 9 } := by
  decide +kernel
theorem test_dimmTempSample_exit : let u := Demo.next (.dimmTempSample 9 3 0 0 [1700] true) (Demo.dram.modDram 3 (fun _ => Demo.dram.dram 0))
    (aget (u.dram 3).channels 0).map (fun c => (c.inService, c.hot)) = some (false, true) ∧ u.svc.log.recs.map (·.code) = [.thermalExit] := by decide +kernel
theorem test_pmicStatusRead_fails : let a := Demo.s.modDram 3 (fun _ => Demo.dram.dram 0)
    a.partOfDie 3 = none ∧ (aget ((Demo.next (.pmicStatusRead 9 3 0 0 3 true) a).dram 3).ranks (0, 0)).map (·.retired) = some true := by decide +kernel
theorem test_pmicStatusRead : aget ((Demo.next (.pmicStatusRead 9 0 0 0 3 false) Demo.dram).dram 0).dimms (0, 0) = some { Demo.dimm with pmic := 3 } := by decide +kernel
/-- DIMM 0 of a channel of die 3, which no partition holds, unread since reset. -/
def Demo.deaf : State := Demo.s.modDram 3 (fun D => { D with channels := [(0, Demo.channel)], dimms := [((0, 0), { Demo.dimm with tempOk := false })] })
theorem test_sidebandLost : Demo.deaf.partOfDie 3 = none ∧ 0 + 10 * cS ≤ decided 16000000000 Demo.deaf ∧
    (aget ((Demo.next (.sidebandLost 16000000000 3 0 0) Demo.deaf).dram 3).channels 0).map (fun c => (c.inService, c.exitAt)) = some (false, some 16000000000) := by decide +kernel
theorem test_thermalExitReturn : let s := Demo.dram.modDram 0 (fun D => { D with channels := [(0, { Demo.channel with inService := false, exitAt := some 0, under85Since := some 0, calibratedSinceExit := [0] })] })
    s.partOfDie 0 = some 0 ∧ s.still 0 = true ∧ (s.store 0).frameWaits = [] ∧ ((s.dram 0).ranksOf 0).all (fun r => [0].contains r) = true ∧
      0 + 60 * cS ≤ decided 96000000000 s ∧
      (aget ((Demo.next (.thermalExitReturn 96000000000 0 0) s).dram 0).channels 0).map (fun c => (c.inService, c.exitAt)) = some (true, none) := by decide +kernel

def Demo.phy : Phy := { Phy.reset with setting := [3, 4] }
def Demo.cal (x : Phy) : State := { Demo.s with phys := [(.dram 0 0 0, x)] }
def Demo.noisy : RateMeas := { ber := 20000, uncorrectable := 0, iterations := 0, retries := 0 }
def Demo.lane (x : Phy) : State := { Demo.s with phys := [(.port 0, x)] }
theorem test_calibrationTrigger : ((Demo.lane Demo.phy).upTo 9).errorRate (.port 0) Demo.noisy = true ∧
    aget (Demo.next (.calibrationTrigger 9 (.port 0) ⟨.errorRate, Demo.noisy⟩) (Demo.lane Demo.phy)).phys (.port 0) = some { Demo.phy with pending := some .errorRate } := by decide +kernel
theorem test_calibrationAbsorbed : aget (Demo.next (.calibrationTrigger 9 (.port 0) ⟨.errorRate, Demo.noisy⟩) (Demo.lane { Demo.phy with running := true })).phys (.port 0) =
    some { Demo.phy with running := true, absorbed := Demo.phy.absorbed + 1 } ∧
    aget (Demo.next (.calibrationTrigger 9 (.port 0) ⟨.errorRate, Demo.noisy⟩) (Demo.lane { Demo.phy with pending := some .entry })).phys (.port 0) =
    some { Demo.phy with pending := some .entry, absorbed := Demo.phy.absorbed + 1 } := by decide +kernel
theorem test_calibrationAbsorbedByTime : (Demo.cal { Demo.phy with running := true, runTemp := 600 }).tempMoved (.dram 0 0 0) = true ∧
    aget (Demo.next (.calibrationTrigger 9 (.dram 0 0 0) ⟨.temperature, Demo.noisy⟩) (Demo.cal { Demo.phy with running := true, runTemp := 600 })).phys (.dram 0 0 0) =
    some { Demo.phy with running := true, runTemp := 600, absorbed := Demo.phy.absorbed + 1 } ∧
    aget (Demo.next (.calibrationTrigger (24 * 3600 * cS) (.dram 0 0 0) ⟨.hours, Demo.noisy⟩) (Demo.cal { Demo.phy with running := true })).phys (.dram 0 0 0) =
    some { Demo.phy with running := true, absorbed := Demo.phy.absorbed + 1 } := by decide +kernel
def Demo.due : Phy := { Demo.phy with pending := some .entry }
/-- The interface of a rank whose next refresh is due at a cycle. -/
def Demo.window (next : Nat) : State :=
  { Demo.dram.modDram 0 (fun D => { D with ranks := [((0, 0), { Demo.rank with nextRef := next })] }) with phys := [(.dram 0 0 0, Demo.due)] }
theorem test_calibrationWindow : (Demo.window 10).mayCalibrate (.dram 0 0 0) = true ∧
    (let u := Demo.next (.calibrationWindow 9 (.dram 0 0 0)) (Demo.window 10)
     aget u.phys (.dram 0 0 0) = some { Demo.due with running := true, lastWindow := some 9, windows := 1 } ∧
       (aget (u.dram 0).ranks (0, 0)).map (fun k => (k.nextRef, k.windowUntil)) = some (10, 32009)) ∧
    (let u := Demo.next (.calibrationWindow 9 (.dram 0 0 0)) (Demo.window 9)
     (aget u.phys (.dram 0 0 0)).map (·.lastWindow) = some (some 665) ∧
       (aget (u.dram 0).ranks (0, 0)).map (fun k => (k.nextRef, k.busyUntil, k.windowUntil)) = some (6249, 665, 32665)) := by decide +kernel
def Demo.meas : CalMeas := { items := [.readDelay, .readVref], runs := [[6, 9], [7, 9]], temp := 0, eye := [30, 10, 30, 10, 30] }
def Demo.ran (m : CalMeas) : Option (Nat × Option (List Int) × List Int) :=
  (aget (Demo.next (.calibrationRun 9 (.dram 0 0 0) m) (Demo.cal { Demo.due with windows := 2 })).phys (.dram 0 0 0)).map (fun y => (y.unstable, y.target, y.setting))
theorem test_calibrationRun : (Demo.cal Demo.due).mayCalibrate (.dram 0 0 0) = true ∧ chooseSetting Demo.meas (CalItem.inService (.dram 0 0 0)) [3, 4] = some [6, 9] ∧ Phy.windowed { Demo.due with windows := 2 } (.dram 0 0 0) Demo.meas = true ∧
    PhyId.eyeWorks (.dram 0 0 0) Demo.meas.eye = true ∧ chooseSetting { Demo.meas with runs := [[6, 9], [9, 9]] } (CalItem.inService (.dram 0 0 0)) [3, 4] = none := by decide +kernel
theorem test_calibrationRuns : Demo.ran Demo.meas = some (0, some [6, 9], [3, 4]) ∧ Demo.ran { Demo.meas with runs := [[6, 9], [9, 9]] } = some (1, none, [3, 4]) := by decide +kernel
theorem test_settingStep : let x := { Demo.phy with target := some [6, 9] }
    0 + 2 * cUs ≤ decided 3200 (Demo.cal x) ∧
      aget (Demo.next (.settingStep 3200 (.dram 0 0 0)) (Demo.cal x)).phys (.dram 0 0 0) = some { x with setting := [4, 4], stepAt := 3200 } := by decide +kernel
theorem test_meshLinkRetrain : meshNeighbour Demo.s.hw.member 0 1 = some 1 ∧ (Demo.s.die? 0).map (fun D => D.meshUp[1]?) = some (some true) ∧
    ((Demo.next (.meshLinkRetrain 9 0 1 ⟨17, true⟩) Demo.s).die? 0).map (fun D => agetD D.replays 1 (0, 0)) = some (0, 17) := by decide +kernel
theorem test_meshLinkFails : let s : State := { Demo.s with hw := { Demo.s.hw with member := .ae8804 } }
    (List.range 4).any (fun q => q != 1 && meshNeighbour s.hw.member 0 q == some 1) = true ∧
    ((Demo.next (.meshLinkRetrain 9 0 1 ⟨17, false⟩) s).die? 0).map (·.meshUp) = some [true, false, true, true] := by decide +kernel
theorem test_serviceLink : Demo.s.partOfDie 3 = none ∧ ((Demo.next (.serviceLink 9 3) Demo.s).die? 3).map (fun E => (E.serviceLink, E.lost)) = some (false, true) := by decide +kernel
def Demo.linked (l : LinkSt) : State := { Demo.full with links := [((0, 0), l)] }
theorem test_linkDown : aget (Demo.next (.linkDown 9 0 0) (Demo.linked { up := true, downSince := none, lost := false })).links (0, 0) =
    some { up := false, downSince := some 9, lost := false } := by decide +kernel
theorem test_linkLost : let s := Demo.linked { up := false, downSince := some 0, lost := false }
    s.pending = [] ∧ (s.twin 0).paired = false ∧ (s.fabric 0).farSent = [] ∧
    0 + 10 * cS ≤ decided 16000000000 s ∧ s.partOfDie 0 = some 0 ∧ (s.rd 0).qps = [(qpnSlot Demo.qp.qpn, Demo.qp)] ∧ qpnDie Demo.qp.qpn = 0 ∧ Demo.qp.port = 0 ∧
      ((Demo.next (.linkLost 16000000000 0 0) s).qp? Demo.qp.qpn).map (fun y => (y.state, y.errCause)) = some (QpState.error, 0x34) := by decide +kernel
theorem test_linkUp : Demo.full.svc.pins.ethRefclk = true ∧ Demo.full.portAssigned 0 = true ∧ aget (Demo.next (.linkUp 9 0 0) (Demo.linked { up := false, downSince := some 0, lost := true })).links (0, 0) =
    some { up := true, downSince := none, lost := false } := by decide +kernel

/-! ### Repair, tiers, flash -/

/-- Brick 0 of the demonstration with a DIRTY page 0. -/
def Demo.modS (s : State) (f : StoreP → StoreP) : State := s.modStore 0 f
def Demo.fix (placed : Bool) (w : Option Nat) : Corrective := { course := 0, frame := 1, page := 0, k := 3, pos := 2, at_ := 0, written := w, placedSince := placed }
def Demo.raw : RawErr := { idx := 5, xor := 1 }
def Demo.faulty (c : Corrective) : State := Demo.modS Demo.full (fun S => { S with correctives := [c], errs := [((0, 1, 0, 3), [Demo.raw])] })
theorem test_correctiveWrite : let s := Demo.faulty (Demo.fix false none)
    (s.store 0).resident 0 = true ∧ (s.store 0).errAt 0 0 3 = [Demo.raw] ∧ (let u := Demo.next (.correctiveWrite 9 0 (0, 1) 0 3) s
     (u.store 0).errAt 0 0 3 = [] ∧ (u.store 0).correctives = [Demo.fix false (some 9)]) := by decide +kernel
theorem test_correctiveWrite_placed : ((Demo.next (.correctiveWrite 9 0 (0, 1) 0 3) (Demo.faulty (Demo.fix true none))).store 0).errAt 0 0 3 = [Demo.raw] := by decide +kernel
theorem test_correctiveReread : let s := Demo.faulty (Demo.fix false (some 4))
    ((s.store 0).courseOf 0).isSome = true ∧ (s.store 0).out = [] ∧ s.storeNv.marks = [] ∧ ((s.store 0).page 0 0).poison = 0 ∧
      ((Demo.next (.correctiveReread 9 0 (0, 1) 0 3 []) s).store 0).correctives = [] ∧ ((Demo.next (.correctiveReread 9 0 (0, 1) 0 3 []) s).store 0).errAt 0 0 3 = [] := by decide +kernel
/-- A double symbol error in one line: the light code flags it, the page code rebuilds it. -/
def Demo.torn : State := Demo.modS Demo.full (fun S => { S with rebuilds := [(0, 0)], errs := [((0, 1, 0, 3), [Demo.raw, { idx := 14, xor := 7 }, { idx := 32, xor := 9 }])] })
theorem test_pageRebuild : Demo.torn.still 0 = true ∧ Demo.torn.live 0 = true ∧ ((Demo.torn.store 0).page 0 0).filled = true ∧ Demo.torn.rebuildable 0 0 0 = true ∧
    Demo.torn.flaggedLines 0 0 0 = [3] ∧ (let u := Demo.next (.pageRebuild 9 0 0 0) Demo.torn
      (u.store 0).rebuilds = [] ∧ (u.store 0).errAt 0 0 3 = [] ∧ (u.store 0).dram = (Demo.torn.store 0).dram) := by decide +kernel
def Demo.delta : Grout := { delta := [(2, 5)], first := 0 }
def Demo.grouted (g : Option Grout) : State := Demo.modS Demo.full (fun S => S.modPage 0 0 (fun P => { P with stale := true, grout := g }))
theorem test_groutWriteback : let s := Demo.grouted (some Demo.delta)
    s.mode 0 ≠ .drain ∧ s.pending = [] ∧ (s.upTo 12800000).groutEvent 0 0 0 Demo.delta .age = true ∧
      ((s.store 0).parityLines 0).all (fun j => (s.lineOutcome 0 0 0 j).1 == .clean && (s.store 0).errAt 0 0 j == []) = true ∧ decided 9 s < Demo.delta.first + 8 * cMs ∧
      (let u := Demo.next (.groutWriteback 12800000 0 0 0 .age) s
       (u.store 0).parity = [(2, 5)] ∧ (u.store 0).page 0 0 = { Page.empty with filled := true }) ∧
      (Demo.next (.groutWriteback 9 0 0 0 .age) s).parts = s.parts := by decide +kernel
theorem test_groutLost : let u := Demo.next (.groutWriteback 9 0 0 0 .uncorrectable) (Demo.grouted (some Demo.delta))
    (u.store 0).parity = [] ∧ (u.store 0).page 0 0 = { Page.empty with filled := true, stale := true, lostGrout := true } := by decide +kernel
theorem test_parityRecompute : let s := Demo.modS (Demo.grouted none) (fun S => { S with dram := [(1, 3)], parity := [(40, 7)] })
    ((s.store 0).groutHome 0 0).map (fun x => (x.1, x.2.2.1)) = some (0, 512) ∧ (s.store 0).notCurrent 0 = [512] ∧ (s.store 0).scrub = none ∧
    ((s.store 0).page 0 0).current = false ∧ (List.range 64).all (fun j => !((s.lineOutcome 0 0 0 j).1 == .flagged)) = true ∧
      ((Demo.next (.parityRecompute 9 0 0 0) s).store 0).page 0 0 = { Page.empty with filled := true } ∧
      Memory.read ((Demo.next (.parityRecompute 9 0 0 0) s).store 0).parity 40 = 0 := by decide +kernel
theorem test_evacuateFrame : let s := Demo.modS Demo.full (fun S => { S with evacuate := [(0, 5)] })
    s.live 0 = true ∧ (s.store 0).bricks.all (fun e => e.2.res != some (0, 5)) = true ∧ aget (s.store 0).courses 0 = some Demo.course ∧
      (let u := Demo.next (.evacuateFrame 9 0 0 5) s
       (u.store 0).evacuate = [] ∧ (aget (u.store 0).courses 0).map (·.retired) = some [5]) := by decide +kernel
theorem test_patrolRead : (Demo.s.store 0).bricks.all (fun e => e.2.res.isNone) = true ∧ (Demo.s.store 0).errs = [] ∧ Demo.s.live 0 = true ∧
    ((Demo.next (.patrolRead 9 0 0 []) Demo.s).store 0).patrol = [(0, 1)] := by decide +kernel

def Demo.sb (st : SbState) (n e : Nat) : Superblock := { state := st, blocks := List.replicate 16 n, next := 2, erases := List.replicate 16 e, xorRows := 0, invalidAt := none }
def Demo.group : Group :=
  { readOnly := false, gone := false, reserve := 0, heavy := false,
    sbs := [(0, Demo.sb .openWrite 0 1), (1, Demo.sb .openReloc 1 1), (2, Demo.sb .closed 2 300), (3, Demo.sb .closed 3 1), (4, Demo.sb .erased 4 1), (5, Demo.sb .erased 5 1)] }
def Demo.at_ : Loc := { ch := 0, ce := 0, lun := 3, block := 2, page := 0 }
def Demo.flash : Flash :=
  { Flash.reset with channels := [(0, 0)], ces := 1, luns := 16, blocks := 64, ppb := 64, seq := 9, scanned := true, groups := [(0, Demo.group)] }
def Demo.tier (f : Flash → Flash) (g : StoreP → StoreP) : State := Demo.modS Demo.full (fun S => g { S with flash := f Demo.flash })
def Demo.cw (g : Nat) (l : Memory) : Codeword := { brick := 0, page := g, keyHalf := 0, valid := true, seq := 3, data := l }
def Demo.mapped : Flash → Flash := fun F => { F with fmap := [((0, 0), { loc := Demo.at_, keyHalf := [0, 0, 0, 0] })],
                                                     units := [(Demo.at_, [Demo.cw 0 [(1, 6)], Demo.cw 1 [], Demo.cw 2 [(4095, 2)], Demo.cw 3 []])] }
def Demo.bare (S : StoreP) : StoreP := { S with pages := [], bricks := [(0, { Demo.brick with valid := 15 })], dram := [(0, 8)] }
def Demo.fread : FRead := { brick := 0, unit := 0, fill := true, waiting := [], reload := false, hamper := none, at_ := 0 }
def Demo.reading : State := Demo.tier (fun F => { Demo.mapped F with reads := [Demo.fread] }) Demo.bare
theorem test_flashReadComplete : Demo.reading.still 0 = true ∧ (Demo.reading.store 0).resident 0 = true ∧ (Demo.reading.flash 0).locOut Demo.at_ = false ∧
    (List.range 4).all (fun g => (Demo.reading.store 0).valid 0 g && !Demo.reading.listed 0 0 g && !((Demo.reading.store 0).page 0 g).filled && Memory.wf ((Demo.reading.flash 0).pageData 0 g) &&
      ((Demo.reading.flash 0).pageData 0 g).all (fun c => decide (c.1 < 4096))) = true ∧ (let u := Demo.next (.flashReadComplete 9 0 0 0 [.ok 1, .ok 0, .ok 0, .ok 0]) Demo.reading
      (u.flash 0).reads = [] ∧ (List.range 4).all (fun g => ((u.store 0).page 0 g).filled) = true ∧ (u.store 0).dram = [(1, 6), (12287, 2)]) := by decide +kernel
def Demo.low (S : StoreP) : StoreP :=
  { S with courses := [(0, { Demo.course with frames := 4 })], bricks := [(0, Demo.brick), (1, newBrick 2 0 0), (2, { Demo.brick with res := some (0, 0) }), (3, { Demo.brick with res := some (0, 3) })] }
theorem test_lowMarkEviction : let s := Demo.modS Demo.full Demo.low
    s.serving 0 = true ∧ (s.store 0).freeCount 0 = 1 ∧ (s.store 0).evictingOn 0 = 0 ∧ (s.chooseVictim 0 0 none (s.overLimit 0)).1 = none ∧ (s.chooseVictim 0 0 none).1 = some 2 ∧
      (((Demo.next (.lowMarkEviction 9 0 0) s).store 0).brick? 2).map (·.evicting) = some true := by
  decide +kernel
def Demo.evicting (S : StoreP) : StoreP := { S with bricks := [(0, { Demo.brick with evicting := true })], pages := [((0, 1), { Page.empty with filled := true, dirty := true, charges := 1 })] }
def Demo.evict : State := Demo.tier id Demo.evicting
theorem test_eviction : Demo.evict.mayProgram 0 = true ∧ (List.range 128).find? (fun n => !((Demo.evict.store 0).dirtyIn 0 n).isEmpty) = some 0 ∧
    ((Demo.evict.flash 0).nextUnit .openWrite false none).isSome = true ∧
    ((Demo.next (.eviction 9 0 0) Demo.evict).flash 0).wbs.map (fun w => (w.brick, w.unit, w.why, w.dirty)) = [(0, 0, .evict, [1])] := by decide +kernel
def Demo.evicted : State := Demo.tier Demo.mapped (fun S => { Demo.evicting S with pages := [((0, 1), { Page.empty with filled := true })] })
theorem test_frameRelease : (Demo.evicted.store 0).dirtyPages 0 = [] ∧ Demo.evicted.allMapped 0 0 { Demo.brick with evicting := true } = true ∧ Demo.evicted.live 0 = true ∧
    Demo.evicted.still 0 = true ∧ (Demo.evicted.store 0).frameWaits = [] ∧ (Demo.evicted.store 0).hampers = [] ∧
    (((Demo.next (.frameRelease 9 0 0) Demo.evicted).store 0).brick? 0).map (·.res) = some none := by decide +kernel
def Demo.waits : State := Demo.modS Demo.full (fun S => { Demo.low S with frameWaits := [(clearWait 1, 0)] })
theorem test_evictionRetry : Demo.waits.waitBrick 0 (clearWait 1) = some 1 ∧ 0 + cMs ≤ decided 1600000 Demo.waits ∧ (Demo.waits.store 0).evictingFor 2 = false ∧
    (Demo.waits.evictOn 0 (some ((Demo.waits.store 0).tenantOf 1)) (Demo.waits.allowedCourses 0 1)).1 = some 2 ∧
    (((Demo.next (.evictionRetry 1600000 0 (clearWait 1)) Demo.waits).store 0).brick? 2).map (fun B => (B.evicting, B.evictFor)) = some (true, some 2) := by decide +kernel
theorem test_agingSweep : (Demo.full.store 0).ageAt + Demo.full.field 15 0xFF 0 0 4 1000 * cMs ≤ decided 1600000000 Demo.full ∧
    ((Demo.next (.agingSweep 1600000000 0) Demo.full).store 0).bricks.map (fun e => e.2.age) = [1, 0] := by decide +kernel
def Demo.dirty : State := Demo.tier id (fun S => S.modPage 0 1 (fun P => { P with dirty := true, charges := 2 }))
theorem test_writeBack : ((Demo.dirty.store 0).dirtyIn 0 0).isEmpty = false ∧ (Demo.dirty.flash 0).inFlight 0 0 = false ∧ (Demo.dirty.takeIn 0 0 .openWrite).isSome = true ∧
    ((Demo.next (.writeBack 9 0 0 0 0) Demo.dirty).flash 0).wbs.map (fun w => (w.brick, w.unit, w.group, w.why, w.dirty)) = [(0, 0, 0, .writeBack, [1])] := by decide +kernel
def Demo.wb (why : WbWhy) : WriteBack :=
  { brick := 0, unit := 0, group := 0, sb := 0, loc := { Demo.at_ with block := 0 }, cws := [Demo.cw 0 [], Demo.cw 1 [], Demo.cw 2 [], Demo.cw 3 []], dirty := [1], why := why, fails := 0, at_ := 0,
    source := some Demo.at_ }
def Demo.writing : State := Demo.tier (fun F => { F with wbs := [Demo.wb .writeBack] }) (fun S => S.modPage 0 1 (fun P => { P with dirty := true, charges := 2, wbBusy := true }))
theorem test_writeBackComplete : let u := Demo.next (.writeBackComplete 9 0 0 0 true 0) Demo.writing
    Demo.writing.running = [] ∧ Demo.writing.image.applying = none ∧ (u.flash 0).wbs = [] ∧ ((u.flash 0).entry 0 0).map (·.loc) = some { Demo.at_ with block := 0 } ∧
      ((u.store 0).page 0 1).dirty = false ∧ ((u.store 0).page 0 1).charges = 1 := by decide +kernel
theorem test_writeBackComplete_failed : ((Demo.next (.writeBackComplete 9 0 0 0 false 0) Demo.writing).flash 0).badBlocks = [(0, 0, 3, 0)] := by decide +kernel
def Demo.moving : State := Demo.tier (fun F => { Demo.mapped F with readCounts := [((0, 0, 3, 2), 1000)] }) id
theorem test_relocation : (Demo.moving.flash 0).relocating 0 0 = false ∧ Demo.moving.mayRelocate 0 = true ∧ (Demo.moving.takeIn 0 ((Demo.moving.flash 0).memberOf Demo.at_).1 .openReloc).isSome = true ∧
    ((Demo.moving.flash 0).leastValid 0 Demo.group).isSome = true ∧
    ((Demo.next (.relocation 9 0 0) Demo.moving).flash 0).wbs.map (fun w => (w.brick, w.unit, w.why, w.source)) = [(0, 0, .relocate, some Demo.at_)] := by decide +kernel
theorem test_readDisturbRelocate : (Demo.moving.rec? 16 0 0).isNone = true ∧ agetD (Demo.moving.flash 0).readCounts (0, 0, 3, 2) 0 = 1000 ∧
    ((Demo.next (.readDisturbRelocate 9 0 0 0 3 2) Demo.moving).flash 0).readCounts = [] ∧ ((Demo.next (.readDisturbRelocate 9 0 0 0 3 2) Demo.moving).flash 0).wbs.length = 1 := by decide +kernel
def Demo.worn : State := Demo.tier (fun F => { Demo.mapped F with fmap := [((0, 0), { loc := { Demo.at_ with block := 3 }, keyHalf := [] })] }) id
theorem test_wearLevel : Demo.group.byErases (fun a c => decide (c < a)) = some (2, Demo.sb .closed 2 300) ∧ Demo.group.byErases (fun a c => decide (a < c)) = some (3, Demo.sb .closed 3 1) ∧
    (Demo.worn.flash 0).inSb 0 (Demo.sb .closed 3 1) { Demo.at_ with block := 3 } = true ∧ (Demo.worn.takeIn 0 0 .openReloc).isSome = true ∧
    ((Demo.next (.wearLevel 9 0 0) Demo.worn).flash 0).wbs.length = 1 := by decide +kernel
theorem test_relocationComplete : ((Demo.next (.relocationComplete 9 0 0 true) (Demo.tier (fun F => { Demo.mapped F with wbs := [Demo.wb .relocate] }) id)).flash 0).fmap =
    [((0, 0), { loc := { Demo.at_ with block := 0 }, keyHalf := [0, 0, 0, 0] })] := by decide +kernel
def Demo.invalid (x : Superblock) : State := Demo.tier (fun F => { F with groups := [(0, { Demo.group with sbs := [(2, x)] })] }) (fun S => { S with ckpt := { S.ckpt with gen := 4 } })
theorem test_eraseSuperblock : let s := Demo.invalid { Demo.sb .closed 2 7 with invalidAt := some 3 }
    (s.flash 0).validIn 0 { Demo.sb .closed 2 7 with invalidAt := some 3 } = [] ∧ s.mayProgram 0 = true ∧
      ((aget ((Demo.next (.eraseSuperblock 9 0 0 2) s).flash 0).groups 0).bind (fun g => aget g.sbs 2)).map (·.state) = some .erasing := by decide +kernel
theorem test_blockEraseComplete : let u := Demo.next (.blockEraseComplete 9 0 0 2 []) (Demo.invalid (Demo.sb .erasing 2 7))
    ((aget (u.flash 0).groups 0).bind (fun g => aget g.sbs 2)) = some { Demo.sb .erased 2 8 with next := 0 } := by decide +kernel
theorem test_lunRetired : let u := Demo.next (.lunRetired 9 0 0 0 3) (Demo.tier id id)
    (u.flash 0).lunsOut = [(0, 0, 3)] ∧ (aget (u.flash 0).groups 0).map (·.readOnly) = some true := by decide +kernel
def Demo.removed : State := { Demo.full with storeNv := { Demo.full.storeNv with objects := [(4097, { Demo.object with removed := true }), (0, Demo.object)] } }
theorem test_objectSectorErase_before : Demo.removed.nvIdle = true ∧ Demo.removed.storeNv.objects.any (fun e => decide (e.1 / 4096 = 1)) = true ∧
    Demo.removed.storeNv.objects.all (fun e => decide (e.1 / 4096 ≠ 1) || e.2.removed) = true := by decide +kernel
theorem test_trackedPageWrite : let s := Demo.modS Demo.full (fun S => { S with ckpt := { S.ckpt with dirty := [(3, 0), (1, 0)] } })
    s.mayProgram 0 = true ∧ (let u := Demo.next (.trackedPageWrite 9 0 3 0) s
      (u.store 0).ckpt.dirty = [(1, 0)] ∧ aget (u.store 0).ckpt.bricks 0 = some Demo.brick.saved) := by decide +kernel
def Demo.loaded (r : Bool) : State := Demo.tier Demo.mapped (fun S => { S with ckpt := { S.ckpt with loaded := true, running := r, gen := 4, nextSeqStart := 7, dirty := [(1, 0)] } })
theorem test_checkpoint : (Demo.loaded false).mayCheckpoint 0 = true ∧ 0 + (Demo.loaded false).ckptPeriod 0 ≤ decided 48000000000 (Demo.loaded false) ∧
    (let c := ((Demo.next (.checkpoint 48000000000 0) (Demo.loaded false)).store 0).ckpt
     c.running = true ∧ c.nextSeqStart = 9 ∧ c.dirty = [] ∧ c.fmap = (Demo.mapped Demo.flash).fmap ∧ c.valid = [(0, 3), (1, 0)]) := by decide +kernel
def Demo.freed : State := { Demo.loaded true with storeNv := { Demo.full.storeNv with objects := [(0, { Demo.object with freeing := some 4 })] } }
theorem test_checkpointFooter : Demo.freed.mayProgram 0 = true ∧ Demo.freed.running = [] ∧ (let u := Demo.next (.checkpointFooter 9 0) Demo.freed
    (u.store 0).ckpt.gen = 5 ∧ (u.store 0).ckpt.seqStart = 7 ∧ (u.store 0).ckpt.running = false ∧ (aget u.storeNv.objects 0).map (·.removed) = some true) := by decide +kernel
/-- Nothing of an earlier class stands at the LUNs of these, nothing else waits (R332). -/
theorem test_flashTurns : (Demo.writing.flash 0).ahead (Demo.wb .writeBack).loc.onLun 4 (Demo.writing.packetWaits 0) = false ∧ Demo.writing.running = [] ∧
    (let s := Demo.tier (fun F => { Demo.mapped F with wbs := [Demo.wb .relocate] }) id
     (s.flash 0).ahead (Demo.wb .relocate).loc.onLun 5 false = false) ∧
    (let s := Demo.invalid (Demo.sb .erasing 2 7)
     (List.range 16).all (fun j => !(s.flash 0).ahead ((s.flash 0).member 0 j) 6 false) = true ∧ s.live 0 = true ∧ s.mode 0 ≠ .drain ∧ (s.flash 0).reads = []) ∧
    Demo.evicted.pending = [] ∧ (Demo.evicted.store 0).courses.all (fun e => e.2.metaDue.isEmpty) = true ∧ Demo.dirty.wbFirst 0 0 0 = true ∧ Demo.dirty.flaggedIn 0 0 0 = [] := by decide +kernel

/-! ### Image, BUILD, service die -/

def Demo.recBytes (r : ImgRec) : List Byte :=
  let b := natLE 2 r.typ ++ natLE 1 r.part ++ natLE 1 r.inst ++ natLE 4 r.payload.length ++ r.payload
  b ++ natLE 4 (crc32c b) ++ natLE 4 0
/-- An image body of a kind over records, with payloads of whole 8-byte units. -/
def Demo.imageBody (kind : Nat) (base : List Byte) (rs : List ImgRec) : List Byte :=
  let l := (rs.map Demo.recBytes).flatten
  natLE 4 0x58414556 ++ natLE 2 1 ++ natLE 1 kind ++ natLE 1 4 ++ natLE 1 4 ++ fill 3 0 ++ natLE 4 (128 + l.length + trailerLen) ++ natLE 4 rs.length ++ natLE 8 3 ++ fill 36 0 ++ base ++ l
def Demo.signed (b : List Byte) : Image := { body := b, digest := sha3 b, ownerKey := [], sigOk := true }
/-- A full image: partition 0 on die 0 with port 0, one course of two channels, no flash-direct class. -/
def Demo.fullRecords : List ImgRec :=
  [{ typ := 1, part := 0, inst := 0, payload := Demo.payload 64 [(0, 1, 1), (2, 2, 1), (4, 4, 3), (8, 8, 1), (16, 4, 4), (20, 2, 1), (24, 4, 8)] },
   { typ := 2, part := 0, inst := 0, payload := Demo.payload 16 [(0, 1, 2), (1, 1, 1), (3, 1, 2), (4, 8, 0xFFFFFFFFFFFFFF00), (12, 4, 3)] },
   { typ := 3, part := 0xFF, inst := 0, payload := Demo.payload 24 [(0, 2, 1), (2, 2, 1), (4, 2, 1), (6, 2, 512), (8, 2, 16), (10, 2, 1), (12, 2, 16), (14, 2, 16), (16, 2, 1)] },
   { typ := 4, part := 0, inst := 0, payload := Demo.payload 8 [] },
   { typ := 5, part := 0, inst := 0, payload := Demo.payload 48 [(0, 2, 4), (4, 4, 8), (28, 4, 1), (32, 4, 4), (36, 4, 1), (40, 1, 4)] },
   { typ := 7, part := 0xFF, inst := 0, payload := Demo.payload 32 [(0, 2, 1), (2, 2, 1), (8, 2, 0xFFFF), (28, 2, 1000)] },
   { typ := 8, part := 0, inst := 0, payload := Demo.payload 16 [(0, 2, 4800), (2, 2, 512), (4, 2, 16), (6, 2, 800)] },
   { typ := 9, part := 0, inst := 0, payload := Demo.payload 120 [(4, 2, 7), (6, 2, 1024), (8, 2, 4096), (12, 4, 100), (16, 4, 2000), (20, 4, 65536), (24, 2, 16), (26, 2, 5), (31, 1, 1)] },
   { typ := 11, part := 0xFF, inst := 0, payload := Demo.payload 8 [(0, 4, 2100), (4, 4, 10)] },
   { typ := 14, part := 0xFF, inst := 0, payload := Demo.payload 16 [(4, 2, 0xFFFF), (6, 2, 0xFFFF), (8, 4, 10), (12, 4, 1)] },
   { typ := 16, part := 0, inst := 0, payload := Demo.payload 16 [(0, 2, 70), (2, 2, 5), (4, 4, 65536), (8, 4, 1000), (12, 4, 100)] }]
def Demo.image : Image := Demo.signed (Demo.imageBody 0 (fill 64 0) Demo.fullRecords)
def Demo.owned : State := { Demo.s with svc := { Demo.s.svc with nv := { Demo.s.svc.nv with option := some { Demo.s.svc.nv.opt with ownerHash := sha3 [] } } } }
def Demo.imageLen : BitVec 32 := BitVec.ofNat 32 (672 + trailerLen)
theorem Demo.signed_digest (b : List Byte) : sha3 (Demo.signed b).body = (Demo.signed b).digest := rfl
theorem Demo.envelope (s : State) (kind len : Nat) (b : List Byte) (ho : s.ownerHash = sha3 []) (h3 : headerOk kind len b = true)
    (h4 : (leAt b 7 1 != memberDies s.hw.member || leAt b 8 1 != memberDies s.hw.member) = false) (h5 : s.ownerHash.isEmpty = false) (h6 : ¬ leAt b 20 8 < s.anchor 5) :
    s.badEnvelope kind len (Demo.signed b) = none := by
  have h1 : sha3 (Demo.signed b).ownerKey = s.ownerHash := ho.symm
  have h2 := Demo.signed_digest b
  have h7 : (Demo.signed b).sigOk = true := rfl
  have h8 : (Demo.signed b).body = b := rfl
  rw [h8] at h2
  simp [State.badEnvelope, h1, h2, h3, h4, h5, h6, h7, h8]
theorem Demo.hash (v : Nv) (o : OptionRec) (s : State) (h : List Byte) : ({ s with svc := { s.svc with nv := { v with option := some { o with ownerHash := h } } } } : State).ownerHash = h := rfl
theorem Demo.full_passes (s : State) (len : Nat) (img : Image) (load : Bool) (l : List ImgRec) (h : s.badEnvelope 0 len img = none) (hr : imageRecs img.body = some l)
    (hb : ((s.badBody l).orElse (fun _ => if load then s.badState (l.filter (fun r => knownType r.typ)) else none)) = none) : s.checkFull len img load = .inr l := by
  unfold State.checkFull; rw [h]; dsimp only; rw [hr]; dsimp only; rw [hb]
theorem Demo.owned_hash : Demo.owned.ownerHash = sha3 [] := Demo.hash _ _ _ _
theorem Demo.patch_passes (s : State) (c : ImageCopy) (eff : List ImgRec) (len : Nat) (img : Image) (l : List ImgRec) (h : s.badEnvelope 1 len img = none)
    (hr : imageRecs img.body = some l) (hk : l.filter (fun r => knownType r.typ) = l)
    (hc : badRecord true l = none ∧ removesNeeded eff l = none ∧ badField (2 * memberDies s.hw.member) l = none ∧
      l.find? (fun r => !packageType r.typ && !(effParts eff).contains r.part) = none ∧ badLimits (patched eff l) = none ∧
      (((l.filter (fun r => r.typ == 5)).map (·.part)).eraseDups).all (s.reservesFit (patched eff l)) = true ∧ l.find? (fun r => structural r.typ) = none ∧ l.find? (fixedBad eff) = none)
    (hl : (slice img.body 64 64 != c.chain || 16 ≤ c.patches.length || 4194304 < c.end_ + 256 + len) = false) : s.checkPatch c eff len img true = .inr l := by
  unfold State.checkPatch; rw [h]; dsimp only; rw [hr]; dsimp only
  obtain ⟨h1, h2, h3, h4, h5, h6, h7, h8⟩ := hc
  simp only [hk, h1, h2, h3, h4, h5, h6, h7, h8, hl]; rfl
set_option maxRecDepth 20000 in
theorem Demo.image_records : imageRecs Demo.image.body = some Demo.fullRecords := by decide +kernel
theorem test_imageLoad : Demo.owned.checkFull Demo.imageLen.toNat Demo.image true = .inr Demo.fullRecords :=
  Demo.full_passes _ _ _ _ _ (Demo.envelope _ _ _ _ Demo.owned_hash (by decide +kernel) (by decide +kernel) (by decide +kernel) (by decide +kernel)) Demo.image_records (by decide +kernel)
theorem test_imageLoad_refused : Demo.owned.checkFull 7 { Demo.image with body := [] } true = .inl (badAt 1 0) ∧
    (Demo.next (.imageLoad 9 Demo.c 7 0 { Demo.image with body := [] }) Demo.owned).outcomes 0 = [{ outcome Demo.c 0x104 .refused with detail := 1 }] := by decide +kernel
def Demo.full1 : StoredImage := { storedOf Demo.image Demo.fullRecords with digest := fill 64 9 }
def Demo.copy : ImageCopy := { gen := 1, full := some Demo.full1, patches := [], committed := true, failed := false, raiseFloor := false }
def Demo.inForce : State :=
  { Demo.owned with image := { Demo.owned.image with copies := [Demo.copy, { Demo.copy with full := none, committed := false }], inUse := some 0, eff := Demo.fullRecords, chain := fill 64 9 } }
def Demo.patchRec : ImgRec := { typ := 11, part := 0xFF, inst := 0, payload := Demo.payload 8 [(0, 4, 2200), (4, 4, 10)] }
def Demo.patch : Image := Demo.signed (Demo.imageBody 1 (fill 64 9) [Demo.patchRec])
def Demo.patchLen : BitVec 32 := BitVec.ofNat 32 (152 + trailerLen)
theorem test_imagePatch : Demo.inForce.checkPatch Demo.copy Demo.inForce.image.eff Demo.patchLen.toNat Demo.patch true = .inr [Demo.patchRec] :=
  Demo.patch_passes _ _ _ _ _ _ (Demo.envelope _ _ _ _ ((rfl : Demo.inForce.ownerHash = Demo.owned.ownerHash).trans Demo.owned_hash) (by decide +kernel) (by decide +kernel) (by decide +kernel) (by decide +kernel))
    (by decide +kernel) (by decide +kernel) (by decide +kernel) (by decide +kernel)
theorem test_imagePatch_modes : Demo.inForce.partIds.all (fun p => Demo.inForce.mode p != .restore && Demo.inForce.mode p != .drain) = true ∧
    (storedOf Demo.patch [Demo.patchRec]).records.all (fun r => Demo.inForce.mode r.part != .restore && Demo.inForce.mode r.part != .drain) = true ∧
    (patched Demo.fullRecords [Demo.patchRec]).map (fun r => (r.typ, r.payload.take 2)) = Demo.fullRecords.map (fun r => (r.typ, if r.typ = 11 then [0x98, 0x08] else r.payload.take 2)) := by
  decide +kernel
theorem test_imagePatch_refused : Demo.inForce.checkPatch Demo.copy Demo.inForce.image.eff 7 Demo.patch true = .inl (badAt 1 0) := by decide +kernel
def Demo.fw : FwCopy := { FwCopy.blank with committed := true, seq := 4, bytes := fill 16 0 }
/-- A power-up at its steps 8 and 9. -/
def Demo.powerUp (im : ImageSt) : State :=
  { State.reset with pkg := .seqUp, image := im, svc := { Service.reset with booted := true, seq := { Sequencer.reset with phase := .loadFw }, nv := { Service.reset.nv with stewFw := [Demo.fw, FwCopy.blank] } } }
theorem test_buildEntry_noImage : let s := Demo.powerUp ImageSt.reset
    s.seqPhase = .loadFw ∧ s.fwChoice 1 = some 0 ∧ s.image.order = [] ∧ (let u := Demo.next (.buildEntry 9 true) s
     u.pkg = .on ∧ u.parts.map (·.1) = [0] ∧ u.mode 0 = .service ∧ u.provisional 0 = true ∧ (u.modeSt 0).causes = [.noImage]) := by decide +kernel
def Demo.stored : State :=
  let s := Demo.powerUp ImageSt.reset
  let s : State := { s with image := { s.image with copies := [{ Demo.copy with full := some (storedOf Demo.image Demo.fullRecords) }, { Demo.copy with full := none, committed := false }] } }
  { s with svc := { s.svc with nv := { s.svc.nv with option := some { s.svc.nv.opt with ownerHash := sha3 [] } } } }
theorem Demo.recheck_of (s : State) (c : ImageCopy) (f : StoredImage) (l : List ImgRec) (len : Nat) (img : Image) (hf : c.full = some f) (hp : c.patches = [])
    (hl : f.length = len) (hi : f.image = img) (h : s.checkFull len img false = .inr l) : s.recheck c = some (c, false) := by
  subst hl; subst hi
  unfold State.recheck; rw [hf]; dsimp only; rw [h]; dsimp only; rw [hp]; cases c; cases hp; dsimp only at hf; subst hf; rfl
def Demo.storedCopy : ImageCopy := { Demo.copy with full := some (storedOf Demo.image Demo.fullRecords) }
theorem Demo.stored_hash : Demo.stored.ownerHash = sha3 [] := Demo.hash _ _ _ _
theorem test_buildEntry : Demo.stored.image.order = [0] ∧ Demo.stored.recheck Demo.storedCopy = some (Demo.storedCopy, false) :=
  ⟨by decide +kernel, Demo.recheck_of _ _ (storedOf Demo.image Demo.fullRecords) _ Demo.imageLen.toNat Demo.image rfl rfl (by decide +kernel) rfl (Demo.full_passes _ _ _ _ _
    (Demo.envelope _ _ _ _ Demo.stored_hash (by decide +kernel) (by decide +kernel) (by decide +kernel) (by decide +kernel)) Demo.image_records (by decide +kernel))⟩
def Demo.building : State := { Demo.inForce with parts := [(0, { Part.reset with store := { StoreP.reset with brickCount := 4 } })] }
def Demo.dimmInfo (ch : Nat) : DimmInfo :=
  { die := 0, ch := ch, slot := 0, hubOk := true, kind := 0, x4 := true, data := 8, check := 2, gib := 64, height := 1, ranks := 2, rows := 65536, banks := 32, maxRate := 6400, trfc1 := 410, serial := 7, part := 3, rfm := true,
    raaimt := 32, raammt := 96,
    temp := 640, failed := [] }
theorem test_buildFail : Demo.building.mode 0 = .build ∧ Demo.building.live 0 = true ∧
    (let u := Demo.next (.buildFail 9 0 .step { dimms := [], luns := [], rates := [], pMeas := 0, settings := [], retests := [], portsUp := [] }) Demo.building
     u.mode 0 = .service ∧ u.hasCause 0 .buildFail = true) := by decide +kernel
def Demo.lunInfo (i : Nat) : LunInfo :=
  { die := 0, ch := 0, ce := i / 4, lun := i % 4, page := 16384, spare := 1920, tprog := 600, tr := 60, tbers := 10, suspend := true, retry := 8, blocks := 64, ppb := 64, uid := i, bad := [] }
def Demo.rep : BuildRep :=
  { dimms := [Demo.dimmInfo 0, Demo.dimmInfo 1], luns := (List.range 16).map Demo.lunInfo, rates := [((0, 0), 1000000)], pMeas := 10, settings := [], retests := [], portsUp := [(0, 0)] }
set_option maxRecDepth 20000 in
theorem test_buildDone : Demo.building.buildCheck 0 Demo.rep = none ∧ Demo.building.mode 0 = .build ∧ Demo.building.live 0 = true := by decide +kernel

/-- The service die before and after its boot. -/
def Demo.nv : Nv := { Service.reset.nv with option := some { Service.reset.nv.opt with i3cAddr := 9 }, svcFw := [Demo.fw, FwCopy.blank] }
def Demo.off (nv : Nv) : State := { State.reset with svc := { Service.reset with nv := nv }, sec := { Security.reset with sys := [(0, fill 32 1)] } }
theorem test_boot_rom : let s := Demo.off { Demo.nv with svcFw := [] }
    s.svc.booted = false ∧ s.svc.nv.journal.all (·.done) = true ∧ s.fwChoice 0 = none ∧ (Demo.next (.boot 9) s).svc.fwStatus = 1 := by decide +kernel
theorem test_boot : (Demo.off Demo.nv).fwChoice 0 = some 0 ∧ (Demo.off Demo.nv).svc.nv.lowering = false ∧ ((Demo.off Demo.nv).tableOf Demo.nv.opt).isSome = true ∧
    ahas (Demo.off Demo.nv).sec.sys 0 = true ∧ (let u := Demo.next (.boot 9) (Demo.off Demo.nv)
      u.svc.booted = true ∧ u.svc.fwStatus = 0 ∧ u.svc.runningSvc = 0 ∧ u.svc.seqTable.isSome = true ∧ u.svc.sideband.staticAddr = 9) := by decide +kernel
def Demo.runs (v : Service → Service) : State := { Demo.s with svc := v { Demo.s.svc with nv := Demo.nv } }
theorem test_watchdogRestart : (Demo.runs id).svc.runs = true ∧ (Demo.next (.watchdogRestart 9) (Demo.runs id)).svc.watchdog = { lastRestart := 9, recovery := false } := by decide +kernel
theorem test_watchdogRecovery : (Demo.runs id).svc.watchdog.lastRestart + cS ≤ decided 1600000000 (Demo.runs id) ∧
    (Demo.next (.watchdogRecovery 1600000000) (Demo.runs id)).svc.watchdog.recovery = true := by decide +kernel
theorem test_watchdogReset : (Demo.runs id).svc.watchdog.lastRestart + 1500 * cMs ≤ decided 2400000000 (Demo.runs id) ∧ (Demo.runs id).svc.nv.erasing = none ∧
    (let u := Demo.next (.watchdogReset 2400000000) (Demo.runs id)
     u.pkg = .cold ∧ u.svc.booted = false ∧ u.svc.nv.watchdogDue = true) := by decide +kernel
theorem test_bootOk : (Demo.runs id).svc.nv.svcFw[(Demo.runs id).svc.runningSvc]? = some Demo.fw ∧ (Demo.runs id).svc.bootAt + 60 * cS ≤ decided 96000000000 (Demo.runs id) ∧
    ((Demo.next (.bootOk 96000000000 0) (Demo.runs id)).svc.nv.svcFw[0]?).map (·.bootOk) = some true := by decide +kernel
theorem test_stewardReset : (aget Demo.s.svc.stewards (1, 2)).isNone = true ∧ (Demo.s.die? 1).map (·.lost) = some false ∧
    (aget (Demo.next (.stewardReset 9 1 2) Demo.s).svc.stewards (1, 2)).map (·.resets) = some [9] := by decide +kernel
theorem test_stewardReset_third : ((Demo.next (.stewardReset 9 3 2) (Demo.runs (fun v => { v with stewards := [((3, 2), { resets := [4, 5] })] }))).die? 3).map (fun E => (E.lost, E.lostCause)) =
    some (true, 2) := by decide +kernel
theorem test_brownOut : Demo.s.svc.brownOut = false ∧ Demo.s.svc.nv.erasing = none ∧ (Demo.next (.brownOut 9) Demo.s).svc.brownOut = true := by decide +kernel
theorem test_brownOutRelease : let s := Demo.runs (fun v => { v with brownOut := true })
    s.svc.nv.eraseStopped = false ∧ (Demo.next (.brownOutRelease 9) s).svc.brownOut = false ∧ (Demo.next (.brownOutRelease 9) s).svc.log.recs.map (·.code) = [.brownOut] := by decide +kernel
def Demo.held : Suppressed := { count := 3, first := 0, last := 0, lastPayload := [] }
theorem test_logSuppressed : let s := Demo.runs (fun v => { v with log := { v.log with suppressed := [((.flashShort, srcSvc), Demo.held)] } })
    (let u := Demo.next (.logSuppressed 1700000000) s
     u.svc.log.suppressed = [] ∧ u.svc.log.recs.map (·.code) = [.logSuppressed]) := by decide +kernel
def Demo.hours : State := { Demo.s with time := { Demo.s.time with everLocked := true, base := 3600000000000 } }
theorem test_logSummary : Demo.hours.svc.log.summaryAt < fabAt Demo.hours (decided 9 Demo.hours) / 3600000000000 ∧ logFrozen Demo.hours = false ∧
    ((Demo.next (.logSummary 9) Demo.hours).svc.log.recs.getLast?).map (·.code) = some .logSummary := by decide +kernel
theorem test_logSectorErase : let s := Demo.runs (fun v => { v with log := { v.log with headUsed := 32768, nextErased := false } })
    logFrozen s = false ∧ (s.upTo 9).soonerSvc .freeze = false ∧ s.nvIdle = true ∧ s.svc.nv.eraseCount (1632 + (s.svc.log.head + 1) % 448) < 100000 := by decide +kernel
theorem test_entropyFail : Demo.s.sec.drbgStopped = false ∧ (Demo.next (.entropyFail 9) Demo.s).sec.drbgStopped = true := by decide +kernel
theorem test_unwrapBurst : let s : State := { Demo.s with sec := { Demo.s.sec with unwrapFails := List.replicate 16 4 } }
    16 ≤ (s.sec.unwrapFails.filter (fun n => decide (decided 9 s < n + cS))).length ∧ (Demo.next (.unwrapBurst 9) s).sec.unwrapRefuseUntil = some (9 + cS) := by decide +kernel
theorem test_unwrapBurst_ends : (Demo.next (.unwrapBurst 9) { Demo.s with sec := { Demo.s.sec with unwrapRefuseUntil := some 8 } }).sec.unwrapRefuseUntil = none := by decide +kernel
theorem test_debugExpiry : (Demo.s.upTo 9).soonerSvc .unlock = false ∧ 4 ≤ fabAt Demo.s (decided 9 Demo.s) ∧
    (Demo.next (.debugExpiry 9) { Demo.s with sec := { Demo.s.sec with scopes := [1], scopeExpiry := some 4 } }).sec.scopes = [] := by decide +kernel
def Demo.sweeping : KeySlot :=
  { KeySlot.reset with state := .rekeying, currentHalf := 0, half0 := fill 64 1, half1 := fill 64 2, part := some 0, tenant := some 2, sweep := some { newHalf := 1, rate := 0, silent := false } }
def Demo.rekey (B : List (Nat × Brick)) : State := let s := Demo.modS Demo.full (fun S => { S with bricks := B }); { s with sec := { s.sec with slots := [(5, Demo.sweeping)] } }
theorem test_rekeyUnit_end : (Demo.rekey []).sweepLeft 0 2 1 = [] ∧ (Demo.rekey []).serving 0 = true ∧ ((Demo.rekey []).twin 0).lead = false ∧
    (aget (Demo.next (.rekeyUnit 9 0 5) (Demo.rekey [])).sec.slots 5).map (fun k => (k.state, k.currentHalf, k.half0)) = some (.active, 1, []) := by decide +kernel
theorem test_rekeyUnit : let s := Demo.rekey [(0, { Demo.brick with keyHalf := 1, cursor := 8 })]
    s.sweepNext 0 (s.sweepLeft 0 2 1) = some 0 ∧ (s.flash 0).inFlight 0 2 = false ∧ (s.flash 0).relocating 0 2 = false ∧
      (List.range 4).all (fun j => !((s.store 0).page 0 (8 + j)).held) = true ∧ s.sweepPages 0 0 2 = [] ∧
      (((Demo.next (.rekeyUnit 9 0 5) s).store 0).brick? 0).map (·.cursor) = some 12 := by decide +kernel

/-! ### Power and temperature -/

def Demo.railEntry (n : Nat) : SeqEntry :=
  { en := n, pg := n, sns := some n, avs := if n = 0 then some 3 else none, nominalMv := 1000, offMv := 100, pgTimeout := 10, stepDelay := 50, discharge := 20, nominalW := 5 }
def Demo.table (follow : Bool) : SeqTable := { follow := follow, upTimeout := 100, dnTimeout := 100, coreEntry := 0, entries := [Demo.railEntry 0, Demo.railEntry 1] }
/-- In COLD, ready for power. -/
def Demo.ready (q : Sequencer → Sequencer) (p : Pins → Pins) : State :=
  { State.reset with svc := { Service.reset with booted := true, seqTable := some (Demo.table false), seq := q { Sequencer.reset with phase := .off, coldSince := 0 }, pins := p { Pins.reset with pwrReq := false, pwrFail := false } } }
theorem test_powerRequest : ((Demo.ready id id).upTo 1600000000).mayPower = true ∧ ((Demo.ready id id).tableOf (Demo.ready id id).svc.nv.opt).isSome = true ∧ (Demo.ready id id).svc.seq.coldCritical = false ∧
    (Demo.ready id id).svc.seq.retryAt = none ∧ (let u := Demo.next (.powerRequest 1600000000) (Demo.ready id id)
      u.pkg = .seqUp ∧ u.seqPhase = .waitPg 0 ∧ u.svc.pins.seqEn.length = 1 ∧ u.svc.pins.pwrReq = true) := by decide +kernel
theorem test_powerRequest_refused : ((Demo.ready id id).upTo 9).mayPower = false ∧ (Demo.ready id id).svc.pins.pwrReq = false ∧ (Demo.next (.powerRequest 9) (Demo.ready id id)).svc.pins.pwrReq = true := by decide +kernel
def Demo.faulted : State := Demo.ready (fun q => { q with retryAt := some 5, retries := 1 }) (fun p => { p with pwrReq := true })
theorem test_seqRetry : (Demo.faulted.upTo 1600000005).mayPower = true ∧ 5 + cS ≤ decided 1600000005 Demo.faulted ∧ (Demo.next (.seqRetry 1600000005) Demo.faulted).pkg = .seqUp := by decide +kernel
theorem test_powerWithdraw_cold : (Demo.next (.powerWithdraw 9) Demo.faulted).svc.pins.pwrReq = false ∧ (Demo.next (.powerWithdraw 9) Demo.faulted).svc.seq.retryAt = none := by decide +kernel
theorem test_powerWithdraw : Demo.full.partIds = [0] ∧ (Demo.next (.powerWithdraw 9) Demo.full).mode 0 = .drain ∧ (Demo.next (.powerWithdraw 9) Demo.full).hasCause 0 .off = true := by decide +kernel
theorem test_latchClear : let s := Demo.ready (fun q => { q with latched := true, retries := 4 }) id
    s.svc.pins.pwrReqSince + 500 * cMs ≤ decided 800000000 s ∧ (Demo.next (.latchClear 800000000) s).svc.seq.latched = false := by decide +kernel
def Demo.seq (ph : SeqPhase) (q : Sequencer → Sequencer) : State :=
  let s := Demo.ready (fun x => q { x with phase := ph, enabled := [0], since := 0 }) id
  { s with pkg := .seqUp, svc := { s.svc with seqTable := some (Demo.table true) } }
theorem test_chainUpIn : (Demo.seq .waitChainUp id).seqEntry 0 = some (Demo.railEntry 0) ∧ (Demo.seq .waitChainUp id).svc.seq.reverseDue = false ∧
    (Demo.next (.chainUpIn 9 true) (Demo.seq .waitChainUp id)).seqPhase = .waitPg 0 := by decide +kernel
theorem test_chainTimeout : 0 + (Demo.table true).upTimeout * cMs ≤ decided 160000000 (Demo.seq .waitChainUp id) ∧
    (Demo.next (.chainTimeout 160000000) (Demo.seq .waitChainUp id)).seqPhase = .waitPg 0 ∧
    (Demo.next (.chainTimeout 160000000) (Demo.seq .waitChainUp id)).svc.log.recs.map (·.code) = [.chainTimeout] := by decide +kernel
theorem test_seqPgAssert : (Demo.next (.seqPgAssert 9 0 1 950) (Demo.seq (.waitPg 0) id)).seqPhase = .stepDelay 0 ∧
    (Demo.next (.seqPgAssert 9 0 1 950) (Demo.seq (.waitPg 0) id)).svc.seq.good = [0] := by decide +kernel
theorem test_pgTimeout : (Demo.seq (.waitPg 0) id).svc.seq.enabled.getLast? = some 0 ∧ 0 + (Demo.railEntry 0).pgTimeout * cMs ≤ decided 16000000 (Demo.seq (.waitPg 0) id) ∧
    (let u := Demo.next (.pgTimeout 16000000 0) (Demo.seq (.waitPg 0) id)
     u.pkg = .seqDown ∧ u.svc.seq.fault = some (0, .timeout) ∧ u.seqPhase = .discharge 0) := by decide +kernel
theorem test_seqPgAssert_chatter : (Demo.next (.seqPgAssert 9 0 9 950) (Demo.seq (.waitPg 0) id)).svc.seq.fault = some (0, .chatter) := by decide +kernel
theorem test_seqPgAssert_low : (Demo.next (.seqPgAssert 9 0 8 899) (Demo.seq (.waitPg 0) id)).svc.seq.fault = some (0, .lowRail) := by decide +kernel
theorem test_stepDelayEnd : 0 + (Demo.railEntry 0).stepDelay * cUs ≤ decided 80000 (Demo.seq (.stepDelay 0) id) ∧ (Demo.seq (.stepDelay 0) id).seqEntry 1 = some (Demo.railEntry 1) ∧
    (Demo.next (.stepDelayEnd 80000 0) (Demo.seq (.stepDelay 0) id)).seqPhase = .waitPg 1 := by decide +kernel
theorem test_stepDelayEnd_last : (Demo.seq (.stepDelay 1) id).seqEntries.length = 1 + 1 ∧ (Demo.next (.stepDelayEnd 80000 1) (Demo.seq (.stepDelay 1) id)).seqPhase = .waitPll := by decide +kernel
theorem test_chainPins : (Demo.next (.chainUpIn 9 true) Demo.s).svc.pins.chainUpIn = true ∧ (Demo.next (.chainDnIn 9 true) Demo.s).svc.pins.chainDnIn = true ∧
    Demo.s.seqPhase ≠ .waitChainUp ∧ Demo.s.seqPhase ≠ .waitChainDn := by decide +kernel
theorem test_pllLock : (Demo.seq .waitPll id).seqPhase = .waitPll ∧ (Demo.seq .waitPll id).svc.pins.ethRefclk = true := by decide +kernel
theorem test_railFault : let s : State := { Demo.seq .up (fun q => { q with good := [0] }) with pkg := .on }
    s.seqPhase.railsUp = true ∧ s.svc.seq.fault = none ∧ (Demo.next (.railFault 9 0) s).pkg = .cold ∧ (Demo.next (.railFault 9 0) s).svc.seq.retries = 1 := by decide +kernel
def Demo.down (q : Sequencer → Sequencer) : State := { Demo.seq (.discharge 1) q with pkg := .seqDown }
theorem test_railDischarge : (Demo.down id).svc.seq.enabled.getLast? = some 0 ∧ (Demo.next (.railDischarge 9 1 99) (Demo.down id)).seqPhase = .discharge 0 := by decide +kernel
theorem test_railDischarge_last : (let u := Demo.next (.railDischarge 9 1 99) (Demo.down (fun q => { q with enabled := [] }))
    u.pkg = .cold ∧ u.seqPhase = .off ∧ u.svc.pins.chainDnOut = true) := by decide +kernel
theorem test_chainDnIn : (Demo.next (.chainDnIn 9 true) (Demo.seq .waitChainDn id)).seqPhase = .discharge 0 := by decide +kernel

def Demo.rail : AvsRail := { mv := 900, ma := 1000, lastGood := 0, lost := false, faultSeen := false }
def Demo.railed : State := { Demo.s with svc := { Demo.s.svc with seqTable := some (Demo.table false), avs := [(3, Demo.rail)] } }
theorem test_avsRead : let u := Demo.next (.avsRead 9 3 1000 2000 true false) Demo.railed
    aget u.svc.avs 3 = some { Demo.rail with mv := 1000, ma := 2000, lastGood := 9 } ∧ Demo.railed.fixedMw = 500 ∧ u.svc.powerMw = 2500 := by decide +kernel
theorem test_avsRead_failed : (Demo.next (.avsRead 9 3 1000 2000 false true) Demo.railed).svc.avs = [(3, Demo.rail)] := by decide +kernel
theorem test_avsLost : 0 + 100 * cMs ≤ decided 160000000 Demo.railed ∧ (Demo.next (.avsLost 160000000 3) Demo.railed).svc.avs = [(3, { Demo.rail with lost := true })] := by decide +kernel
theorem test_avsTargetWrite : Demo.railed.svc.seqTable = some (Demo.table false) ∧ (Demo.table false).entries[(Demo.table false).coreEntry]? = some (Demo.railEntry 0) ∧ (Demo.railEntry 0).avs = some 3 ∧
    Demo.railed.svc.coreWriteAt = none ∧ Demo.railed.partIds.all (fun p => Demo.railed.mode p != .drain) = true := by decide +kernel
def Demo.node : Node := { temp := 30, diode := none, divergeSince := none, below80Since := some 0, power := 0 }
/-- One node of 1,000 mJ/K at 30 °C over its diode 2, at an ambient of 25 °C. -/
def Demo.therm : State :=
  { Demo.s with image := { Demo.s.image with eff := Demo.records ++ [{ typ := 7, part := 0xFF, inst := 0, payload := Demo.payload 32 [(0, 2, 1), (2, 2, 1), (8, 2, 0xFFFF), (10, 1, 2), (12, 4, 1000), (16, 4, 100), (24, 2, 0), (26, 2, 5), (28, 2, 1000)] }] },
                svc := { Demo.s.svc with thermal := { Thermal.reset with nodes := [(0, Demo.node)], ambient := 400 } } }
theorem test_thermalUpdate : Demo.therm.svc.thermal.lastUpdate + Demo.therm.thermPeriod ≤ decided 1600000 Demo.therm := by decide +kernel
theorem test_thermalUpdate_early : decided 9 Demo.therm / 4 < Demo.therm.svc.thermal.lastUpdate / 4 + Demo.therm.thermPeriod / 4 ∧
    (Demo.next (.thermalUpdate 9 [{ source := 5, counts := [7] }]) Demo.therm).svc = Demo.therm.svc := by decide +kernel
theorem test_diodeRead : (Demo.therm.nodeCfg 0).diode = some 2 ∧ (Demo.next (.diodeRead 9 2 560) Demo.therm).svc.thermal.nodes = [(0, { Demo.node with diode := some 35 })] := by decide +kernel
theorem test_diodeRead_fault : (Demo.next (.diodeRead 9 2 2401) Demo.therm).svc.thermal.diodeFaults = [2] := by decide +kernel
theorem test_ambientWrite : (Demo.next (.ambientWrite 9 (natLE 2 0xFD80)) Demo.s).svc.thermal.ambient = -640 ∧ (Demo.next (.ambientWrite 9 (natLE 2 1361)) Demo.s).svc.sideband.badAmbient = 1 := by decide +kernel
theorem test_ambientStale : let s : State := { Demo.s with svc := { Demo.s.svc with thermal := { Demo.s.svc.thermal with stale := false } } }
    s.svc.thermal.ambientAt + 30 * cS ≤ decided 48000000000 s ∧ (Demo.next (.ambientStale 48000000000) s).svc.thermal.stale = true := by decide +kernel
/-- A raw diode reading of 120 °C is critical (R661). -/
def Demo.hot (x : Rat) : State := { Demo.full with svc := { Demo.full.svc with thermal := { Demo.full.svc.thermal with raw := [(1, x)] } } }
theorem test_criticalTrip : (Demo.hot 120).criticalNow = true ∧ (Demo.next (.criticalTrip 9) (Demo.hot 120)).pkg = .cold ∧ (Demo.next (.criticalTrip 9) (Demo.hot 120)).svc.pins.thermTrip = true ∧
    (Demo.next (.criticalTrip 9) (Demo.hot 119)).pkg = .on := by decide +kernel
theorem test_throttleTick : let s : State := { Demo.full with svc := { Demo.full.svc with thermal := { Demo.full.svc.thermal with dies := [(0, { DieTherm.reset with temp := 100 })] } } }
    ((Demo.next (.throttleTick 16000000) s).svc.thermal.dies.map (fun e => (e.1, e.2.throttle))) = [(0, 1)] := by decide +kernel
theorem test_refclkLoss : let s : State := { Demo.linked { up := true, downSince := none, lost := false } with svc := (Demo.seq .up id).svc }
    s.seqPhase.railsUp = true ∧ (aget (Demo.next (.refclkLoss 9) s).links (0, 0)).map (·.up) = some false := by decide +kernel
theorem test_refclkRecover : (Demo.next (.refclkRecover 9) Demo.s).svc.pins.ethRefclk = true := by decide +kernel
def Demo.tripped (l : List Nat) : State :=
  let s := Demo.ready (fun q => { q with coldCritical := true }) (fun p => { p with pwrReq := true })
  { s with svc := { s.svc with thermal := { s.svc.thermal with nodes := [(0, Demo.node)], restarts := l } } }
theorem test_restartAfterCooling_package : ((Demo.tripped []).upTo 96000000000).mayPower = true ∧ ((Demo.tripped []).upTo 96000000000).cooled none = true ∧
    ((Demo.tripped []).upTo 96000000000).recentRestarts < 3 ∧ (Demo.next (.restartAfterCooling 96000000000 none) (Demo.tripped [])).pkg = .seqUp ∧
    (Demo.next (.restartAfterCooling 96000000000 none) (Demo.tripped [1, 2, 3])).svc.thermal.lockout = true := by decide +kernel
def Demo.cooling : State :=
  let s := (Demo.therm.modMode 0 (fun m => { m with mode := .drain, causes := [.thermal] })).modStore 0 (fun S => { S with drain := { S.drain with done := true } })
  s
theorem test_restartAfterCooling : Demo.cooling.awaitsCooling 0 = true ∧ (Demo.cooling.upTo 96000000000).cooled (some 0) = true ∧ (Demo.cooling.upTo 96000000000).recentRestarts < 3 ∧
    (Demo.next (.restartAfterCooling 96000000000 (some 0)) Demo.cooling).mode 0 = .restore := by decide +kernel

/-! ### Supply, drains, RESTORE -/

def Demo.pins (s : State) (f : Pins → Pins) : State := { s with svc := { s.svc with pins := f s.svc.pins } }
def Demo.modeOf (s : State) (f : ModeSt → ModeSt) : State := s.modMode 0 f
theorem test_pwrFailNAssert : let s := Demo.pins Demo.full (fun p => { p with pwrFail := false })
    s.partIds = [0] ∧ s.serving 0 = true ∧ (let u := Demo.next (.pwrFailNAssert 9) s
      u.mode 0 = .drain ∧ u.hasCause 0 .power = true ∧ (u.store 0).drain.step = 2 ∧ u.svc.pins.pwrFail = true) := by decide +kernel
theorem test_pwrFailNAssert_halt : let u := Demo.next (.pwrFailNAssert 9) (Demo.pins (Demo.modeOf Demo.full (fun m => { m with mode := .build })) (fun p => { p with pwrFail := false }))
    u.mode 0 = .build ∧ (u.modeSt 0).halted = true := by decide +kernel
theorem test_pwrFailNDeassert : (Demo.next (.pwrFailNDeassert 9) (Demo.pins Demo.full (fun p => { p with pwrFail := true }))).svc.pins.pwrFail = false := by decide +kernel
def Demo.supply (ok : Bool) : State := Demo.pins Demo.full (fun p => { p with holdupOk := ok, holdupSince := 0 })
theorem test_holdupOkEdge : (Demo.next (.holdupOkEdge 9 true) (Demo.supply false)).svc.pins.holdupOk = true := by decide +kernel
theorem test_holdupOkLoss : 0 + cMs ≤ decided 1600000 (Demo.supply false) ∧ (Demo.next (.holdupOkLoss 1600000) (Demo.supply false)).mode 0 = .drain ∧
    (Demo.next (.holdupOkLoss 1600000) (Demo.supply false)).hasCause 0 .holdup = true := by decide +kernel
def Demo.draining (ok done : Bool) (cs : List Cause) : State :=
  (Demo.modeOf (Demo.supply ok) (fun m => { m with mode := .drain, causes := cs })).modStore 0 (fun S => { S with drain := { S.drain with step := if done then 11 else 9, done := done } })
theorem test_holdupOkHold : (Demo.next (.holdupOkHold 160000000) (Demo.draining true true [.holdup])).mode 0 = .restore := by decide +kernel
theorem test_bmcEmergencyDrain : (Demo.next (.bmcEmergencyDrain 9) Demo.full).mode 0 = .drain ∧ (Demo.next (.bmcEmergencyDrain 9) Demo.full).hasCause 0 .bmc = true := by decide +kernel
theorem test_drainSet : let s := (Demo.draining false false [.power]).modStore 0 (fun S => { S with drain := { S.drain with step := 2 } })
    (s.remote 0).ops.all (fun o => !(o.writes && o.accepted.isSome)) = true ∧ (s.flash 0).wbs = [] ∧ s.pkg = .on ∧ s.mode 0 = .drain ∧ (s.store 0).drain.step = 2 := by decide +kernel
theorem test_drainDone : let u := Demo.next (.drainDone 9 0) (Demo.draining false false [.power])
    u.mode 0 = .drain ∧ (u.store 0).drain.done = true ∧ (u.store 0).drain.lastCauses = [Cause.power.code] := by decide +kernel
theorem test_drainDone_dieLost : (Demo.next (.drainDone 9 0) (Demo.draining false false [.dieLost])).mode 0 = .service := by decide +kernel
theorem test_drainDone_holdup : (Demo.next (.drainDone 160000000 0) (Demo.draining true false [.holdup])).mode 0 = .restore := by decide +kernel
theorem test_haltComplete : let s := Demo.modeOf Demo.full (fun m => { m with mode := .restore, halted := true, causes := [.power] })
    (s.flash 0).wbs = [] ∧ s.hasCause 0 .power = true ∧ ((Demo.next (.haltComplete 9 0) s).modeSt 0).haltComplete = true := by decide +kernel
theorem test_powerDown : let s : State := { Demo.draining false true [.off] with svc := (Demo.seq .up id).svc }
    let s : State := { s with svc := { s.svc with seqTable := some (Demo.table false) } }
    s.partIds.all s.settledFor = true ∧ s.seqFollow = false ∧ s.svc.seq.enabled.getLast? = some 0 ∧ (Demo.next (.powerDown 9) s).pkg = .seqDown ∧
      (Demo.next (.powerDown 9) s).seqPhase = .discharge 0 := by decide +kernel
def Demo.restoring (f : StoreP → StoreP) (hold : Bool) : State :=
  (Demo.modeOf (Demo.supply true) (fun m => { m with mode := .restore, hold := hold })).modStore 0 (fun S => f { S with drain := { S.drain with rstep := 1 } })
theorem test_restore_fail : let s := Demo.restoring (fun S => { S with courses := [] }) false
    s.live 0 = true ∧ (s.store 0).drain.fact ≠ .serving ∧ (Demo.next (.restore 9 ⟨0, []⟩) s).mode 0 = .service ∧ (Demo.next (.restore 9 ⟨0, []⟩) s).hasCause 0 .restoreFail = true := by decide +kernel
def Demo.saved (hold : Bool) : State := Demo.restoring (fun S => { S with ckpt := { S.ckpt with bricks := [(0, Demo.brick.saved)], valid := [(0, 5)] } }) hold
theorem test_restore : (Demo.saved false).running = [] ∧ ((Demo.saved false).twin 0).paired = false ∧ (Demo.saved false).storeNv.objects.all (fun e => e.2.placement != 1) = true ∧
    ((Demo.saved false).store 0).courses ≠ [] ∧ ((Demo.saved false).store 0).ckpt.fmap = [] ∧ ((Demo.saved false).flash 0).units = [] ∧ ((Demo.saved false).modeSt 0).hold = false ∧
    ((Demo.saved true).modeSt 0).hold = true := by decide +kernel
theorem test_restoreTwinWait : let s := Demo.restoring (fun S => { S with drain := { S.drain with rstep := 6, awaited := [(0, 1)], awaitSince := some 0 } }) false
    0 + s.twinWait 0 ≤ decided 96000000000 s ∧ s.storeNv.lost.length < 4096 ∧ (Demo.next (.restoreTwinWait 96000000000 0) s).listed 0 0 1 = true := by decide +kernel
theorem test_restoreExit : let s : State := { Demo.restoring (fun S => { S with drain := { S.drain with rstep := 6 } }) false with time := { Demo.s.time with everLocked := true } }
    (s.store 0).drain.awaited = [] ∧ (s.twin 0).paired = false ∧ (Demo.next (.restoreExit 160000000 0) s).mode 0 = .serve := by decide +kernel

/-! ### Request packets, connections, the budget -/

def Demo.q : BitVec 24 := mkQpn 0 1 0
def Demo.pkt : Pkt :=
  { dport := 0, brk := 0, tag := none, udp := 4791, op := 0x0A, dqpn := Demo.q, psn := 10, rkey := Demo.winKey, va := 64, len := 16, payload := fill 16 3, ce := false, svc := false }
def Demo.req (k : Pkt) : Req := { pkt := k, imm := none, cmp := 0, swp := 0 }
theorem test_meets : Demo.full.meets 0 Demo.qp Demo.pkt ∧ Demo.full.lets 0 Demo.qp ∧ Demo.full.readyAt 0 64 16 ∧ (Demo.full.remote 0).budget.data ≠ 0 ∧
    Demo.full.windowCheck 0 Demo.qp (Demo.req Demo.pkt) = .inr (0, Demo.win) ∧ (Demo.full.winProfile 0 Demo.win).encipher = false ∧
    (Demo.full.winProfile 0 Demo.win).durability ≠ 2 ∧ (spans 64 16).length ≤ (Demo.full.rd 0).credit := by
  unfold State.meets State.lets State.readyAt; decide +kernel
/-- The context, the operations and what was sent after a request. -/
structure Demo.Seen where
  qp : Option (BitVec 24 × BitVec 24 × Nat)
  ops : List (OpKind × Nat × List Byte × Option Nat)
  out : List Out
  deriving DecidableEq
def Demo.seen (u : State) : Demo.Seen :=
  { qp := (u.qp? Demo.q).map (fun x => (x.epsn, x.msn, x.unacked)), ops := (u.remote 0).ops.map (fun o => (o.kind, o.addr, o.data, o.accepted)), out := u.out }
theorem test_rdmaWrite : let u := Demo.next (.rdmaWrite 9 Demo.pkt) Demo.full
    Demo.seen u = ⟨some (11, 1, 0), [(OpKind.write, 64, fill 16 3, some 9)], [Out.rdma 9 Demo.q 10 (.ack 1) Demo.qp.way]⟩ ∧ u.store 0 = Demo.full.store 0 ∧
    (u.remote 0).budget.charged = 1 := by decide +kernel
theorem test_rdmaWriteWithImmediate : Demo.win.ring = none ∧ Demo.seen (Demo.next (.rdmaWriteWithImmediate 9 { Demo.pkt with op := 0x0B } 77) Demo.full) =
    ⟨some (11, 1, 0), [(OpKind.writeImm 77, 64, fill 16 3, some 9)], [Out.rdma 9 Demo.q 10 (.ack 1) Demo.qp.way]⟩ := by decide +kernel
theorem test_atomicWrite : Demo.seen (Demo.next (.atomicWrite 9 { Demo.pkt with op := 0x1D, payload := fill 8 4 }) Demo.full) =
    ⟨some (11, 1, 0), [(OpKind.atomicWrite, 64, fill 8 4, some 9)], [Out.rdma 9 Demo.q 10 (.ack 1) Demo.qp.way]⟩ := by decide +kernel
def Demo.message : List Byte := natBE 2 0x4853 ++ [1, 2] ++ natBE 2 48 ++ fill 42 0
def Demo.sendPkt : Pkt := { Demo.pkt with op := 4, payload := Demo.message, len := 0 }
theorem test_send : envelopeOk Demo.message = true ∧ beAt Demo.message 4 2 = Demo.message.length ∧ Demo.full.meets 0 Demo.qp Demo.sendPkt ∧
    (let u := Demo.next (.send 9 Demo.sendPkt) Demo.full
     Demo.seen u = ⟨some (11, 1, 0), [], [Out.rdma 9 Demo.q 10 (.ack 1) Demo.qp.way]⟩ ∧ agetD (u.remote 0).svcQueue 2 [] = [{ qpn := Demo.q, bytes := Demo.message }]) := by
  unfold State.meets; decide +kernel
def Demo.unacked : Qp := { Demo.qp with oldestUnacked := some 0, unacked := 3, lastAcc := some 9 }
def Demo.coalesce : State := Demo.full.modRd 0 (fun r => { r with qps := [(0, Demo.unacked)] })
theorem test_ackCoalesce : Demo.coalesce.qp? Demo.q = some Demo.unacked ∧ Demo.coalesce.sendsOn 0 Demo.unacked ∧ 0 + 2 * cUs ≤ decided 3200 Demo.coalesce ∧ Demo.coalesce.ackPsn 0 Demo.unacked = some 9 ∧
    (let u := Demo.next (.ackCoalesce 3200 Demo.q) Demo.coalesce
     u.out = [Out.rdma 3200 Demo.q 9 (.ack 0) Demo.qp.way] ∧ u.qp? Demo.q = some { Demo.unacked with unacked := 0, oldestUnacked := none }) := by unfold State.sendsOn; decide +kernel
def Demo.placing : State := Demo.full.modRemote 0 (fun r => { r with ops := [{ Demo.op with addr := 4096, len := 8, data := fill 8 5, accepted := some 1 }] })
theorem test_placement : Demo.placing.quiet 0 = true ∧ Demo.placing.wayFree 0 0 1 ∧ spans 4096 8 = [(0, 1, 0, 8)] ∧ Demo.placing.readyAt 0 4096 8 ∧ Demo.placing.cleanAt 0 0 1 0 8 ∧
    Demo.placing.mirrored 0 0 = false ∧ Demo.brick.evicting = false ∧ Memory.wf (Demo.placing.store 0).dram = true ∧
    (let u := Demo.next (.placement 9 0 0) Demo.placing
     (u.remote 0).ops = [] ∧ ((u.store 0).page 0 1).dirty = true ∧ (u.store 0).dram = (List.range 8).map (fun i => (4096 + i, (5 : Byte)))) := by
  unfold State.readyAt State.cleanAt State.wayFree; decide +kernel
def Demo.statusEnvelope : List Byte :=
  natBE 2 0x4853 ++ [1, 2] ++ natBE 2 48 ++ natBE 2 9 ++ natBE 4 Demo.winKey.toNat ++ natBE 8 4096 ++ fill 28 0
def Demo.queuedMsg : State := Demo.full.modRemote 0 (fun r => { r with svcQueue := [(2, [{ qpn := Demo.q, bytes := Demo.statusEnvelope }])] })
theorem test_serviceMsgDequeue : (Demo.queuedMsg.statusWin 0 2 (BitVec.ofNat 32 (beAt Demo.statusEnvelope 8 4)) (beAt Demo.statusEnvelope 12 8)).isSome = true ∧
    (let u := Demo.next (.serviceMsgDequeue 9 0 2) Demo.queuedMsg
     agetD (u.remote 0).svcQueue 2 [] = [] ∧ (u.remote 0).svcWork.map (fun w => (w.tenant, w.typ, w.tag, w.body)) = [(2, 2, 9, fill 16 0)]) := by decide +kernel
def Demo.statusRec : StatusRec := { tenant := 2, key := Demo.winKey, va := 4096, bytes := fill 63 0 ++ [6] }
def Demo.recording : State := Demo.full.modRemote 0 (fun r => { r with statusRecs := [Demo.statusRec] })
theorem test_statusRecordPlace : Demo.recording.still 0 = true ∧ Demo.recording.wayFree 0 0 1 ∧ (Demo.recording.remote 0).budget.homeFree ≠ 0 ∧ Demo.recording.statusWin 0 2 Demo.winKey 4096 = some (0, Demo.win) ∧
    spans (Demo.win.addr 4096) 64 = [(0, 1, 0, 64)] ∧ Demo.recording.readyAt 0 4096 64 ∧ Demo.recording.cleanAt 0 0 1 0 64 ∧
    (let u := Demo.next (.statusRecordPlace 9 0) Demo.recording
     (u.remote 0).statusRecs = [] ∧ (u.remote 0).ops = [] ∧ (u.store 0).dram = [(4159, 6)]) := by
  unfold State.readyAt State.cleanAt State.wayFree; decide +kernel

def Demo.readPkt : Pkt := { Demo.pkt with op := 0x0C, payload := [] }
def Demo.written : State := Demo.full.modStore 0 (fun S => { S with dram := [(65, 8)] })
theorem test_revokeFirst : ({ Demo.full with pending := [.revokeWindow 0 Demo.c 0 Demo.winKey] } : State).windowCheck 0 Demo.qp (Demo.req Demo.pkt) = .inl 0x21 := by
  decide +kernel
theorem test_rdmaReadRequest : Demo.written.windowCheck 0 Demo.qp (Demo.req Demo.readPkt) = .inr (0, Demo.win) ∧ Demo.written.cleanAt 0 0 0 64 16 ∧
    (let o := mkOp 1 Demo.written 0 Demo.qp (Demo.req Demo.readPkt) 0 Demo.win false
     o.spans = [(0, 0, 64, 16)] ∧ Demo.written.pageRead 0 o 0 0 64 16 = .ram) ∧
    Demo.seen (Demo.next (.rdmaReadRequest 9 Demo.readPkt) Demo.written) = ⟨some (11, 1, 0), [], [Out.rdma 9 Demo.q 10 (.readData ([0, 8] ++ fill 14 0)) Demo.qp.way]⟩ := by
  unfold State.cleanAt; decide +kernel
/-- A page that was never written reads as zeros (R74). -/
theorem test_rdmaReadRequest_zero : let k := { Demo.readPkt with va := 8192 }
    (let o := mkOp 1 Demo.full 0 Demo.qp (Demo.req k) 0 Demo.win false
     o.spans = [(0, 2, 0, 16)] ∧ Demo.full.pageRead 0 o 0 2 0 16 = .zero) ∧
    (Demo.next (.rdmaReadRequest 9 k) Demo.full).out = [Out.rdma 9 Demo.q 10 (.readData (fill 16 0)) Demo.qp.way] := by decide +kernel
def Demo.casPkt : Pkt := { Demo.pkt with op := 0x13, payload := [] }
theorem test_compareSwap : Demo.written.meets 0 Demo.qp Demo.casPkt ∧ Demo.written.wayFree 0 0 0 ∧ Demo.written.listed 0 0 0 = false ∧ Demo.written.lets 0 Demo.qp ∧ spans (Demo.win.addr 64) 8 = [(0, 0, 64, 8)] ∧
    (let u := Demo.next (.compareSwap 9 Demo.casPkt 0x800 5) Demo.written
     Demo.seen u = ⟨some (11, 1, 0), [], [Out.rdma 9 Demo.q 10 (.atomicAck 0x800) Demo.qp.way]⟩ ∧ (u.store 0).dram = [(64, 5)] ∧
       (u.qp? Demo.q).map (fun x => aget x.saved 10) = some (some 0x800)) := by unfold State.meets State.lets State.wayFree; decide +kernel
theorem test_compareSwap_fails : let u := Demo.next (.compareSwap 9 Demo.casPkt 1 5) Demo.written
    Demo.seen u = ⟨some (11, 1, 0), [], [Out.rdma 9 Demo.q 10 (.atomicAck 0x800) Demo.qp.way]⟩ ∧ (u.store 0).dram = [(65, 8)] := by decide +kernel
theorem test_fetchAdd : let u := Demo.next (.fetchAdd 9 { Demo.casPkt with op := 0x14 } 0x101) Demo.written
    Demo.seen u = ⟨some (11, 1, 0), [], [Out.rdma 9 Demo.q 10 (.atomicAck 0x800) Demo.qp.way]⟩ ∧ (u.store 0).dram = [(64, 1), (65, 9)] := by decide +kernel
def Demo.flushPkt : Pkt := { Demo.pkt with op := 0x1C, payload := [] }
theorem test_flush : Demo.full.windowCheck 0 Demo.qp { pkt := Demo.flushPkt, imm := none, cmp := 1, swp := 1 } = .inr (0, Demo.win) ∧
    (let u := Demo.next (.flush 9 Demo.flushPkt 1 1) Demo.full
     u.store 0 = Demo.full.store 0 ∧ u.out = [] ∧ (u.qp? Demo.q).map (fun x => (x.epsn, x.msn)) = some (11, 1) ∧
       (u.remote 0).ops.map (fun o => (o.psn, o.kind)) = [(10, OpKind.flush 1 true false)]) := by decide +kernel
def Demo.flushing : State := Demo.full.modRemote 0 (fun r => { r with ops := [{ Demo.op with kind := .flush 1 true true, data := [] }] })
theorem test_flushResponse : Demo.flushing.quiet 0 = true ∧ Demo.flushing.sendsOn 0 Demo.qp ∧ (Demo.flushing.remote 0).unconfirmed = [] ∧
    (let u := Demo.next (.flushResponse 9 Demo.q 10) Demo.flushing
     (u.remote 0).ops = [] ∧ u.out = [Out.rdma 9 Demo.q 10 (.ack 0) Demo.qp.way] ∧ u.qp? Demo.q = some Demo.qp) := by unfold State.sendsOn; decide +kernel

def Demo.arr : Arrival := { port := 0, brk := 0, tag := none }
def Demo.qps (q : Qp) : State := Demo.full.modRd 0 (fun r => { r with qps := [(0, q)] })
def Demo.cmReq : CmReq :=
  { dport := 0, brk := 0, tag := none, qpn := 55, psn := 7, pmtu := 4096, respRes := 8, transport := 0, ip := 1, mac := 2, vlan := 0, dscp := 0,
    priv := natBE 2 0xA8C1 ++ [1, 1] ++ natBE 2 2 ++ [0, 0] ++ fill 16 7 ++ fill 68 0, dst := 9 }
theorem test_cmReq : Demo.full.partOfDie 0 = some 0 ∧ Demo.full.reqAddr 0 Demo.cmReq = some (0, false) ∧ (Demo.full.macPort 0 0).mode = 0 ∧ Demo.full.pending = [] ∧
    (Demo.full.remote 0).admission.open_ (Demo.full.slotStep 0) (fabAt Demo.full (decided 9 Demo.full) * 65536) = true ∧ Demo.full.partHasPort 0 0 = true ∧ credentialForm Demo.cmReq.priv = true ∧
    aget (Demo.full.remote 0).tenants (beAt Demo.cmReq.priv 4 2 % 4096) = some Demo.tenant ∧ slice Demo.cmReq.priv 8 16 = Demo.tenant.token ∧
    (Demo.full.tclass? 0 0).map (·.qpLimit) = some 8 ∧ (Demo.full.remote 0).admission.nextSlot ≤ fabAt Demo.full (decided 9 Demo.full) * 65536 ∧
    Demo.full.freeSlot 0 0 false = some 1 ∧ Demo.full.tenantQps 0 2 < 8 ∧ (Demo.full.die? 0).map (fun D => D.remote.gen 1) = some 1 ∧
    (let u := Demo.next (.cmReq 9 Demo.cmReq) Demo.full
     u.out = [Out.cm (udpSource 1) (mkQpn 0 1 1) (.rep 7 8 1 4096)] ∧ (u.remote 0).admission.nextSlot = fabAt Demo.full 9 * 65536 + Demo.full.slotStep 0 ∧
       (u.qp? (mkQpn 0 1 1)).map (fun x => (x.state, x.tenant, x.dest, x.epsn)) = some (QpState.connecting, 2, 55, 7)) := by decide +kernel
theorem test_cmReq_service : let s := Demo.full.modPart 0 (fun P => { P with mode := { P.mode with mode := .service } })
    s.mode 0 = .service ∧ (Demo.next (.cmReq 9 Demo.cmReq) s).out = [Out.cmTo (udpSource 1) 55 (.rej 28 (rejInfo 6 0))] := by decide +kernel
theorem test_cmReq_restore : let s := Demo.full.modPart 0 (fun P => { P with mode := { P.mode with mode := .restore } })
    (Demo.next (.cmReq 9 Demo.cmReq) s).out.length = 1 ∧ ((Demo.next (.cmReq 9 Demo.cmReq) s).remote 0).admission.promised.length = 1 ∧
      (let d := Demo.full.modPart 0 (fun P => { P with mode := { P.mode with mode := .drain } })
       (Demo.next (.cmReq 9 Demo.cmReq) d).out = [] ∧ (Demo.next (.cmRtu 9 ⟨Demo.arr, Demo.q⟩) d).dies = d.dies) := by decide +kernel
def Demo.connecting : Qp := { Demo.qp with state := .connecting, repAt := some 0 }
theorem test_cmRtu : (Demo.qps Demo.connecting).qp? Demo.q = some Demo.connecting ∧
    (Demo.next (.cmRtu 9 ⟨Demo.arr, Demo.q⟩) (Demo.qps Demo.connecting)).qp? Demo.q = some { Demo.connecting with state := .ready } := by decide +kernel
theorem test_cmDreq : Demo.full.idle 0 Demo.q = true ∧ (let u := Demo.next (.cmDreq 9 ⟨Demo.arr, Demo.q⟩) Demo.full
    u.out = [Out.cm (udpSource 1) Demo.q .drep] ∧ u.qp? Demo.q = some { Demo.qp with state := .timewait, timewaitAt := some 9 }) := by decide +kernel
def Demo.closing : Qp := { Demo.qp with state := .closing, closingAt := some 0 }
theorem test_cmDrep : (Demo.next (.cmDrep 9 ⟨Demo.arr, Demo.q⟩) (Demo.qps Demo.closing)).qp? Demo.q = some { Demo.qp with state := .timewait, timewaitAt := some 9 } := by decide +kernel
theorem test_repResend : let u := Demo.next (.repResend 32000000 Demo.q) (Demo.qps Demo.connecting)
    u.out = [Out.cm (udpSource 1) Demo.q (.rep 10 4 0 4096)] ∧ u.qp? Demo.q = some { Demo.connecting with repAt := some 32000000, repResends := 1 } := by decide +kernel
theorem test_repResend_third : let s := Demo.qps { Demo.connecting with repResends := 3 }
    (Demo.next (.repResend 32000000 Demo.q) s).qp? Demo.q = none ∧ ((Demo.next (.repResend 32000000 Demo.q) s).rd 0).gen 0 = 2 := by decide +kernel
theorem test_closingTimeout : 0 + 2 * cS ≤ decided 3200000000 Demo.full ∧ (Demo.next (.closingTimeout 3200000000 Demo.q) (Demo.qps Demo.closing)).qp? Demo.q =
    some { Demo.qp with state := .timewait, timewaitAt := some 3200000000 } := by decide +kernel
def Demo.ending : Qp := { Demo.qp with state := .timewait, timewaitAt := some 0 }
theorem test_timewaitExpiry : let u := Demo.next (.timewaitExpiry 1600000000 Demo.q) (Demo.qps Demo.ending)
    u.qp? Demo.q = none ∧ (u.rd 0).gen 0 = nextGen 1 := by decide +kernel
theorem test_qpFlushComplete : (Demo.full.fabric 0).farSent = [] ∧ (let u := Demo.next (.qpFlushComplete 9 Demo.q) (Demo.qps { Demo.qp with state := .error })
    u.out = [Out.cm (udpSource 1) Demo.q .dreq] ∧ u.qp? Demo.q = some { Demo.qp with state := .closing, closingAt := some 9 }) := by decide +kernel
/-- R140: 80 Gb/s, one CNP in the last 100 µs: three quarters. -/
theorem test_cnp : let u := Demo.next (.cnp 9 ⟨Demo.arr, Demo.q⟩) (Demo.qps { Demo.qp with rate := 80000 })
    (u.qp? Demo.q).map (fun x => (x.cnpCount, x.increases, x.quietSince, x.rate)) = some (1, 0, 9, 60000) := by decide +kernel
theorem test_rateIncrease : (Demo.next (.rateIncrease 64000 Demo.q) (Demo.qps { Demo.qp with rate := 8000 })).qp? Demo.q =
    some { Demo.qp with rate := 8250, increases := 1, quietSince := 64000 } := by decide +kernel
def Demo.waitingOp : State := Demo.full.modRemote 0 (fun r => { r with ops := [Demo.op] })
theorem test_budgetAccept : Demo.waitingOp.quiet 0 = true ∧ Demo.op.spans = [(0, 0, 0, 64)] ∧ Demo.waitingOp.readyAt 0 0 64 ∧
    (let u := Demo.next (.budgetAccept 9 0 0) Demo.waitingOp
     (u.remote 0).ops.map (fun x => (x.id, x.accepted)) = [(0, some 9)] ∧ (u.remote 0).budget.charged = 1 ∧ (u.rd 0).credit = 15 ∧
       u.out = [Out.rdma 9 Demo.q 10 (.ack 0) Demo.qp.way]) := by unfold State.readyAt; decide +kernel
theorem test_budgetWait : let s := Demo.waitingOp.modRemote 0 (fun r => { r with budget := { r.budget with data := 0 } })
    0 + 64 * cMs ≤ decided 102400000 s ∧ (let u := Demo.next (.budgetWait 102400000 0 0) s
     (u.remote 0).ops = [] ∧ u.qp? Demo.q = some { Demo.qp with epsn := 10 } ∧ agetD (u.rd 0).causes 7 0 = 1) := by decide +kernel
theorem test_budgetRecompute : let u := Demo.next (.budgetRecompute 9) Demo.full
    Demo.full.partIds = [0] ∧ (u.remote 0).budget.pages = Demo.full.budgetPages 0 ∧ (u.remote 0).budget.data = 0 := by decide +kernel

/-! ### The twin -/

def Demo.pair : TwinP := { TwinP.reset with paired := true, epoch := 3, epochSeen := 3, delivered := 6, confirmSent := 6, mseqNext := 9, sent := 8, confirmed := 7 }
def Demo.twinned (T : TwinP) : State := Demo.full.modTwin 0 (fun _ => T)
def Demo.hdr : MirHdr := { path := 1, group := 0, epoch := 3, mseq := 7, time := 0 }
def Demo.leader : TwinP := { Demo.pair with role := .lead }
theorem test_twinIdle : (Demo.twinned Demo.pair).twinIdle 0 = true ∧ (Demo.twinned Demo.leader).twinIdle 0 = true ∧ (Demo.twinned Demo.pair).nextMsg 0 Demo.hdr ∧
    Demo.pair.following = true ∧ Demo.leader.lead = true := by unfold State.nextMsg; decide +kernel
def Demo.repl : ReplBody := { replica := 4, brick := 0, page := 1, mask := maskOf [2], lines := [fill 64 7], rekey := none }
def Demo.ordered : State := Demo.twinned { Demo.pair with replicas := [(4, (5, Demo.repl))] }
def Demo.applied : ApplyEntry := { kind := .replica, second := false, cause := 0, epoch := 0, id := 4, psn := 0, page := 1 }
theorem test_apply : Demo.ordered.twinIdle 0 = true ∧ Demo.ordered.pageReady 0 0 1 0 0 = true ∧ (Demo.ordered.store 0).valid 0 1 = true ∧
    Demo.ordered.cleanAt 0 0 1 128 64 ∧ (let u := Demo.next (.apply 9 0 Demo.hdr [Demo.applied]) Demo.ordered
      (u.twin 0).delivered = 7 ∧ (u.twin 0).stream = [] ∧ (u.twin 0).replicas = [] ∧ Memory.readN (u.store 0).dram (4096 + 128) 64 = fill 64 7) := by
  unfold State.cleanAt; decide +kernel
theorem test_replicate : aget ((Demo.next (.replicate 9 0 Demo.hdr Demo.repl) (Demo.twinned Demo.pair)).twin 0).replicas 4 = some (7, Demo.repl) := by decide +kernel
theorem test_confirm : ((Demo.twinned Demo.leader).twinQps 0).all (fun q => q.repWait.isNone) = true ∧
    ((Demo.next (.confirm 9 0 Demo.hdr 20) (Demo.twinned Demo.leader)).twin 0).confirmed = 8 := by decide +kernel
def Demo.keptPkt : Kept := { pkt := Demo.pkt, imm := none, cmp := 0, swp := 0 }
def Demo.keeping : State := Demo.twinned { Demo.pair with kept := [(Demo.q, Demo.keptPkt)] }
theorem test_progress : let u := Demo.next (.progress 9 0 Demo.hdr [{ qpn := Demo.q, psn := 10 }]) Demo.keeping
    (u.twin 0).kept = [] ∧ aget (u.twin 0).peerPsn Demo.q = some 10 := by decide +kernel
theorem test_digest : let s := Demo.twinned { Demo.leader with digest := { DigestSt.reset with ours := [(5, 77)] } }
    s.twinIdle 0 = true ∧ ((Demo.next (.digest 9 0 Demo.hdr 5 0 77) s).twin 0).digest.lastMatched = 5 ∧ ((Demo.next (.digest 9 0 Demo.hdr 5 0 77) s).twin 0).digest.matched = true := by
  decide +kernel
theorem test_fetchReq_none : let u := Demo.next (.fetchReq 9 0 Demo.hdr Demo.q 10 2) (Demo.twinned Demo.pair)
    Out.mirror 0 1 8 (mirrorBytes ((Demo.twinned Demo.pair).upTo 9) 0 1 8 9 (natBE 4 Demo.q.toNat ++ natBE 4 10 ++ natBE 4 2)) ∈ u.out := by decide +kernel
theorem test_fetchReq : let u := Demo.next (.fetchReq 9 0 Demo.hdr Demo.q 10 2) Demo.keeping
    Out.mirror 0 0 7 (mirrorBytes (Demo.keeping.upTo 9) 0 0 7 9 (natBE 4 Demo.q.toNat ++ natBE 4 1 ++ keptBytes Demo.keptPkt)) ∈ u.out := by decide +kernel
def Demo.twinQp : Qp := { Demo.qp with twinned := true, fetchSince := some 0, gapSince := some 0 }
def Demo.twinnedQp (T : TwinP) : State := (Demo.twinned T).modRd 0 (fun r => { r with qps := [(0, Demo.twinQp)] })
theorem test_fetchData : let s := Demo.twinnedQp Demo.pair
    s.qp? Demo.q = some Demo.twinQp ∧ (let u := Demo.next (.fetchData 9 0 Demo.hdr Demo.q [{ Demo.keptPkt with pkt := { Demo.pkt with len := 0, payload := [] } }]) s
      (u.qp? Demo.q).map (fun x => (x.epsn, x.msn, x.fetchSince)) = some (11, 1, none)) := by decide +kernel
theorem test_fetchNone : let u := Demo.next (.fetchNone 9 0 Demo.hdr Demo.q) (Demo.twinnedQp Demo.leader)
    u.qp? Demo.q = some { Demo.twinQp with fetchSince := none, gapNaked := true } ∧ Out.rdma 9 Demo.q 10 (.nak 0x60) Demo.qp.way ∈ u.out := by decide +kernel
theorem test_pageReq : let u := Demo.next (.pageReq 9 0 Demo.hdr 1 3) (Demo.twinned Demo.pair)
    (u.twin 0).pageWaits = [] ∧ (u.out.take 2).map (fun o => match o with | .mirror p path kind _ => (p, path, kind) | _ => (9, 9, 9)) = [(0, 0, 10), (0, 1, 10)] := by decide +kernel
def Demo.heldPage : State :=
  (Demo.twinned { Demo.pair with pageReqs := [(0, 1)] }).modPage 0 0 1 (fun P => { P with held := true })
set_option maxRecDepth 20000 in
theorem test_pageData : (Demo.heldPage.store 0).resident 0 = true ∧ ((Demo.heldPage.store 0).page 0 1).held = true ∧ (Demo.heldPage.store 0).frameWaits = [] ∧
    (let u := Demo.next (.pageData 9 0 Demo.hdr 0 1 (fill 4095 0 ++ [6])) Demo.heldPage
     (u.twin 0).pageReqs = [] ∧ ((u.store 0).page 0 1).held = false ∧ (u.store 0).dram = [(8191, 6)]) := by decide +kernel
def Demo.winSync : WinSync :=
  { index := 5, baseVa := 0, length := 4096, gen := 2, firstBrick := 0, tenant := 2, profile := 0, rights := 3, valid := true, far := none, ring := none }
theorem test_tableSync : let u := Demo.next (.tableSync 9 0 Demo.hdr { windows := [Demo.winSync], tenants := [], keys := [], whole := false }) (Demo.twinned Demo.pair)
    aget (u.remote 0).windows 5 = some (winOfSync Demo.winSync) ∧ (u.die? 1).map (fun D => aget D.remote.replica 5) = some (some 2) ∧ u.configGen = 1 := by decide +kernel
def Demo.ctx : QpCtx :=
  { qpn := mkQpn 1 4 3, dest := 8, epsn := 5, msn := 2, tenant := 2, policy := 0, pmtu := 5, ip := 0, mac := 0, vlan := 0, dscp := 0, respRes := 2, port := 0, brk := 0, ready := true }
theorem test_qpOpen : let u := Demo.next (.qpOpen 9 0 Demo.hdr Demo.ctx) (Demo.twinned Demo.pair)
    (u.qp? (mkQpn 1 4 3)).map (fun x => (x.state, x.twinned, x.tenant, x.dest, x.epsn, x.msn)) = some (QpState.connecting, true, 2, 8, 5, 2) := by decide +kernel
theorem test_qpState : let u := Demo.next (.qpState 9 0 Demo.hdr Demo.ctx) (Demo.twinned Demo.pair)
    (u.qp? (mkQpn 1 4 3)).map (fun x => (x.state, x.twinned, x.epsn)) = some (QpState.ready, true, 5) := by decide +kernel
theorem test_resyncEnd : let T := ((Demo.next (.resyncEnd 9 0 Demo.hdr) (Demo.twinned { Demo.pair with resync := true, copySet := [1], unitsIn := [(1, 0)] })).twin 0)
    T.resyncDone = true ∧ T.copySet = [] ∧ T.unitsIn = [] ∧ T.wholeResync = false := by decide +kernel
theorem test_heartbeat : ((Demo.next (.heartbeat 9 0 Demo.hdr) (Demo.twinned Demo.pair)).twin 0).paths[1]? = some { MirrorPath.reset with up := true, lastIn := 9 } := by decide +kernel
theorem test_fenceNotice : ((Demo.next (.fenceNotice 9 0 Demo.hdr 5) (Demo.twinned Demo.pair)).twin 0).freeRunning = true ∧
    (let u := Demo.next (.fenceNotice 9 0 Demo.hdr 5) (Demo.twinned Demo.leader)
     u.mode 0 = .solo ∧ (u.twin 0).solo = true ∧ (u.twin 0).peerFenced = true) := by decide +kernel
def Demo.copying : State := (Demo.tier id id).modTwin 0 (fun _ => { Demo.pair with resync := true, copySet := [0] })
def Demo.brickBody : BrickBody :=
  { brick := 0, unit := 1, valid := [true, false, true, false], keyHalf := [0, 0, 0, 0], pages := [fill 4096 0, [5] ++ fill 4095 0], tracked := none }
set_option maxRecDepth 20000 in
theorem test_brickData : Demo.copying.twinIdle 0 = true ∧ (Demo.copying.takeProgram 0 .openWrite false none).isSome = true ∧ ((Demo.copying.store 0).brick? 0).isSome = true ∧
    0 < Demo.copying.brickCount 0 ∧ (let u := Demo.next (.brickData 9 0 Demo.hdr Demo.brickBody) Demo.copying
     (u.twin 0).unitsIn = [(0, 1)] ∧ (List.range 4).map (fun i => (u.store 0).valid 0 (4 + i)) = [true, false, true, false] ∧
       (u.flash 0).pageData 0 6 = [(0, 5)]) := by decide +kernel

theorem test_twinFetchTimeout : let u := Demo.next (.twinFetchTimeout 80000 Demo.q) (Demo.twinnedQp Demo.leader)
    u.qp? Demo.q = some { Demo.twinQp with fetchSince := none, gapNaked := true } ∧ u.out = [Out.rdma 80000 Demo.q 10 (.nak 0x60) Demo.qp.way] := by decide +kernel
def Demo.unsent : State := Demo.twinned { Demo.leader with unsent := [Demo.applied], unsentSince := some 0 }
theorem test_applySend : Demo.unsent.twinIdle 0 = true ∧ (let u := Demo.next (.applySend 800 0) Demo.unsent
    (u.twin 0).unsent = [] ∧ (u.twin 0).sent = 9 ∧ Out.mirror 0 1 1 (mirrorBytes (Demo.unsent.upTo 800) 0 1 1 9 (entryBytes Demo.applied)) ∈ u.out) := by decide +kernel
theorem test_progressSend : Demo.leader.mirrors = true ∧ (let u := Demo.next (.progressSend 16000 0) (Demo.twinned Demo.leader)
    (u.twin 0).progressAt = 16000 ∧ Out.mirror 0 0 4 (mirrorBytes ((Demo.twinned Demo.leader).upTo 16000) 0 0 4 9 []) ∈ u.out) := by decide +kernel
theorem test_heartbeatSend : let u := Demo.next (.heartbeatSend 160000 0 1) (Demo.twinned Demo.pair)
    (u.twin 0).paths[1]? = some { MirrorPath.reset with lastOut := 160000 } ∧
    Out.mirror 0 1 0x10 (mirrorBytes ((Demo.twinned Demo.pair).upTo 160000) 0 1 0x10 0 []) ∈ u.out := by decide +kernel
theorem test_digestEpoch : let s := Demo.twinned { Demo.leader with digest := { DigestSt.reset with folds := [(4294967295, (2, 6))] } }
    let u := Demo.next (.digestEpoch 9 0) s
    (u.twin 0).digest.sent = some 4294967295 ∧ (u.twin 0).digest.d = 6 ∧
      Out.mirror 0 0 5 (mirrorBytes (s.upTo 9) 0 0 5 9 (digestBytes 4294967295 (2, 6))) ∈ u.out := by decide +kernel
def Demo.upPath : MirrorPath := { MirrorPath.reset with up := true }
theorem test_mirrorPathDown : ((Demo.next (.mirrorPathDown 1600000 0 0) (Demo.twinned { Demo.pair with paths := [Demo.upPath, Demo.upPath] })).twin 0).paths[0]? =
    some { Demo.upPath with up := false, downSince := some 1600000 } := by decide +kernel
def Demo.downPath : MirrorPath := { MirrorPath.reset with downSince := some 0 }
theorem test_mirrorLost : let T := (Demo.next (.mirrorLost 3200000 0) (Demo.twinned { Demo.pair with paths := [Demo.downPath, Demo.downPath] })).twin 0
    T.mirrorLost = true ∧ T.freeRunning = true ∧ T.reported.contains 1 = true := by decide +kernel
theorem test_followerLagging : Demo.twinQp ∈ (Demo.twinnedQp Demo.pair).twinQps 0 ∧
    ((Demo.next (.followerLagging 32000000 0) (Demo.twinnedQp Demo.pair)).twin 0).reported = [3] := by decide +kernel
theorem test_changeMapSwap : let T := { Demo.pair with mapsHeld := true, digest := { DigestSt.reset with matched := true }, mapA := [1], mapB := [2] }
    (Demo.next (.changeMapSwap 1600000000 0) (Demo.twinned T)).twin 0 = { T with swapSec := 1, curA := false, mapB := [] } := by decide +kernel
def Demo.locked (s : State) : State := { s with time := { s.time with everLocked := true, mode := .locked } }
theorem test_leaseRenew : let s := Demo.locked (Demo.twinned Demo.leader)
    s.engine = true ∧ (s.fabric 0).conflict = false ∧ ((Demo.next (.leaseRenew 80000000 0) s).twin 0).renewAt = 50000000 ∧ (Demo.next (.leaseRenew 80000000 0) s).out.length = 1 := by
  decide +kernel
theorem test_leaseGuard : let s := Demo.twinned { Demo.leader with tExp := some 1 }
    (s.upTo 9).guardDue 0 = true ∧ (let u := Demo.next (.leaseGuard 9 0) s
     (u.twin 0).role = .fenced ∧ (u.twin 0).tExp = none ∧ u.mode 0 = .restore) := by decide +kernel
theorem test_arbiterLost : ((Demo.next (.arbiterLost 160000000 0) (Demo.twinned { Demo.leader with renewUnanswered := some 0 })).twin 0).arbLost = true := by decide +kernel
def Demo.untagged : ArbMsg := { role := 1, group := 0, epoch := 4, device := 7, reason := 0, peerState := 0, time := 5, value := 900, tag := [] }
def Demo.tagged (s : State) (kind : Nat) (m : ArbMsg) : ArbMsg :=
  { m with tag := s.arbTag 0 m.device m.time (arbHead kind m.role m.reason m.peerState m.epoch m.group m.device m.time m.value) }
-- A message whose TAG is the one that its contents ask for.
theorem Demo.ours (s : State) (kind : Nat) (m : ArbMsg) (h : s.engine = true) : s.arbOurs 0 kind (Demo.tagged s kind m) = true := by
  simp [State.arbOurs, Demo.tagged, h]
theorem test_grant : (Demo.twinned Demo.leader).group 0 = 0 ∧ (Demo.twinned Demo.leader).device 0 = 7 ∧ ((Demo.twinned Demo.leader).upTo 9).guardDue 0 = false ∧
    (Demo.twinned Demo.leader).arbTwice 0 2 Demo.untagged = false ∧ (Demo.twinned Demo.leader).engine = true ∧
    ((Demo.twinned Demo.leader).grantIn 0 Demo.untagged).twin 0 = { Demo.leader with tExp := some 900, epoch := 4 } ∧
    ((Demo.twinned Demo.leader).grantIn 0 { Demo.untagged with value := 0 }).twin 0 = Demo.leader := by decide +kernel
theorem test_grant_promotes : let u := (Demo.twinned Demo.pair).grantIn 0 Demo.untagged
    u.mode 0 = .solo ∧ (u.twin 0).role = .lead ∧ (u.twin 0).epoch = 4 ∧ (u.twin 0).tExp = some 900 ∧ (u.twin 0).solo = true := by decide +kernel
theorem test_fence : (((Demo.twinned Demo.leader).fenced 0 .twinFenced).settle 0).mode 0 = .restore := by decide +kernel
theorem test_twinUnpair : let s := Demo.twinned { Demo.leader with tExp := some 1000 }
    let u := Demo.next (.twinUnpair 9 Demo.c 0) s
    (u.twin 0).unpairing = some (some Demo.c) ∧ u.running = [{ cmd := Demo.c, opcode := 0x108, op := .twinUnpair 0, since := 9, mseq := 0 }] ∧
      Out.mirror 0 0 0x11 (mirrorBytes (s.upTo 9) 0 0 0x11 9 (natBE 1 6)) ∈ u.out := by decide +kernel
def Demo.twinRec : List Byte := Demo.payload 128 [(0, 2, 8), (4, 4, 3)]
def Demo.pairing : State :=
  { Demo.full.modStore 0 (fun S => { S with bricks := [] }) with image := { ImageSt.reset with eff := Demo.records ++ [{ typ := 10, part := 0, inst := 0, payload := Demo.twinRec }] } }
def Demo.peerPair : PeerPair :=
  { issued := true, member := Demo.pairing.hw.member, dies := 3, ports := 1, breakout := Demo.pairing.field 1 0 0 32 4 0, brickCount := Demo.pairing.brickCount 0,
    dataTag := Demo.pairing.dataTag 0, twin := patchBytes Demo.twinRec 0 (natLE 3 0x10007), device := 8, rtt := 1000 }
set_option maxRecDepth 20000 in
theorem test_twinPair : Demo.pairing.pairMatches 0 Demo.peerPair = true ∧ Demo.pairing.still 0 = true ∧ (let u := Demo.next (.twinPair 9 Demo.c 0 0 Demo.peerPair) Demo.pairing
    (u.twin 0).paired = true ∧ (u.twin 0).pairing = some (0, Demo.c, 9) ∧ (u.twin 0).claims = .follower ∧
      u.running = [{ cmd := Demo.c, opcode := 0x107, op := .twinPair 0, since := 9, mseq := 0 }] ∧ u.out.length = 1) := by decide +kernel
theorem test_releaseResend : let T := { Demo.leader with releasing := some 0, unpairing := some none, tExp := some 100000001 }
    ((Demo.twinned T).upTo 160000000).released 0 = false ∧ (Demo.next (.releaseResend 160000000 0) (Demo.twinned T)).twin 0 = { T with releasing := some 100000000 } := by decide +kernel

def Demo.arbX : ArbTwin := { device := 3, role := .lead, tExp := 500, reportedBad := false, released := false }
def Demo.arbY : ArbTwin := { device := 4, role := .follower, tExp := 9000, reportedBad := false, released := false }
def Demo.arbG : ArbGroup := { epoch := 2, twins := [Demo.arbX, Demo.arbY], split := false, unpairing := false }
def Demo.arbiter : State := Demo.full.modPart 0 (fun P => { P with arbiter := [(1, Demo.arbG)] })
def Demo.arbMsg (reason : Nat) : ArbMsg := { role := 1, group := 1, epoch := 2, device := 3, reason := reason, peerState := 0, time := 5, value := 0, tag := [] }
theorem test_renew : Demo.arbiter.group? 0 1 = some Demo.arbG ∧ Demo.arbiter.engine = true ∧ (Demo.arbiter.fabric 0).conflict = false ∧
    (Demo.arbiter.arbGrant 0 1 3).group? 0 1 = some { Demo.arbG with twins := [{ Demo.arbX with tExp := 200000000 }, Demo.arbY] } ∧ (Demo.arbiter.arbGrant 0 1 3).out.length = 1 := by
  decide +kernel
theorem test_leaseExpiry : (Demo.next (.leaseExpiry 1600 0 1) Demo.arbiter).group? 0 1 =
    some { Demo.arbG with epoch := 3, twins := [{ Demo.arbX with role := .fenced, tExp := 0 }, { Demo.arbY with role := .lead, tExp := 200001000 }] } := by decide +kernel
-- Messages that the arbiter and the twins take: their TAGs are right.
theorem test_arbOurs : Demo.arbiter.arbOurs 0 1 (Demo.tagged Demo.arbiter 1 (Demo.arbMsg 0)) = true ∧ Demo.arbiter.arbOurs 0 4 (Demo.tagged Demo.arbiter 4 (Demo.arbMsg 1)) = true ∧
    Demo.arbiter.arbOurs 0 5 (Demo.tagged Demo.arbiter 5 (Demo.arbMsg 0)) = true ∧
    (Demo.twinned Demo.leader).arbOurs 0 2 (Demo.tagged (Demo.twinned Demo.leader) 2 Demo.untagged) = true ∧
    (Demo.twinned Demo.leader).arbOurs 0 3 (Demo.tagged (Demo.twinned Demo.leader) 3 Demo.untagged) = true :=
  ⟨Demo.ours _ _ _ (by decide +kernel), Demo.ours _ _ _ (by decide +kernel), Demo.ours _ _ _ (by decide +kernel), Demo.ours _ _ _ (by decide +kernel),
    Demo.ours _ _ _ (by decide +kernel)⟩

/-! ### The fabric -/

def Demo.tx : TxPkt := { pseq := 4, cls := 3, msg := 2, off := 0, len := 64, sentAt := 0, timeouts := 0, body := fill 64 1, total := 64 }
def Demo.path : Path := { Path.reset with state := .up, cwnd := 4096, nextPseq := 5, cum := 6, tx := [Demo.tx] }
def Demo.peer : Peer := { Peer.reset with state := .joined, paths := [(9, Demo.path)], sent := [((3, 2), (9, fill 64 1))], nextMsg := [(3, 3)] }
def Demo.fabric (e : Peer) : State := Demo.full.modFabric 0 (fun F => { F with peers := [(8, e)] })
def Demo.pq : PqHdr :=
  { arr := { port := 0, brk := 0, tag := none }, udp := 49310, ip := 9, magicOk := true, cls := 6, unaddressed := false, reliable := true, src := 8, dst := 7, path := 9, domain := 0, pseq := 1, msg := 1, off := 0, total := 16, txTime := 3 }
theorem test_penquavinData : (Demo.fabric Demo.peer).pqDrop 0 Demo.pq (fill 16 2) = none ∧
    ((Demo.fabric Demo.peer).peer 0 8).closedHow 6 1 = none ∧ (Demo.fabric Demo.peer).reasmUsed 0 ((Demo.fabric Demo.peer).reasmHome 0 1) + 1 ≤
      (Demo.fabric Demo.peer).reasmGranules ((Demo.fabric Demo.peer).reasmHome 0 1) ∧
    (let u := Demo.next (.penquavinData 9 0 0 Demo.pq (fill 16 2) false) (Demo.fabric Demo.peer)
     (u.fabric 0).inbox = [(8, 6, 1, fill 16 2)] ∧ (u.peer 0 8).closedHow 6 1 = some true ∧ (agetD (u.peer 0 8).rx 9 Path.reset).cum = 1) := by decide +kernel
def Demo.pqAck : PqAck := { path := 9, ce := 0, cum := 4, echo := 0, sacks := [] }
theorem test_penquavinAck : (Demo.fabric Demo.peer).pqDrop 0 { Demo.pq with off := 0, total := 0, cls := 0 } [] = none ∧
    (let u := Demo.next (.penquavinAck 16000 0 Demo.pq Demo.pqAck) (Demo.fabric Demo.peer)
     (u.peer 0 8).sent = [] ∧ (u.peer 0 8).paths.map (fun e => (e.2.tx, e.2.lastAck, e.2.baseRtt, e.2.srtt, e.2.cwnd)) = [([], 16000, 10000, 10000, 4160)]) := by decide +kernel
theorem test_resend : (Demo.fabric Demo.peer).pqDrop 0 { Demo.pq with cls := 3, msg := 2, off := 0, total := 0 } [] = none ∧ let u := Demo.next (.resend 9 0 { Demo.pq with cls := 3, msg := 2 }) (Demo.fabric Demo.peer)
    (u.peer 0 8).sent = [((3, 3), (9, fill 64 1))] ∧ agetD (u.peer 0 8).nextMsg 3 1 = 4 := by decide +kernel
def Demo.rxPath : Path := { Path.reset with cum := 6, unacked := 2, oldestUnacked := some 0, echo := 5, ceSinceAck := 1 }
theorem test_ackSend : let u := Demo.next (.ackSend 12800 0 8 9) (Demo.fabric { Demo.peer with rx := [(9, Demo.rxPath)] })
    aget (u.peer 0 8).rx 9 = some { Demo.rxPath with unacked := 0, oldestUnacked := none, ceSinceAck := 0 } ∧ u.out.length = 1 := by decide +kernel
theorem test_retransmitTimeout : rto 0 0 0 = 32000 ∧ (let u := Demo.next (.retransmitTimeout 32000 0 8 9 4) (Demo.fabric Demo.peer)
    (u.peer 0 8).paths = [(9, { Demo.path with tx := [{ Demo.tx with timeouts := 1, pseq := 5, sentAt := 32000 }], nextPseq := 6, retrans := 1, cwnd := 4096, paceAt := 32000 })] ∧
      u.out.length = 1) := by decide +kernel
theorem test_pathDown : ((Demo.next (.pathDown 1600000 0 8 9) (Demo.fabric Demo.peer)).peer 0 8).paths = [(9, { Demo.path with state := .down, probeAt := 1600000 })] := by
  decide +kernel
theorem test_pathProbe : let u := Demo.next (.pathProbe 16000000 0 8 9) (Demo.fabric { Demo.peer with paths := [(9, { Demo.path with state := .down })] })
    agetD (u.peer 0 8).nextMsg 6 1 = 2 ∧ u.out.length = 1 := by decide +kernel
theorem test_reasmTimeout : let s := (Demo.fabric Demo.peer).modFabric 0 (fun F => { F with slots := [((8, 6, 1), { total := 64, count := 0, bitsSet := [], data := [], at_ := 0, home := 0, payload := 4096, timeout := 3200000 })] })
    let u := Demo.next (.reasmTimeout 3200000 0 8 6 1) s
    0 + s.reasmCycles 0 ≤ 3200000 ∧ (u.fabric 0).slots = [] ∧ (u.peer 0 8).closedHow 6 1 = some false ∧ (u.peer 0 8).reasm = 1 := by decide +kernel
theorem test_announceSend : let u := Demo.next (.announceSend 1602733376 0) Demo.full
    (u.fabric 0).lastAnnounceOut = 1001708360 ∧ u.out.length = (Demo.full.rollDests 0).length := by decide +kernel
def Demo.announced : AnnounceBody := { ident := 5, mode := 1, joinedAny := false, buildEnd := 0, addrs := [6] }
theorem test_announce : Demo.full.outsideSchedule 0 8 = false ∧ (let u := Demo.next (.announce 9 0 8 Demo.announced) Demo.full
    (u.peer 0 8).state = .announced ∧ (u.peer 0 8).addrs = [6] ∧ (aget (u.fabric 0).schedule 8).isSome = true) := by decide +kernel
theorem test_peerSilence : let u := Demo.next (.peerSilence 8000000000 0 8) (Demo.fabric Demo.peer)
    (u.peer 0 8).state = .empty ∧ (u.peer 0 8).emptySince = some 5000000000 := by decide +kernel
def Demo.known (st : PeerState) (at_ : Nat) : State :=
  Demo.full.modFabric 0 (fun F => { F with peers := [(8, { Peer.reset with state := st, addrs := [6], joinSentAt := some 0 })], schedule := [(8, at_)] })
theorem test_joinReq : let u := Demo.next (.joinReq 9 0 8 77) (Demo.known .announced 0)
    (u.peer 0 8).state = .joined ∧ (u.peer 0 8).ident = 77 ∧ (u.peer 0 8).paths.length = 1 ∧ (u.fabric 0).joinedAny = true := by decide +kernel
theorem test_joinReq_pending : let u := Demo.next (.joinReq 9 0 8 77) (Demo.known .announced 1000)
    (u.peer 0 8).state = .pending ∧ (u.peer 0 8).slotOrJoin = 1000 ∧ u.out.length = 1 := by decide +kernel
theorem test_joinAccept : ((Demo.next (.joinAccept 9 0 8 77) (Demo.known .joining 0)).peer 0 8).state = .joined := by decide +kernel
theorem test_joinRefuse : ((Demo.next (.joinRefuse 9 0 8 2 500) (Demo.known .joining 0)).peer 0 8).refusedUntil = some 500 := by decide +kernel
theorem test_leave : (Demo.next (.leave 9 0 8) (Demo.fabric Demo.peer)).peer 0 8 = { Demo.peer with state := .announced, paths := [], sent := [] } := by decide +kernel
theorem test_joinResend : ((Demo.next (.joinResend 160000000 0 8) (Demo.known .joining 0)).peer 0 8).joinSentAt = some 100000000 := by decide +kernel
theorem test_joinSlot : ((Demo.next (.joinSlot 9 0 8) (Demo.known .announced 0)).peer 0 8).state = .joining := by decide +kernel
theorem test_joinSlotRelease : ((Demo.next (.joinSlotRelease 1600000000 0 8) (Demo.known .pending 0)).fabric 0).schedule = [] := by decide +kernel
theorem test_joinRetry : ((Demo.next (.joinRetry 9 0 8) (Demo.fabric { Peer.reset with state := .announced, refusedUntil := some 0 })).peer 0 8).state = .joining := by decide +kernel
theorem test_deviceConflictRetry : let s := Demo.full.modFabric 0 (fun F => { F with conflict := true, peers := [(7, { Peer.reset with emptySince := some 0 })] })
    let u := Demo.next (.deviceConflictRetry 8000000000 0 7) s
    (u.fabric 0).conflict = false ∧ (u.fabric 0).peers = [] := by decide +kernel
def Demo.serviceRec : List Byte := Demo.payload 128 [(3, 1, 1), (40 + 15, 1, 9)]
theorem test_arpRequest : let s := { Demo.twinned Demo.leader with image := { ImageSt.reset with eff := Demo.records ++ [{ typ := 10, part := 0, inst := 0, payload := Demo.serviceRec }] } }
    leAt Demo.serviceRec 3 1 = 1 ∧ beAt Demo.serviceRec 40 16 = 9 ∧ (Demo.next (.arpRequest 9 ⟨Demo.arr, 0⟩ 9) s).out = [Out.arp 0 9 (some 0)] ∧ s.portsOut 0 = false ∧
      (Demo.next (.arpRequest 9 ⟨Demo.arr, 0⟩ 9) Demo.full).out = [Out.arp 0 9 none] ∧ (Demo.next (.arpRequest 9 ⟨Demo.arr, 0⟩ 8) Demo.full).out = [] := by decide +kernel

def Demo.farReq : FarReq :=
  { op := 1, keystone := false, durability := 0, encipher := false, prio := 0, tenant := 2, qpn := 6, sseq := 1, addr := 4096, len := 16, imm := 0, a := 0, b := 0, data := fill 16 4 }
def Demo.backing : State := (Demo.fabric { Demo.peer with sent := [] }).modRemote 0 (fun r => { r with tenants := [(2, { Demo.tenant with farDevices := [8] })] })
theorem test_farRequest : Demo.backing.still 0 = true ∧ Demo.backing.farDenied 0 8 Demo.farReq = false ∧ Demo.backing.readyAt 0 4096 16 ∧
    (let u := Demo.next (.farRequest 9 0 8 Demo.farReq) Demo.backing
     (u.remote 0).ops.map (fun o => (o.kind, o.addr, o.data, o.farFrom)) = [(OpKind.write, 4096, fill 16 4, some 8)] ∧
       (u.remote 0).ops.map (·.accepted) = [some 9] ∧ (u.remote 0).budget.charged = 1 ∧
       (u.fabric 0).farStreams = [((8, 6), { next := 2, waiting := [], closing := none })]) := by unfold State.readyAt; decide +kernel
theorem test_farClose : let s := Demo.backing.modFabric 0 (fun F => { F with farStreams := [((8, 6), { next := 2, waiting := [], closing := none })] })
    ((Demo.next (.farClose 9 0 8 { Demo.farReq with op := 8 }) s).fabric 0).farStreams = [] := by decide +kernel
def Demo.farSent : FarSent := { opId := 0, sseq := 3, firstAt := 0, peer := 8, op := 1, body := Demo.farReq, notServing := some 0 }
def Demo.serving : State :=
  (Demo.backing.modFabric 0 (fun F => { F with farSent := [((Demo.q, 3), Demo.farSent)] })).modRemote 0 (fun r => { r with ops := [{ Demo.op with sseq := some 3, farTo := some 8 }] })
def Demo.farRes : FarRes := { op := 1, result := 1, qpn := Demo.q, sseq := 3, original := 0, off := 0, data := [] }
theorem test_farResult : Demo.serving.quiet 0 = true ∧ (let u := Demo.next (.farResult 9 0 8 Demo.farRes) Demo.serving
    (u.remote 0).ops = [] ∧ (u.fabric 0).farSent = [] ∧ u.out = [Out.rdma 9 Demo.q 10 (.ack 0) Demo.qp.way]) := by decide +kernel
theorem test_farRetry : aget ((Demo.next (.farRetry 1600000 0 Demo.q 3) Demo.serving).fabric 0).farSent (Demo.q, 3) = some { Demo.farSent with notServing := none } := by decide +kernel
theorem test_farTimeout : 0 + Demo.serving.farTimeout 0 ≤ fabAt Demo.serving 80000000 ∧ (let u := Demo.next (.farTimeout 80000000 0 Demo.q 3) Demo.serving
    (u.remote 0).ops = [] ∧ (u.fabric 0).farSent = [] ∧
      (u.qp? Demo.q).map (fun x => (x.state, x.errCause, x.errStamp)) = some (QpState.error, 0x32, 80000000)) := by decide +kernel
theorem test_pauseFrame : (Demo.next (.pauseFrame 9 0 3 100) Demo.full).pfc = [((0, 3), { pausedUntil := some 112, weAssert := false, lastSent := 0, occupancy := 0 })] := by
  decide +kernel
theorem test_pauseRepeat : let s := { Demo.full with image := { ImageSt.reset with eff := Demo.records.filter (·.typ != 9) ++
      [{ typ := 9, part := 0, inst := 0, payload := Demo.payload 96 [(80, 1, 3), (82, 1, 1)] }] } }
    s.pfcOn 0 3 = true ∧ (Demo.next (.pauseRepeat 9 0 ⟨3, 1000000000⟩) s).out = [Out.pause 0 3 0xFFFF] ∧ s.pfcShare 0 3 * 3 < 1000000000 * 4 ∧
      (let u := Demo.next (.pauseRepeat 9 0 ⟨3, 1000000000⟩) s
       (Demo.next (.pauseRepeat 10 0 ⟨3, 0⟩) u).out = [Out.pause 0 3 0xFFFF, Out.pause 0 3 0] ∧ (Demo.next (.pauseRepeat 160009 0 ⟨3, 1000000000⟩) u).out = [Out.pause 0 3 0xFFFF, Out.pause 0 3 0xFFFF]) := by decide +kernel

/-! ### Time, meters, reset -/

def Demo.ann (p : Nat) : PtpAnn :=
  { domain := 0, priority1 := p, clockClass := 6, accuracy := 0, variance := 0, priority2 := 0, identity := p, steps := 0, source := BitVec.ofNat 80 p, arb := p == 4 }
def Demo.clocked (f : TimeSt → TimeSt) : State := { Demo.full with time := f Demo.full.time, svc := { Demo.full.svc with seq := { Demo.full.svc.seq with pllLocked := true } } }
theorem test_ptpAnnounce : (Demo.clocked id).timeSource = 0 ∧ (Demo.clocked id).ptpPort 0 = true ∧ (Demo.ann 4).domain = (Demo.clocked id).field 14 0xFF 0 1 1 0 ∧
    annBetter (Demo.ann 4) (Demo.ann 5) = true ∧
    (Demo.next (.ptpAnnounce 9 ⟨0, none⟩ (Demo.ann 4)) (Demo.clocked (fun T => { T with heard := [(0, Demo.ann 5)] }))).time.master = some (Demo.ann 4) := by decide +kernel
def Demo.mastered (f : TimeSt → TimeSt) : State := Demo.clocked (fun T => f { T with master := some (Demo.ann 4) })
/-- The sixteenth measurement in a row within 100 ns locks fabric time: the state then is what the free rate leaves (log 31). -/
theorem test_ptpSync : let s := Demo.mastered (fun T => { T with inRange := 15 })
    ((s.upTo 9).measured 50 777).time.mode = .locked ∧ ((s.upTo 9).measured 50 777).time.everLocked = true ∧ ((s.upTo 9).measured 50 777).time.at_ = 9 := by
  exact ⟨rfl, rfl, rfl⟩
def Demo.pulsed : State :=
  let s := Demo.clocked (fun T => { T with nextPps := some (7, Demo.c) })
  { s with image := { s.image with eff := Demo.records ++ [{ typ := 14, part := 0xFF, inst := 0, payload := Demo.payload 16 [(0, 1, 1)] }] } }
theorem test_ppsEdge : Demo.pulsed.timeSource = 1 ∧ (let u := Demo.next (.ppsEdge 9 3) Demo.pulsed
    u.time.nextPps = none ∧ u.time.base = 7000000000 ∧ u.time.at_ = 9 ∧ u.time.offset = 3) := by decide +kernel
theorem test_holdover : let s := Demo.clocked (fun T => { T with mode := .locked, lastMeasure := some 0 })
    0 + 4 * s.syncCycles ≤ decided 800000000 s ∧ (Demo.next (.holdover 800000000) s).time.mode = .holdover := by decide +kernel
theorem test_timeLost : let s := { Demo.twinned Demo.leader with time := { TimeSt.reset with mode := .holdover, holdSince := some 0 } }
    s.partIds = [0] ∧ 0 + s.field 14 0xFF 0 12 2 300 * cS ≤ decided 480000000000 s ∧ (Demo.next (.timeLost 480000000000) s).time.mode = .lost ∧
      ((Demo.next (.timeLost 480000000000) s).twin 0).role = .fenced := by decide +kernel
def Demo.metered (f : MeterP → MeterP) : State :=
  let s := Demo.locked (Demo.full.modPart 0 (fun P => { P with meters := f { P.meters with index := [(2, 0)] } }))
  s.modDie 0 (fun D => { D with meters := [(0, List.replicate 16 5)] })
theorem test_meterSample : (Demo.metered id).homeDie 0 = 0 ∧ (let u := Demo.next (.meterSample 1600000000 0) (Demo.metered id)
    (u.meterSt 0).lastSample = 1 ∧ (u.die? 0).map (fun D => agetD D.meters 0 []) = some ([5, 5, 5, 5, 5, 5] ++ [5 + (Demo.full.store 0).usage 2, 5, 7, 5, 5, 5, 5, 5, 5, 6])) := by
  decide +kernel
theorem test_minuteCut : let u := Demo.next (.minuteCut 96000000000 0) (Demo.metered id)
    (u.meterSt 0).lastCut = some 60000000000 ∧ (aget (u.meterSt 0).ring 1).map (·.counts) = some [(0, List.replicate 16 5)] := by decide +kernel
theorem test_hourlyEvidence : (Demo.metered id).nextEvid = 1 ∧ ((Demo.full.meterSt 0).lastHour).isNone = true ∧
    fabAt (Demo.metered id) (decided 5760000000000 (Demo.metered id)) / 3600000000000 = 1 := by decide +kernel
def Demo.slotted (on : List Nat) : State :=
  let s := Demo.metered (fun m => { m with slotsOn := on })
  { s with image := { s.image with eff := Demo.records ++ [{ typ := 6, part := 0, inst := 0, payload := Demo.payload 64 [(0, 1, 1), (8, 4, 3600), (16, 4, 10)] }] } }
theorem test_maintenanceSlot : (Demo.slotted []).maintSlot 0 0 = some (3600000000000, 0, 10000000000, 0) ∧
    ((Demo.next (.maintenanceSlot 9 0 0 true) (Demo.slotted [])).meterSt 0).slotsOn = [0] ∧
    ((Demo.next (.maintenanceSlot 16000000000 0 0 false) (Demo.slotted [0])).meterSt 0).slotsOn = [] := by decide +kernel
theorem test_meterIndexFree : let u := Demo.next (.meterIndexFree 9 0 0) (Demo.metered (fun m => { m with freeAt := [(0, 1)] }))
    (u.meterSt 0).index = [] ∧ (u.meterSt 0).freeAt = [] ∧ (u.die? 0).map (·.meters) = some [] := by decide +kernel
theorem test_reset : State.reset.pkg = .cold ∧ State.reset.ropLevel = 1 ∧ State.reset.bar0 0 0x3010 = 11 ∧ State.reset.bar0 1 0x3060 = 1 := by decide +kernel

/-! ### Commands of the package -/

theorem test_nop : Demo.s.canEnd Demo.c = true ∧ EndsAs Demo.s (Demo.next (.nop 9 Demo.c) Demo.s) Demo.c 1 .ok := by unfold EndsAs; decide +kernel
def Demo.logRec : LogRec :=
  { code := .modeChange, permanent := false, summary := false, uptime := false, overflow := false, src := srcSvc, rep := 0, seq := 7, time := 3, payload := fill 8 0, sector := some 0 }
theorem test_logRead : let a := { Demo.s with svc := { Demo.s.svc with log := { Demo.s.svc.log with recs := [Demo.logRec] } } }
    a.svc.log.recs = [Demo.logRec] ∧ EndsAs a (Demo.next (.logRead 9 ⟨Demo.c, 64⟩ 7 1) a) Demo.c 0x602 .ok (natLE 4 7 ++ natLE 4 7) ∧
      Demo.s.svc.log.recs = [] ∧ EndsAs Demo.s (Demo.next (.logRead 9 ⟨Demo.c, 64⟩ 0 1) Demo.s) Demo.c 0x602 .ok (fill 8 0) := by unfold EndsAs; decide +kernel
/-- A sequence table of one entry, by the layout of R616. -/
def Demo.tableBytes : List Byte :=
  let b := natLE 4 0x53514E31 ++ [1, 0] ++ natLE 2 100 ++ natLE 2 100 ++ fill 6 0 ++ [0, 0, 0xFF, 3] ++ natLE 2 900 ++ natLE 2 100 ++ natLE 2 10 ++ fill 2 0 ++ natLE 2 10 ++ fill 2 0
  b ++ natLE 4 (crc32c b)
theorem test_options : Demo.idle.canEnd Demo.c = true ∧ Demo.idle.ownsAll Demo.c = true ∧ (parseSeqTable Demo.tableBytes).isSome = true ∧
    parseSeqTable (Demo.tableBytes.set 0 0) = none ∧ (Demo.next (.optionSet 9 Demo.c true 0x7F) Demo.idle).svc.nv.opt.i3cAddr = 0x7F ∧
    (Demo.next (.logFreeze 9 Demo.c true) Demo.idle).svc.nv.opt.logFrozen = true ∧ (Demo.next (.seqTableSet 9 Demo.c Demo.tableBytes) Demo.idle).svc.nv.opt.gen = Demo.idle.svc.nv.opt.gen + 1 ∧
    EndsAs Demo.idle (Demo.next (.seqTableSet 9 Demo.c []) Demo.idle) Demo.c 0x604 .badTable := by unfold EndsAs; decide +kernel
theorem test_portClaim : maskParts 1 = [0] ∧ Demo.s.owns Demo.c 0 = true ∧ ((Demo.next (.portClaim 9 Demo.c 1 false) Demo.s).part? 0).map (·.owner) = some .port0 ∧
    ((Demo.next (.portRelease 9 Demo.c 1) (Demo.s.modPart 0 (fun P => { P with owner := .port0 }))).part? 0).map (·.owner) = some .both ∧
    ((Demo.next (.portClaim 9 Demo.c 1 true) (Demo.s.modPart 0 (fun P => { P with owner := .port1 }))).part? 0).map (·.owner) = some .port0 := by decide +kernel
theorem test_modeRequest : (Demo.s.part? 0).map (fun P => (P.mode.mode, P.mode.pending)) = some (.serve, none) ∧
    EndsAs Demo.s (Demo.next (.modeRequest 9 Demo.c 0 4) Demo.s) Demo.c 0x103 .ok ∧ (Demo.next (.modeRequest 9 Demo.c 0 6) Demo.s).mode 0 = .drain := by unfold EndsAs; decide +kernel
theorem test_timeSet : Demo.pulsed.timeSource = 1 ∧ Demo.pulsed.ownsAll Demo.c = true ∧ (Demo.next (.timeSet 9 Demo.c 8) Demo.pulsed).time.nextPps = some (8, Demo.c) := by decide +kernel
/-- A firmware image of no code for the service die, by the layout of R602. -/
def Demo.firmware : Signed := { bytes := natLE 4 0x46575247 ++ fill 12 0 ++ sha3 [] ++ fill 8112 0, sigOk := true }
set_option maxRecDepth 20000 in
theorem test_fwLoad : Demo.idle.fwMode = true ∧ Demo.idle.svc.sideband.fwLoad = none ∧ Demo.firmware.bytes.length = 8192 ∧ Demo.idle.fwOk Demo.firmware = true ∧
    Demo.idle.svc.runningSvc = 0 ∧ Demo.idle.svc.nv.svcFw.length = 2 ∧ EndsAs Demo.idle (Demo.next (.fwLoad 9 Demo.c 8191 0 Demo.firmware) Demo.idle) Demo.c 0x310 .badFirmware := by
  unfold EndsAs; decide +kernel
def Demo.ropAt (n : Nat) : State := Demo.s.modNv (fun x => { x with anchors := [{ typ := 1, seq := 1, value := n }], anchorUsed := 2047 })
theorem test_ropSet : (Demo.ropAt 0).ropLevel = 0 ∧ (Demo.next (.ropSet 9 Demo.c 2) (Demo.ropAt 0)).ropLevel = 2 ∧ (Demo.next (.ropSet 9 Demo.c 1) (Demo.ropAt 0)).ropLevel = 1 ∧
    (Demo.ropAt 2).ropLevel = 2 ∧ EndsAs (Demo.ropAt 2) (Demo.next (.ropSet 9 Demo.c 1) (Demo.ropAt 2)) Demo.c 0x311 .permanent ∧ Demo.s.allService = false ∧
    EndsAs (Demo.ropAt 1) (Demo.next (.ropSet 9 Demo.c 1) (Demo.ropAt 1)) Demo.c 0x311 .permanent ∧
    EndsAs (Demo.ropAt 1) (Demo.next (.ropSet 9 Demo.c 0) (Demo.ropAt 1)) Demo.c 0x311 .mode := by unfold EndsAs; decide +kernel
/-- A structure that fails to verify at both places ends its command with NV_FAIL; the record in force stays (R670). -/
theorem test_nvFail : let c : CmdRef := { Demo.c with nvFails := 2 }
    (let u := Demo.next (.optionSet 9 c true 0x7F) Demo.idle
     EndsAs Demo.idle u c 0x603 .nvFail ∧ u.svc.nv.opt.i3cAddr = Demo.idle.svc.nv.opt.i3cAddr) ∧
    (Demo.next (.logFreeze 9 { Demo.c with nvFails := 1 } true) Demo.idle).svc.nv.opt.logFrozen = true := by unfold EndsAs; decide +kernel

/-! ### Well-formedness: for each range of WellFormed, a command just outside it -/

theorem test_ill_partition : (Instr.checkpoint 0 4).wf = false ∧ (Instr.checkpoint 0 3).wf = true := by decide +kernel
theorem test_ill_die : (Instr.serviceLink 0 8).wf = false ∧ (Instr.serviceLink 0 7).wf = true := by decide +kernel
theorem test_ill_ports : (Instr.linkDown 0 16 0).wf = false ∧ (Instr.linkDown 0 0 8).wf = false ∧ (Instr.linkDown 0 15 7).wf = true ∧ (Instr.ownerLost 0 2).wf = false ∧
    (Instr.meshLinkRetrain 0 0 4 ⟨0, true⟩).wf = false ∧ (Instr.pauseFrame 0 0 8 0).wf = false ∧ (Instr.pauseFrame 0 0 0 65536).wf = false := by decide +kernel
theorem test_ill_tenancy : (Instr.hostHamperPost 0 0 4096).wf = false ∧ (Instr.revokeForced 0 0 262144).wf = false ∧ (Instr.meterIndexFree 0 0 4096).wf = false ∧
    (Instr.hamperEntryStart 0 0 64).wf = false ∧ (Instr.hamperDeadline 0 0 0 256).wf = false ∧ (Instr.rekeyUnit 0 0 4096).wf = false := by decide +kernel
theorem test_ill_storage : (Instr.eviction 0 0 268435456).wf = false ∧ (Instr.pageRebuild 0 0 0 512).wf = false ∧ (Instr.flashReadComplete 0 0 0 128 []).wf = false ∧
    (Instr.lowMarkEviction 0 0 16).wf = false ∧ (Instr.correctiveWrite 0 0 (0, 0) 0 72).wf = false ∧
    (Instr.correctiveReread 0 0 (0, 0) 0 0 [{ idx := 80, xor := 1 }]).wf = false ∧ (Instr.pageData 0 0 Demo.hdr 0 0 []).wf = false := by decide +kernel
theorem test_ill_media : (Instr.refresh 0 0 4 0 true true).wf = false ∧ (Instr.refresh 0 0 0 8 true true).wf = false ∧ (Instr.rfm 0 0 0 2 0 ⟨0, []⟩).wf = false ∧
    (Instr.rfm 0 0 0 0 0 ⟨32, []⟩).wf = false ∧ (Instr.sidebandLost 0 0 0 2).wf = false ∧ (Instr.lunRetired 0 0 8 0 0).wf = false ∧
    (Instr.calibrationWindow 0 (.dram 0 0 8)).wf = false ∧ (Instr.calibrationWindow 0 (.onfi 0 8)).wf = false ∧ (Instr.calibrationWindow 0 (.port 16)).wf = false ∧
    (Instr.calibrationWindow 0 (.mesh 0 4)).wf = false := by decide +kernel
theorem test_ill_power : (Instr.seqPgAssert 0 12 0 0).wf = false ∧ (Instr.avsLost 0 12).wf = false ∧ (Instr.diodeRead 0 9 0).wf = false ∧ (Instr.bootOk 0 2).wf = false := by decide +kernel
theorem test_ill_messages : (Instr.leave 0 0 4096).wf = false ∧ (Instr.resyncEnd 0 0 { Demo.hdr with epoch := 4294967296 }).wf = false ∧
    (Instr.resend 0 0 { Demo.pq with cls := 8 }).wf = false ∧ (Instr.rdmaWrite 0 { Demo.pkt with payload := fill 4097 0 }).wf = false ∧
    (Instr.rdmaWrite 0 { Demo.pkt with len := 4294967296 }).wf = false ∧ (Instr.rdmaWrite 0 Demo.pkt).wf = true ∧ (Instr.cmReq 0 { Demo.cmReq with priv := [] }).wf = false := by
  decide +kernel
theorem test_ill_registers : (Instr.registerWrite 0 0 1048576 4 ⟨0, []⟩).wf = false ∧ (Instr.registerWrite 0 0 0 2 ⟨0, []⟩).wf = false ∧ (Instr.cmdTailDoorbell 0 0 0 [[]]).wf = false ∧
    (Instr.sidebandWrite 0 65536 []).wf = false ∧ (Instr.eapolRx 0 0 0 (fill 2033 0)).wf = false ∧ (Instr.nop 0 { Demo.c with port := 4 }).wf = false ∧
    (Instr.maintenanceSlot 0 0 4096 true).wf = false := by decide +kernel
end

section
/-! SUPPORT. Accesses through a control port: what reaches the port, what each register takes, and what the device's events leave of a port. -/
namespace Sys2Proof.Machine
open Sys2Proof

/-! ### What a change of the ports leaves -/

theorem KeepsButPorts.svc {s u : State} (h : KeepsButPorts s u) : u.svc = s.svc := by obtain ⟨ps, o, rfl⟩ := h; rfl
theorem KeepsButPorts.parts {s u : State} (h : KeepsButPorts s u) : u.parts = s.parts := by obtain ⟨ps, o, rfl⟩ := h; rfl
theorem KeepsButPorts.dies {s u : State} (h : KeepsButPorts s u) : u.dies = s.dies := by obtain ⟨ps, o, rfl⟩ := h; rfl
theorem KeepsButPorts.sec {s u : State} (h : KeepsButPorts s u) : u.sec = s.sec := by obtain ⟨ps, o, rfl⟩ := h; rfl

/-! ### An access that the port answers -/

/-- The port after an access has reached it (log 58). -/
def CtlPort.reached (p : CtlPort) : CtlPort := { p with linkUp := true, linkDownSince := none, d3hot := false }

theorem modPort_id (s : State) (i : Nat) : s.modPort i id = s := by simp [State.modPort, modNth]

theorem modPort_same {s : State} {i : Nat} {p : CtlPort} (f : CtlPort → CtlPort) (h : s.ports[i]? = some p) : (s.modPort i f).ports[i]? = some (f p) := by
  rw [State.modPort_ports, modNth_get_same, h]; rfl

theorem modPort_other (s : State) {i j : Nat} (f : CtlPort → CtlPort) (h : j ≠ i) : (s.modPort i f).ports[j]? = s.ports[j]? := by
  rw [State.modPort_ports, modNth_get_other _ _ h.symm]

theorem reach_same {s : State} {i : Nat} {p : CtlPort} (h : s.ports[i]? = some p) : (s.reach i).ports[i]? = some p.reached := modPort_same _ h

/-- The port as an access decided at `t` finds it. -/
theorem reach_upTo_same {s : State} {i : Nat} {p : CtlPort} (t : Nat) (h : s.ports[i]? = some p) : ((s.upTo t).reach i).ports[i]? = some p.reached := reach_same h

theorem reach_other (s : State) {i j : Nat} (h : j ≠ i) : (s.reach i).ports[j]? = s.ports[j]? := modPort_other s _ h

theorem access_of_open {s : State} {i : Nat} (f : State → State) (h : s.portOpen i = true) : s.access i f = f (s.reach i) := if_pos h

/-- A port that answers stands. -/
theorem port_of_open {s : State} {i : Nat} (h : s.portOpen i = true) : ∃ p, s.ports[i]? = some p := by
  unfold State.portOpen State.port? at h
  cases hp : s.ports[i]? with
  | none => simp [hp] at h
  | some p => exact ⟨p, rfl⟩

/-- An effect that changes only the ports and what leaves the device is the whole next state. -/
theorem run_of_keepsButPorts {t : Nat} {s : State} {f : State → State} (h : KeepsButPorts (s.upTo t) (f (s.upTo t))) : run t s f = .next (f (s.upTo t)) := by
  obtain ⟨ps, o, h⟩ := h
  apply run_of_kept <;> rw [h] <;> rfl

/-- A command whose effect is an access through a port that answers, and changes only the ports and what leaves, answers with that effect. -/
theorem answers_of_access {c : Instr} {t i : Nat} {s : State} {f : State → State} {Q : State → Prop} (hc : exec c s = run t s (fun u => u.access i f))
    (ho : (s.upTo t).portOpen i = true) (hk : KeepsButPorts ((s.upTo t).reach i) (f ((s.upTo t).reach i))) (hq : Q (f ((s.upTo t).reach i))) : Answers c s Q := by
  have ha := access_of_open f ho
  refine ⟨_, hc.trans (run_of_keepsButPorts ?_), ?_⟩
  · exact ha ▸ (reach_frame _ i).trans hk
  · exact ha ▸ hq

/-! ### What events and interrupts leave of a port -/

/-- A port without what an event or an interrupt changes: the event ring and its counts, INT_STATUS with its cycles, and the pending bits. -/
def CtlPort.sansEvents (p : CtlPort) : CtlPort :=
  { p with evt := RingSt.reset, eseq := 0, eventsDropped := 0, intStatus := 0, intAt := [], intEvent := none, pendingBits := [] }

/-- The ports differ at most in what events and interrupts change. -/
def PortsKeptBySignals (s u : State) : Prop := u.ports.map CtlPort.sansEvents = s.ports.map CtlPort.sansEvents

theorem PortsKeptBySignals.rfl {s : State} : PortsKeptBySignals s s := Eq.refl _

theorem PortsKeptBySignals.trans {s u v : State} (h : PortsKeptBySignals s u) (k : PortsKeptBySignals u v) : PortsKeptBySignals s v := Eq.trans k h

theorem PortsKeptBySignals.port {s u : State} (h : PortsKeptBySignals s u) (i : Nat) : u.ports[i]?.map CtlPort.sansEvents = s.ports[i]?.map CtlPort.sansEvents := by
  simpa only [List.getElem?_map] using congrArg (·[i]?) h

theorem PortsKeptBySignals.foldl {α : Type} {f : State → α → State} (h : ∀ s a, PortsKeptBySignals s (f s a)) (l : List α) (s : State) : PortsKeptBySignals s (l.foldl f s) := by
  induction l generalizing s with
  | nil => exact .rfl
  | cons a l ih => exact (h s a).trans (ih (f s a))

theorem modPort_signals (s : State) (i : Nat) (f : CtlPort → CtlPort) (h : ∀ p, (f p).sansEvents = p.sansEvents) : PortsKeptBySignals s (s.modPort i f) := by
  refine List.ext_getElem? fun j => ?_
  rw [List.getElem?_map, List.getElem?_map]
  by_cases hj : j = i
  · subst hj
    cases hp : s.ports[j]? with
    | none => rw [State.modPort_ports, modNth_get_same, hp]; rfl
    | some p => rw [modPort_same f hp]; exact congrArg some (h p)
  · rw [modPort_other s f hj]

theorem send_signals (s : State) (o : Out) : PortsKeptBySignals s (s.send o) := .rfl

theorem raiseVector_signals (s : State) (i v : Nat) : PortsKeptBySignals s (s.raiseVector i v) := by
  unfold State.raiseVector
  repeat' split
  · exact .rfl
  · exact .rfl
  · exact .rfl
  · exact modPort_signals s i _ fun _ => rfl

theorem writeEvent_signals (s : State) (i typ : Nat) (b : List Byte) : PortsKeptBySignals s (s.writeEvent i typ b) := by
  unfold State.writeEvent
  split
  · exact .rfl
  · refine ((modPort_signals s i _ ?_).trans (send_signals _ _)).trans (raiseVector_signals _ i 1)
    exact fun _ => rfl

theorem writeLost_signals (s : State) (i : Nat) : PortsKeptBySignals s (s.writeLost i) := by
  unfold State.writeLost
  repeat' split
  · exact .rfl
  · exact .rfl
  · exact (writeEvent_signals s i _ _).trans (modPort_signals _ i _ fun _ => rfl)

theorem headFirst_signals (s : State) (i : Nat) : PortsKeptBySignals s (s.headFirst i) := by
  unfold State.headFirst
  split
  · exact modPort_signals s i _ fun _ => by split <;> rfl
  · exact .rfl

theorem portEvent_signals (s : State) (i typ : Nat) (b : List Byte) : PortsKeptBySignals s (s.portEvent i typ b) := by
  unfold State.portEvent
  refine ((headFirst_signals s i).trans (writeLost_signals _ i)).trans ?_
  dsimp only
  repeat' split
  · exact .rfl
  · exact .rfl
  · exact modPort_signals _ i _ fun _ => rfl
  · exact writeEvent_signals _ i typ b

theorem intEvent_signals (s : State) (i mask : Nat) (p : CtlPort) : PortsKeptBySignals s (s.intEvent i mask p) := by
  unfold State.intEvent
  split
  · exact .rfl
  · exact (portEvent_signals s i 3 _).trans (modPort_signals _ i _ fun _ => rfl)

theorem signal_signals (s : State) (i mask : Nat) : PortsKeptBySignals s (s.signal i mask) := by
  unfold State.signal
  repeat' split
  · exact .rfl
  · exact .rfl
  · exact (intEvent_signals s i mask _).trans (.foldl (fun s _ => raiseVector_signals s i _) _ _)

theorem intPort_signals (s : State) (i : Nat) (c : IntCause) : PortsKeptBySignals s (s.intPort i c) := by
  unfold State.intPort
  split
  · exact .rfl
  · have hset := modPort_signals s i (fun p => { p with intStatus := p.intStatus ||| BitVec.ofNat 17 (2 ^ c.bit), intAt := aset p.intAt c.bit s.now }) fun _ => rfl
    dsimp only
    split
    · exact hset.trans (signal_signals _ i _)
    · exact hset

/-! ### A port's lock and TMUX_SELECT (R16, R756-R758) -/

/-- A port's lock reads the clock, the queue and the port's own bit. -/
theorem lockNow_congr {s u : State} {p q : CtlPort} (i : Nat) (hn : u.now = s.now) (hp : u.pending = s.pending) (hl : q.lockOpen = p.lockOpen) : u.lockNow i q = s.lockNow i p := by
  unfold State.lockNow; rw [hn, hp, hl]

theorem reach_lockNow (s : State) (i : Nat) (p : CtlPort) : (s.reach i).lockNow i p.reached = s.lockNow i p := lockNow_congr i rfl rfl rfl

theorem writeTmux_of_open {s : State} {i : Nat} {p : CtlPort} (v : Nat) (hp : s.ports[i]? = some p) (hl : s.lockNow i p = true) : s.writeTmux i v = s.selectTmux (i + 1) v := by
  simp [State.writeTmux, State.port?, hp, hl]

theorem writeTmux_of_closed {s : State} {i : Nat} {p : CtlPort} (v : Nat) (hp : s.ports[i]? = some p) (hl : s.lockNow i p = false) (hv : p.violations < 65535) :
    s.writeTmux i v = (s.modPort i (fun p => { p with violations := p.violations + 1 })).intPort i .lockViolation := by
  simp [State.writeTmux, State.port?, hp, hl, hv]

theorem writeTmux_of_saturated {s : State} {i : Nat} {p : CtlPort} (v : Nat) (hp : s.ports[i]? = some p) (hl : s.lockNow i p = false) (hv : p.violations = 65535) :
    s.writeTmux i v = s := by
  simp [State.writeTmux, State.port?, hp, hl, hv]

/-- With the lock closed a write to TMUX_SELECT changes only the ports and what leaves. -/
theorem writeTmux_frame {s : State} {i : Nat} {p : CtlPort} (v : Nat) (hp : s.ports[i]? = some p) (hl : s.lockNow i p = false) (hv : p.violations < 65535) :
    KeepsButPorts s (s.writeTmux i v) := by
  rw [writeTmux_of_closed v hp hl hv]
  exact (modPort_frame s i _).trans (intPort_frame _ i _)

/-- With the lock closed a write to TMUX_SELECT adds one to the port's violations; of the rest only what the interrupt changes differs. -/
theorem writeTmux_port {s : State} {i : Nat} {p : CtlPort} (v : Nat) (hp : s.ports[i]? = some p) (hl : s.lockNow i p = false) (hv : p.violations < 65535) :
    ∃ q, (s.writeTmux i v).ports[i]? = some q ∧ q.sansEvents = { p with violations := p.violations + 1 }.sansEvents := by
  have h := (intPort_signals (s.modPort i (fun p => { p with violations := p.violations + 1 })) i .lockViolation).port i
  rw [← writeTmux_of_closed v hp hl hv, modPort_same _ hp] at h
  exact Option.map_eq_some_iff.mp h

/-- The package's selection is written unless a higher path has written it on the same cycle of the service die. -/
theorem selectTmux_of_free {s : State} {path : Nat} (v : Nat) (h : ¬(s.svc.pins.tmuxAt.1 / 4 = s.now / 4 ∧ path < s.svc.pins.tmuxAt.2)) :
    ∃ ps, s.selectTmux path v =
      { s with ports := ps, svc := { s.svc with pins := { s.svc.pins with tmuxGroup := v % 16, tmuxDie := v / 16 % 8, tmuxAt := (s.now, path) } } } := by
  have hc : (s.svc.pins.tmuxAt.1 / 4 == s.now / 4 && path < s.svc.pins.tmuxAt.2) = false := by simpa using h
  exact ⟨_, by rw [State.selectTmux, hc]; rfl⟩

end Sys2Proof.Machine
end

section
/-! SUPPORT. The rows of BAR0's register map: which operation a write of 32 bits to each register is (R752-R763). -/
namespace Sys2Proof.Machine
open Sys2Proof

/-! ### What each command over a control port runs -/

theorem exec_registerWrite (t i off size : Nat) (v : RegValue) (s : State) : exec (.registerWrite t i off size v) s = run t s (fun u => u.access i (fun u =>
    if size == 4 && off % 4 == 0 then u.writeWord i off (v.value.toNat % 2 ^ 32) v.descs
    else if size == 8 && off % 8 == 0 then (u.writeWord i off (v.value.toNat % 2 ^ 32) v.descs).writeWord i (off + 4) (v.value.toNat / 2 ^ 32) v.descs
    else u.unsupported i)) := rfl

theorem exec_bar2Write (t i off : Nat) (s : State) : exec (.bar2Write t i off) s = run t s (fun u => u.access i (fun u => if off < 2 ^ 36 then u.unsupported i else u)) := rfl

theorem exec_cfgLockOpen (t i : Nat) (s : State) : exec (.cfgLockOpen t i) s = run t s (fun u => u.access i (fun u => u.writeLock i true)) := rfl

theorem exec_cfgLockClose (t i : Nat) (s : State) : exec (.cfgLockClose t i) s = run t s (fun u => u.access i (fun u => u.writeLock i false)) := rfl

theorem exec_tmuxSelectWrite (t i : Nat) (v : BitVec 32) (s : State) : exec (.tmuxSelectWrite t i v) s = run t s (fun u => u.access i (fun u => u.writeTmux i v.toNat)) := rfl

theorem exec_intStatusClear (t i : Nat) (m : BitVec 32) (s : State) :
    exec (.intStatusClear t i m) s = run t s (fun u => u.access i (fun u => u.modPort i (fun p => p.clearStatus u.now (m.setWidth 17)))) := rfl

theorem exec_intEnableWrite (t i : Nat) (v : BitVec 32) (s : State) : exec (.intEnableWrite t i v) s = run t s (fun u => u.access i (fun u => u.writeEnable i (v.setWidth 17))) := rfl

theorem exec_ringEnable (t i : Nat) (r : RingId) (s : State) : exec (.ringEnable t i r) s = run t s (fun u => u.access i (fun u => u.enableRing i r)) := rfl

theorem exec_ringDisable (t i : Nat) (r : RingId) (s : State) : exec (.ringDisable t i r) s = run t s (fun u => u.access i (fun u => u.disableRing i r)) := rfl

theorem exec_cmdTailDoorbell (t i tail : Nat) (ds : List (List Byte)) (s : State) :
    exec (.cmdTailDoorbell t i tail ds) s = run t s (fun u => u.access i (fun u => u.writeCmdTail i tail ds)) := rfl

theorem exec_cplHeadWrite (t i head : Nat) (s : State) : exec (.cplHeadWrite t i head) s = run t s (fun u => u.access i (fun u => u.writeCplHead i head)) := rfl

theorem exec_evtHeadWrite (t i head : Nat) (s : State) : exec (.evtHeadWrite t i head) s = run t s (fun u => u.access i (fun u => u.writeEvtHead i head)) := rfl

/-! ### The sizes of a write (R753) -/

theorem exec_registerWrite_word {off : Nat} (t i : Nat) (v : BitVec 64) (ds : List (List Byte)) (s : State) (h : off % 4 = 0) :
    exec (.registerWrite t i off 4 ⟨v, ds⟩) s = run t s (fun u => u.access i (fun u => u.writeWord i off (v.toNat % 2 ^ 32) ds)) := by
  simp [exec_registerWrite, h]

theorem exec_registerWrite_pair {off : Nat} (t i : Nat) (v : BitVec 64) (ds : List (List Byte)) (s : State) (h : off % 8 = 0) :
    exec (.registerWrite t i off 8 ⟨v, ds⟩) s =
      run t s (fun u => u.access i (fun u => (u.writeWord i off (v.toNat % 2 ^ 32) ds).writeWord i (off + 4) (v.toNat / 2 ^ 32) ds)) := by
  simp [exec_registerWrite, h]

theorem exec_registerWrite_malformed {off size : Nat} (t i : Nat) (v : RegValue) (s : State) (h4 : ¬(size = 4 ∧ off % 4 = 0)) (h8 : ¬(size = 8 ∧ off % 8 = 0)) :
    exec (.registerWrite t i off size v) s = run t s (fun u => u.access i (fun u => u.unsupported i)) := by
  simp [exec_registerWrite, h4, h8]

/-- A write of 4 bytes to a register whose row is a command's is that command. -/
theorem exec_registerWrite_row {c : Instr} {t i off : Nat} {v : BitVec 64} {ds : List (List Byte)} {s : State} {f : State → State}
    (hc : exec c s = run t s (fun u => u.access i f)) (ho : off % 4 = 0) (hf : ∀ u : State, u.writeWord i off (v.toNat % 2 ^ 32) ds = f u) :
    exec (.registerWrite t i off 4 ⟨v, ds⟩) s = exec c s := by
  rw [exec_registerWrite_word t i v ds s ho, hc]
  simp only [hf]

/-! ### The registers (R756, R759, R762) -/

theorem writeWord_cfgLock (s : State) (i v : Nat) (ds : List (List Byte)) : s.writeWord i 0x1000 v ds = s.writeLock i (v == 0x52454731) := rfl

theorem writeWord_apertureSel (s : State) (i v : Nat) (ds : List (List Byte)) :
    s.writeWord i 0x1008 v ds = s.modPort i (fun p => { p with apertureSel := BitVec.ofNat 32 v &&& 0xFFFF00F3 }) := rfl

theorem writeWord_tmuxSelect (s : State) (i v : Nat) (ds : List (List Byte)) : s.writeWord i 0x100C v ds = s.writeTmux i v := rfl

theorem writeWord_intStatus (s : State) (i v : Nat) (ds : List (List Byte)) : s.writeWord i 0x2000 v ds = s.modPort i (fun p => p.clearStatus s.now (BitVec.ofNat 17 v)) := rfl

theorem writeWord_intEnable (s : State) (i v : Nat) (ds : List (List Byte)) : s.writeWord i 0x2004 v ds = s.writeEnable i (BitVec.ofNat 17 v) := rfl

theorem writeWord_cmdTail (s : State) (i v : Nat) (ds : List (List Byte)) : s.writeWord i 0x3014 v ds = s.writeCmdTail i v ds := rfl

theorem writeWord_cplHead (s : State) (i v : Nat) (ds : List (List Byte)) : s.writeWord i 0x3058 v ds = s.writeCplHead i v := rfl

theorem writeWord_evtHead (s : State) (i v : Nat) (ds : List (List Byte)) : s.writeWord i 0x3098 v ds = s.writeEvtHead i v := rfl

theorem ringCtrl_aligned {x : Nat × RingId} (hx : x ∈ [(0x300C, RingId.cmd), (0x304C, RingId.cpl), (0x308C, RingId.evt)]) : x.1 % 4 = 0 := by
  revert x; decide

/-- CTRL of the three rings. -/
theorem writeWord_ringCtrl {x : Nat × RingId} (hx : x ∈ [(0x300C, RingId.cmd), (0x304C, RingId.cpl), (0x308C, RingId.evt)]) (s : State) (i v : Nat) (ds : List (List Byte)) :
    s.writeWord i x.1 v ds = if bit v 0 then s.enableRing i x.2 else s.disableRing i x.2 := by
  simp only [List.mem_cons, List.not_mem_nil, or_false] at hx
  rcases hx with rfl | rfl | rfl <;> rfl

/-- Outside the port's control, its rings and the MSI-X table, a write reaches INT_VMAP or nothing (R752, R759). -/
theorem writeWord_outside {off : Nat} (h : off < 0x1000 ∨ 0x2010 ≤ off ∧ off < 0x3000 ∨ 0x4000 ≤ off ∧ off < 0xF0000) (s : State) (i v : Nat) (ds : List (List Byte)) :
    ∃ m : List (BitVec 32) → List (BitVec 32), s.writeWord i off v ds = s.modPort i (fun p => { p with intVmap := m p.intVmap }) := by
  have hlock : off ≠ 0x1000 := by omega
  have hsel : off ≠ 0x1008 := by omega
  have htmux : off ≠ 0x100C := by omega
  have hstatus : off ≠ 0x2000 := by omega
  have henable : off ≠ 0x2004 := by omega
  have hcount : off ≠ 0x3060 := by omega
  have htime : off ≠ 0x3064 := by omega
  have hcmd : ¬(0x3000 ≤ off ∧ off < 0x3040) := by omega
  have hcpl : ¬(0x3040 ≤ off ∧ off < 0x3080) := by omega
  have hevt : ¬(0x3080 ≤ off ∧ off < 0x30C0) := by omega
  have hmsix : ¬(0xF0000 ≤ off ∧ off < 0xF1000) := by omega
  simp only [State.writeWord, beq_iff_eq, Bool.and_eq_true, decide_eq_true_eq, hlock, hsel, htmux, hstatus, henable, hcount, htime, hcmd, hcpl, hevt, hmsix, if_false]
  split
  · exact ⟨fun m => m.set _ _, rfl⟩
  · exact ⟨id, (modPort_id s i).symm⟩

/-! ### Low words and bits of a value -/

theorem bit_zero_lowWord (v : BitVec 64) : bit (v.toNat % 2 ^ 32) 0 = v.getLsbD 0 := by
  simp [bit, BitVec.getLsbD, Nat.testBit]

theorem ofNat_lowWord (v : BitVec 64) : BitVec.ofNat 17 (v.toNat % 2 ^ 32) = (v.setWidth 32).setWidth 17 := by
  apply BitVec.eq_of_toNat_eq
  simp

/-! ### The table window on a brick map (R59, R750, R756) -/

theorem byteAt_natLE {n k : Nat} (v : Nat) (h : k < n) : byteAt (natLE n v) k = BitVec.ofNat 8 (v / 256 ^ k) := by
  induction n generalizing v k with
  | zero => omega
  | succ n ih =>
    cases k with
    | zero => simp [natLE, byteAt]
    | succ k =>
      have := ih (v / 256) (Nat.lt_of_succ_lt_succ h)
      rw [Nat.div_div_eq_div_mul, ← Nat.pow_succ'] at this
      simpa [natLE, byteAt] using this

/-- TABLE 1 of a partition: the value that selects its brick map has no bit that APERTURE_SEL masks away. -/
theorem apertureSel_brickMap {q : Nat} (h : q < 4) : (BitVec.ofNat 32 (q + 16) &&& 0xFFFF00F3).toNat = q + 16 := by
  revert q; decide

theorem bar2_window {o : Nat} (s : State) (i : Nat) (h : o < windowEnd - windowBase) : s.bar2 i (windowBase + o) = s.windowByte i o := by
  simp only [windowEnd, windowBase] at h
  have hv : ¬ vBase ≤ windowBase + o := by simp only [vBase, windowBase]; omega
  have he : ¬ windowEnd ≤ windowBase + o := by simp only [windowEnd, windowBase]; omega
  rw [State.bar2, if_neg hv, if_neg he, if_pos (Nat.le_add_right _ _), Nat.add_sub_cancel_left]

theorem bigTable_brickMap {s : State} {q : Nat} (h : (s.part? q).isSome = true) :
    s.bigTable q 1 = some (rowsRegion 0x0C01 q 0 8 (s.brickCount q) (s.store q).brickBytes) := by
  obtain ⟨P, hP⟩ := Option.isSome_iff_exists.mp h
  simp [State.bigTable, State.store, hP]

/-- With TABLE 1 of a partition selected and BASE 0, the window shows byte `k` of brick `b`'s entry. -/
theorem windowByte_brickMap {s : State} {i q b k : Nat} {c : CtlPort} {B : Brick} (hc : s.ports[i]? = some c) (hsel : c.apertureSel.toNat = q + 16) (hq : q < 4)
    (hpart : (s.part? q).isSome = true) (hB : (s.store q).brick? b = some B) (hb : b < s.brickCount q) (hk : k < 8) :
    s.windowByte i (8 * b + k) = BitVec.ofNat 8 (B.word / 256 ^ k) := by
  have hpartition : (q + 16) % 4 = q := by omega
  have htable : q / 16 = 0 := by omega
  have hrow : (8 * b + k) / 8 = b := by omega
  have hcol : (8 * b + k) % 8 = k := by omega
  have hbase : (q + 16) / 65536 = 0 := by omega
  simp [State.windowByte, State.port?, hc, hsel, hpartition, htable, bigTable_brickMap hpart, hbase, Region.read, rowsRegion, hrow, hcol, hb, StoreP.brickBytes, hB, byteAt_natLE _ hk]

end Sys2Proof.Machine
end

section
/-! The scope's statements on register writes and on the locked registers (00, 18, 19). -/
namespace Sys2Proof.Machine
open Sys2Proof

/-! ### CFG_LOCK and TMUX_SELECT (R16, R756-R758) -/

/-- A write to CFG_LOCK leaves the port's own lock as written, and the other port alone. -/
theorem writeLock_answers {c : Instr} {t i : Nat} {s : State} {unlock : Bool} (hc : exec c s = run t s (fun u => u.access i (fun u => u.writeLock i unlock)))
    (ho : (s.upTo t).portOpen i = true) :
    Answers c s (fun u => OnlyPorts s u ∧ u.ports[i]?.map (·.lockOpen) = some unlock ∧ ∀ j, j ≠ i → u.ports[j]? = s.ports[j]?) := by
  obtain ⟨p, hp⟩ := port_of_open ho
  refine answers_of_access hc ho (modPort_frame _ i _) ⟨⟨_, _, _, rfl⟩, ?_, fun j hj => ?_⟩
  · rw [State.writeLock, modPort_same _ (reach_same hp)]; rfl
  · exact (modPort_other _ _ hj).trans (reach_other _ hj)

/-- With the lock open a write to TMUX_SELECT is the package's selection. -/
theorem tmuxSelectWrite_of_open {t i : Nat} {v : BitVec 32} {s : State} {p : CtlPort} (ho : (s.upTo t).portOpen i = true) (hp : s.ports[i]? = some p)
    (hl : (s.upTo t).lockNow i p = true) (hfree : ¬(s.svc.pins.tmuxAt.1 / 4 = decided t s / 4 ∧ i + 1 < s.svc.pins.tmuxAt.2)) :
    Answers (.tmuxSelectWrite t i v) s (fun u => u.svc.pins.tmuxGroup = v.toNat % 16 ∧ u.svc.pins.tmuxDie = v.toNat / 16 % 8 ∧
      u.parts = s.parts ∧ u.dies = s.dies ∧ u.sec = s.sec ∧ u.out = s.out) := by
  obtain ⟨ps, hsel⟩ := selectTmux_of_free (s := (s.upTo t).reach i) v.toNat hfree
  have hopen := (reach_lockNow (s.upTo t) i p).trans hl
  refine ⟨_, (exec_tmuxSelectWrite t i v s).trans (run_eq _ _ _), ?_⟩
  rw [access_of_open _ ho, writeTmux_of_open _ (reach_upTo_same t hp) hopen, hsel]
  exact ⟨rfl, rfl, rfl, rfl, rfl, rfl⟩

/-- With the lock closed it is a violation, and no Unsupported Request. -/
theorem tmuxSelectWrite_of_closed {t i : Nat} {v : BitVec 32} {s : State} {p : CtlPort} (ho : (s.upTo t).portOpen i = true) (hp : s.ports[i]? = some p)
    (hl : (s.upTo t).lockNow i p = false) (hv : p.violations < 65535) :
    Answers (.tmuxSelectWrite t i v) s (fun u => u.svc = s.svc ∧
      u.ports[i]?.map (fun q => (q.violations, q.unsupported)) = some (p.violations + 1, p.unsupported) ∧ u.parts = s.parts ∧ u.dies = s.dies ∧ u.sec = s.sec) := by
  have hreached := reach_upTo_same t hp
  have hclosed := (reach_lockNow (s.upTo t) i p).trans hl
  have hframe := writeTmux_frame v.toNat hreached hclosed hv
  obtain ⟨q, hq, hsame⟩ := writeTmux_port v.toNat hreached hclosed hv
  refine answers_of_access (exec_tmuxSelectWrite t i v s) ho hframe ⟨hframe.svc, ?_, hframe.parts, hframe.dies, hframe.sec⟩
  rw [hq]
  exact congrArg (fun q : CtlPort => some (q.violations, q.unsupported)) hsame

/-- At 65,535 the count of violations stands. -/
theorem tmuxSelectWrite_of_saturated {t i : Nat} {v : BitVec 32} {s : State} {p : CtlPort} (ho : (s.upTo t).portOpen i = true) (hp : s.ports[i]? = some p)
    (hl : (s.upTo t).lockNow i p = false) (hv : p.violations = 65535) :
    Answers (.tmuxSelectWrite t i v) s (fun u => u.svc = s.svc ∧ u.ports[i]?.map (fun q => (q.violations, q.unsupported)) = some (65535, p.unsupported) ∧ u.out = s.out) := by
  have hreached := reach_upTo_same t hp
  have hnone := writeTmux_of_saturated v.toNat hreached ((reach_lockNow _ i p).trans hl) hv
  refine answers_of_access (exec_tmuxSelectWrite t i v s) ho ?_ ?_
  · rw [hnone]; exact .rfl
  · rw [hnone, hreached, ← hv]
    exact ⟨rfl, rfl, rfl⟩

/-- Settles O10: the lock decides whether a write to TMUX_SELECT is the selection, a violation, or past the saturated count nothing. -/
theorem lockedRegisters : Obligations.LockedRegisters := by
  unfold Obligations.LockedRegisters
  refine ⟨fun t i s ho => ⟨?_, ?_⟩, fun t i v s p ho hp => ⟨?_, ?_, ?_⟩⟩
  · exact writeLock_answers (exec_cfgLockOpen t i s) ho
  · exact writeLock_answers (exec_cfgLockClose t i s) ho
  · exact fun hl hfree => tmuxSelectWrite_of_open ho hp hl hfree
  · exact fun hl hv => tmuxSelectWrite_of_closed ho hp hl hv
  · exact fun hl hv => tmuxSelectWrite_of_saturated ho hp hl hv

/-! ### Register writes (R13, R713, R752-R763) -/

/-- A write reported as an Unsupported Request: the access reaches the port, and its count rises by one. -/
theorem unsupported_answers {c : Instr} {t i : Nat} {s : State} {p : CtlPort} (hc : exec c s = run t s (fun u => u.access i (fun u => u.unsupported i)))
    (ho : (s.upTo t).portOpen i = true) (hp : s.ports[i]? = some p) :
    Answers c s (fun u => OnlyPorts s u ∧ u.ports[i]? = some { p.reached with unsupported := p.unsupported + 1 }) :=
  answers_of_access hc ho (modPort_frame _ i _) ⟨⟨_, _, _, rfl⟩, modPort_same _ (reach_upTo_same t hp)⟩

theorem registerWrite_outside {t i off : Nat} {v : BitVec 64} {ds : List (List Byte)} {s : State} {p : CtlPort} (ho : (s.upTo t).portOpen i = true) (hp : s.ports[i]? = some p)
    (h4 : off % 4 = 0) (hoff : off < 0x1000 ∨ 0x2010 ≤ off ∧ off < 0x3000 ∨ 0x4000 ≤ off ∧ off < 0xF0000) :
    Answers (.registerWrite t i off 4 ⟨v, ds⟩) s (fun u => OnlyPorts s u ∧ u.ports[i]?.map (·.unsupported) = some p.unsupported ∧ ∀ j, j ≠ i → u.ports[j]? = s.ports[j]?) := by
  obtain ⟨m, hm⟩ := writeWord_outside hoff ((s.upTo t).reach i) i (v.toNat % 2 ^ 32) ds
  refine answers_of_access (exec_registerWrite_word t i v ds s h4) ho (hm ▸ modPort_frame _ i _) ?_
  rw [hm]
  refine ⟨⟨_, _, _, rfl⟩, ?_, fun j hj => (modPort_other _ _ hj).trans (reach_other _ hj)⟩
  rw [modPort_same _ (reach_upTo_same t hp)]; rfl

/-- The state after a write of 32 bits to APERTURE_SEL. -/
theorem registerWrite_apertureSel {t i : Nat} {v : BitVec 64} {ds : List (List Byte)} {s : State} {p : CtlPort} {Q : State → Prop} (ho : (s.upTo t).portOpen i = true)
    (hp : s.ports[i]? = some p)
    (hq : ∀ u, OnlyPorts s u → u.ports[i]? = some { p.reached with apertureSel := BitVec.ofNat 32 (v.toNat % 2 ^ 32) &&& 0xFFFF00F3 } → Q u) :
    Answers (.registerWrite t i 0x1008 4 ⟨v, ds⟩) s Q :=
  answers_of_access (exec_registerWrite_word t i v ds s rfl) ho (modPort_frame _ i _) (hq _ ⟨_, _, _, rfl⟩ (modPort_same _ (reach_upTo_same t hp)))

/-- The pair at APERTURE_SEL with the lock closed: the low word is taken, the high word at TMUX_SELECT is a violation. -/
theorem registerWrite_apertureSel_pair {t i : Nat} {v : BitVec 64} {ds : List (List Byte)} {s : State} {p : CtlPort} (ho : (s.upTo t).portOpen i = true) (hp : s.ports[i]? = some p)
    (hl : (s.upTo t).lockNow i p = false) (hv : p.violations < 65535) :
    Answers (.registerWrite t i 0x1008 8 ⟨v, ds⟩) s (fun u => u.svc = s.svc ∧ u.parts = s.parts ∧
      u.ports[i]?.map (fun q => (q.apertureSel, q.violations)) = some (BitVec.ofNat 32 (v.toNat % 2 ^ 32) &&& 0xFFFF00F3, p.violations + 1)) := by
  have hlow := modPort_same (fun p => { p with apertureSel := BitVec.ofNat 32 (v.toNat % 2 ^ 32) &&& 0xFFFF00F3 }) (reach_upTo_same t hp)
  have hclosed := (lockNow_congr i rfl rfl rfl).trans hl
  have hframe := writeTmux_frame (v.toNat / 2 ^ 32) hlow hclosed hv
  obtain ⟨q, hq, hsame⟩ := writeTmux_port (v.toNat / 2 ^ 32) hlow hclosed hv
  refine answers_of_access (exec_registerWrite_pair t i v ds s rfl) ho ((modPort_frame _ i _).trans hframe) ?_
  simp only [writeWord_apertureSel, Nat.reduceAdd, writeWord_tmuxSelect]
  refine ⟨hframe.svc, hframe.parts, ?_⟩
  rw [hq]
  exact congrArg (fun q : CtlPort => some (q.apertureSel, q.violations)) hsame

/-- With a partition's brick map selected, the table window shows an allocated brick's entry. -/
theorem registerWrite_brickMap {t i q b k : Nat} {v : BitVec 64} {ds : List (List Byte)} {s : State} {p : CtlPort} {B : Brick} (ho : (s.upTo t).portOpen i = true)
    (hp : s.ports[i]? = some p) (hq : q < 4) (hpart : (s.part? q).isSome = true) (hB : (s.store q).brick? b = some B) (hb : b < s.brickCount q) (hk : k < 8)
    (hwin : 8 * b + k < windowEnd - windowBase) (hv : v.toNat % 2 ^ 32 = q + 16) :
    Answers (.registerWrite t i 0x1008 4 ⟨v, ds⟩) s (fun u => u.bar2 i (windowBase + 8 * b + k) = BitVec.ofNat 8 (B.word / 256 ^ k)) := by
  refine registerWrite_apertureSel ho hp fun u hu hport => ?_
  obtain ⟨n, m, ps, rfl⟩ := hu
  rw [hv] at hport
  rw [Nat.add_assoc, bar2_window _ i hwin]
  exact windowByte_brickMap hport (apertureSel_brickMap hq) hq hpart hB hb hk

/-- Settles O12: each row of the register map is the operation that its command runs; the rest is refused, or touches the port alone. -/
theorem registerWrites : Obligations.RegisterWrites := by
  unfold Obligations.RegisterWrites
  intro t i off size v ds s p ho hp
  refine ⟨fun h4 h8 => ?_, fun h4 hoff => ?_, ?_, fun hl hv => ?_, fun q b k B hq hpart hB hb hk hwin hv => ?_, fun hv => ?_, fun hv => ?_, ?_, ?_, ?_, fun x hx => ⟨fun hv => ?_, fun hv => ?_⟩,
    ?_, ?_, ?_, fun hoff => ?_⟩
  · exact unsupported_answers (exec_registerWrite_malformed t i _ s h4 h8) ho hp
  · exact registerWrite_outside ho hp h4 hoff
  · refine registerWrite_apertureSel ho hp fun u hu hport => ⟨hu, ?_⟩
    rw [hport]; rfl
  · exact registerWrite_apertureSel_pair ho hp hl hv
  · exact registerWrite_brickMap ho hp hq hpart hB hb hk hwin hv
  · exact exec_registerWrite_row (exec_cfgLockOpen t i s) rfl fun u => by rw [writeWord_cfgLock, hv]; rfl
  · exact exec_registerWrite_row (exec_cfgLockClose t i s) rfl fun u => by rw [writeWord_cfgLock, beq_false_of_ne hv]
  · exact exec_registerWrite_row (exec_tmuxSelectWrite t i _ s) rfl fun u => by rw [writeWord_tmuxSelect, BitVec.toNat_setWidth]
  · exact exec_registerWrite_row (exec_intStatusClear t i _ s) rfl fun u => by rw [writeWord_intStatus, ofNat_lowWord]
  · exact exec_registerWrite_row (exec_intEnableWrite t i _ s) rfl fun u => by rw [writeWord_intEnable, ofNat_lowWord]
  · exact exec_registerWrite_row (exec_ringEnable t i x.2 s) (ringCtrl_aligned hx) fun u => by rw [writeWord_ringCtrl hx, bit_zero_lowWord, if_pos hv]
  · exact exec_registerWrite_row (exec_ringDisable t i x.2 s) (ringCtrl_aligned hx) fun u => by rw [writeWord_ringCtrl hx, bit_zero_lowWord, hv]; rfl
  · exact exec_registerWrite_row (exec_cmdTailDoorbell t i _ ds s) rfl fun u => writeWord_cmdTail u i _ ds
  · exact exec_registerWrite_row (exec_cplHeadWrite t i _ s) rfl fun u => writeWord_cplHead u i _ ds
  · exact exec_registerWrite_row (exec_evtHeadWrite t i _ s) rfl fun u => writeWord_evtHead u i _ ds
  · have haperture : exec (.bar2Write t i off) s = run t s (fun u => u.access i (fun u => u.unsupported i)) := by simp only [exec_bar2Write, hoff, if_true]
    obtain ⟨u, hu, honly, hport⟩ := unsupported_answers haperture ho hp
    exact ⟨u, hu, honly, by rw [hport]; rfl⟩

end Sys2Proof.Machine
end

section
/-! A warm reset of a controller die (00, 19). -/
namespace Sys2Proof.Machine
open Sys2Proof

/-! ### A stop of a port's rings changes only the ports and what leaves -/

theorem journalDone_frame (s : State) (e : Ended) (n : Nat) : KeepsButPorts s (s.journalDone e n) := event_frame s 4 _

theorem stopRing_frame (s : State) (i : Nat) (r : RingId) (c : RingCause) : KeepsButPorts s (s.stopRing i r c) := by
  have hstop := modRing_frame s i r (fun x => { x with stopped := true, cause := c, enable := x.enable && c != .disabled && c != .reset && c != .badSize })
  unfold State.stopRing
  dsimp only
  generalize s.modRing i r _ = u at hstop ⊢
  have hcleared : KeepsButPorts s (if r == RingId.cpl then u.modPort i (fun p => { p with unwritten := [], unsignalled := 0, oldestUnsignalled := none }) else u) := by
    split
    · exact hstop.trans (modPort_frame u i _)
    · exact hstop
  split
  · exact hcleared.trans (.foldl (fun s e => journalDone_frame s e _) _ _)
  · exact (hcleared.trans (.foldl (fun s e => journalDone_frame s e _) _ _)).trans (intPort_frame _ i _)

theorem stopRings_frame (s : State) (i : Nat) (c : RingCause) : KeepsButPorts s (s.stopRings i c) :=
  (((stopRing_frame s i .evt c).trans (stopRing_frame _ i .cpl c)).trans (stopRing_frame _ i .cmd c)).trans (modPort_frame _ i _)

theorem functionReset_frame (s : State) (i : Nat) : KeepsButPorts s (s.functionReset i) := (stopRings_frame s i .reset).trans (modPort_frame _ i _)

theorem portLinkDown_frame (s : State) (i : Nat) : KeepsButPorts s (s.portLinkDown i) := (stopRings_frame s i .reset).trans (modPort_frame _ i _)

/-! ### The reset -/

/-- A die with its error counters at 0 (R18, R769). -/
def Die.clearErrors (D : Die) : Die :=
  { D with
    replays := [], fabricCounters := [], dram := { D.dram with corrected := 0, flagged := 0, lostMerge := 0 },
    remote := { D.remote with causes := [], wrongPort := 0, errReg := 0, immDiscarded := 0, badStatus := 0 } }

/-- The loss of a die's grout cache (R199), in the partition that holds the die. -/
def State.loseGroutOf (s : State) (d : Nat) : State := match s.partOfDie d with | some p => s.modStore p (fun S => S.loseGrout d) | none => s

theorem loseGroutOf_frame (s : State) (d : Nat) : KeepsButParts s (s.loseGroutOf d) := by
  unfold State.loseGroutOf
  split
  · exact modPart_frame s _ _
  · exact ⟨_, rfl⟩

/-- The effect of a warm reset of a die outside COLD (R18, R199, R714). -/
def State.afterWarmReset (s : State) (d : Nat) : State :=
  let u := (s.modDie d Die.clearErrors).loseGroutOf d
  if u.portExists d then (u.functionReset d).portLinkDown d else u

theorem exec_warmReset {t d : Nat} {s : State} {D : Die} (hpkg : s.pkg ≠ .cold) (hD : s.die? d = some D) :
    exec (.warmReset t d) s = run t s (fun u => u.afterWarmReset d) := by
  have hD' : (s.upTo t).die? d = some D := hD
  have hruns : ((s.upTo t).pkg == .cold || ((s.upTo t).die? d).isNone) = false := by simp [hpkg, hD']
  refine congrArg (fun u => Host.Outcome.next (commit s (decided t s) u)) ?_
  exact if_neg (by rw [hruns]; exact Bool.false_ne_true)

/-- Besides the die's error counters a warm reset changes only partitions, control ports and what leaves the device. -/
theorem afterWarmReset_frame (s : State) (d : Nat) : ∃ qs ps o, s.afterWarmReset d = { s.modDie d Die.clearErrors with parts := qs, ports := ps, out := o } := by
  obtain ⟨qs, hqs⟩ := loseGroutOf_frame (s.modDie d Die.clearErrors) d
  unfold State.afterWarmReset
  dsimp only
  split
  · obtain ⟨ps, o, h⟩ := (functionReset_frame ((s.modDie d Die.clearErrors).loseGroutOf d) d).trans (portLinkDown_frame _ d)
    exact ⟨qs, ps, o, by rw [h, hqs]⟩
  · exact ⟨qs, _, _, hqs⟩

/-- Settles O16: a warm reset writes one entry of the table of dies, and its other effects lie outside the dies. -/
theorem warmReset : Obligations.WarmReset := by
  unfold Obligations.WarmReset
  intro t d s D hpkg hD _
  obtain ⟨qs, ps, o, heff⟩ := afterWarmReset_frame (s.upTo t) d
  refine ⟨_, (exec_warmReset hpkg hD).trans (run_eq _ _ _), ?_⟩
  rw [heff]
  have hd : aget (aupd s.dies d Die.clearErrors) d = some D.clearErrors := by
    rw [aget_aupd_same]
    exact congrArg (Option.map Die.clearErrors) hD
  exact ⟨⟨_, hd, rfl, rfl, rfl, rfl, rfl, rfl, rfl⟩, fun e he => aget_aupd_other _ _ he, rfl, rfl⟩

end Sys2Proof.Machine
end

section
/-! SUPPORT. Links: what the loss, the retraining and the return of a mesh, service or Ethernet link do to dies and QPs (R31, R35, R37, R267, R270). -/
namespace Sys2Proof.Machine
open Sys2Proof

/-! ### The answer of a command that is run -/

/-- A run looks at its effect on the decision cycle alone. -/
theorem run_congr {t : Nat} {s : State} {f g : State → State} (h : f (s.upTo t) = g (s.upTo t)) : run t s f = run t s g := by rw [run_eq, run_eq, h]

/-- A command that is run answers with its effect, committed. -/
theorem answers_of_run {c : Instr} {t : Nat} {s : State} {f : State → State} {Q : State → Prop} (hc : exec c s = run t s f)
    (hq : Q (commit s (decided t s) (f (s.upTo t)))) : Answers c s Q := ⟨_, hc.trans (run_eq t s f), hq⟩

/-- An effect that leaves the service die alone leaves it alone once committed. -/
theorem commit_svc_of_kept {s r : State} (n : Nat) (h : r.svc = s.svc) : (commit s n r).svc = s.svc := by
  unfold commit
  simp only [h, keepAnchors_self]

/-! ### One die of the table -/

theorem modDie_same {s : State} {d : Nat} {D : Die} (f : Die → Die) (h : s.die? d = some D) : (s.modDie d f).die? d = some (f D) := by
  unfold State.die? at h ⊢
  rw [State.modDie_dies, aget_aupd_same, h]
  rfl

theorem modDie_other (s : State) {d e : Nat} (f : Die → Die) (h : e ≠ d) : (s.modDie d f).die? e = s.die? e := aget_aupd_other _ f h

/-! ### The partition of a die -/

/-- Which partition holds a die is a matter of the partitions, the member and the effective image. -/
theorem partOfDie_congr {s u : State} (d : Nat) (hp : u.parts = s.parts) (hh : u.hw = s.hw) (hi : u.image = s.image) : u.partOfDie d = s.partOfDie d := by
  unfold State.partOfDie State.partIds State.partDies State.provisional State.dieCount State.field State.rec? State.part?
  rw [hp, hh, hi]

/-! ### Mesh links (R30, R31) -/

/-- A die on whose port `n` more replays have been counted (R30, log 28). -/
def Die.countReplays (port n : Nat) (D : Die) : Die := { D with replays := amod D.replays port (0, 0) (fun x => (0, x.2 + n)) }

/-- A die with a mortar-link port down (R31). -/
def Die.meshPortDown (port : Nat) (D : Die) : Die := { D with meshUp := D.meshUp.set port false }

/-- The link at die `a`'s port to die `b` is down at both its ends (R31). -/
def State.severMesh (s : State) (a port b : Nat) : State :=
  (s.modDie a (Die.meshPortDown port)).modDie b (Die.meshPortDown (meshFar s.hw.member port))

/-- What becomes of a mesh link that has passed 16 replays (R31). -/
theorem exec_meshLinkRetrain {t a port b : Nat} {r : Retrained} {s : State} {D : Die} (hpkg : s.pkg = .on) (hD : s.die? a = some D)
    (hb : meshNeighbour s.hw.member a port = some b) (hup : D.meshUp[port]? = some true) (hn : 16 < r.replays) :
    exec (.meshLinkRetrain t a port r) s = run t s (fun u =>
      let v := u.modDie a (Die.countReplays port r.replays)
      if r.success then v
      else
        let w := v.severMesh a port b
        if (w.linksBetween a b).isEmpty then w.dieLost (max a b) 0 .meshLink else w) := by
  show execMeshLinkRetrain t a port r s = _
  unfold execMeshLinkRetrain
  refine run_congr ?_
  have hD' : (s.upTo t).die? a = some D := hD
  have hguard : ((s.upTo t).pkg == .cold || D.meshUp[port]? != some true || decide (r.replays ≤ 16)) = false := by simp [hpkg, hup, hn]
  simp only [hD', State.upTo_hw, hb]
  rw [hguard]
  rfl

theorem mem_linksBetween {s : State} {a b q : Nat} {D : Die} (hD : s.die? a = some D) (hq : q < 4) (hup : D.meshUp[q]? = some true)
    (hb : meshNeighbour s.hw.member a q = some b) : q ∈ s.linksBetween a b := by
  simp [State.linksBetween, hD, hq, hup, hb]

theorem severMesh_near {s : State} {a b : Nat} {D : Die} (port : Nat) (hba : b ≠ a) (hD : s.die? a = some D) :
    (s.severMesh a port b).die? a = some (D.meshPortDown port) :=
  (modDie_other _ _ hba.symm).trans (modDie_same _ hD)

theorem severMesh_far {s : State} {a b : Nat} {E : Die} (port : Nat) (hba : b ≠ a) (hE : s.die? b = some E) :
    (s.severMesh a port b).die? b = some (E.meshPortDown (meshFar s.hw.member port)) :=
  modDie_same _ ((modDie_other s _ hba).trans hE)

/-- A parallel link outlives the loss of a link (R31). -/
theorem severMesh_linksBetween {s : State} {a b port q : Nat} {D : Die} (hba : b ≠ a) (hD : s.die? a = some D) (hq : q < 4) (hne : q ≠ port)
    (hup : D.meshUp[q]? = some true) (hb : meshNeighbour s.hw.member a q = some b) : ((s.severMesh a port b).linksBetween a b).isEmpty = false := by
  have hup' : (D.meshPortDown port).meshUp[q]? = some true := (List.getElem?_set_ne hne.symm).trans hup
  exact List.isEmpty_eq_false_iff_exists_mem.mpr ⟨q, mem_linksBetween (severMesh_near port hba hD) hq hup' hb⟩

/-- A link that retrains counts its replays on the row's die (R30, R31, log 28). -/
theorem meshLinkRetrain_success {t a port b n : Nat} {s : State} {D : Die} (hpkg : s.pkg = .on) (hD : s.die? a = some D)
    (hb : meshNeighbour s.hw.member a port = some b) (hup : D.meshUp[port]? = some true) (hn : 16 < n) :
    Answers (.meshLinkRetrain t a port ⟨n, true⟩) s (fun u => u.parts = s.parts ∧ u.svc = s.svc ∧ u.sec = s.sec ∧ u.die? a = some (D.countReplays port n)) :=
  answers_of_run (exec_meshLinkRetrain hpkg hD hb hup hn) ⟨rfl, commit_svc_of_kept _ rfl, rfl, modDie_same (s := s.upTo t) _ hD⟩

/-- A link that does not retrain, beside a parallel one, is down at both ends, and no die is lost (R31). -/
theorem meshLinkRetrain_failure {t a port b n q : Nat} {s : State} {D E : Die} (hpkg : s.pkg = .on) (hD : s.die? a = some D)
    (hb : meshNeighbour s.hw.member a port = some b) (hba : b ≠ a) (hE : s.die? b = some E) (hup : D.meshUp[port]? = some true) (hn : 16 < n)
    (hq : q < 4) (hne : q ≠ port) (hqup : D.meshUp[q]? = some true) (hqb : meshNeighbour s.hw.member a q = some b) :
    Answers (.meshLinkRetrain t a port ⟨n, false⟩) s (fun u => u.parts = s.parts ∧ u.svc = s.svc ∧ (u.die? a).map (·.meshUp) = some (D.meshUp.set port false) ∧
      (u.die? b).map (·.meshUp) = some (E.meshUp.set (meshFar s.hw.member port) false)) := by
  have hDv : ((s.upTo t).modDie a (Die.countReplays port n)).die? a = some (D.countReplays port n) := modDie_same _ hD
  have hEv : ((s.upTo t).modDie a (Die.countReplays port n)).die? b = some E := (modDie_other _ _ hba).trans hE
  have hlink := severMesh_linksBetween hba hDv hq hne hqup hqb
  have hrun : exec (.meshLinkRetrain t a port ⟨n, false⟩) s = run t s (fun u => (u.modDie a (Die.countReplays port n)).severMesh a port b) := by
    rw [exec_meshLinkRetrain hpkg hD hb hup hn]
    refine run_congr ?_
    dsimp only
    rw [if_neg Bool.false_ne_true, hlink, if_neg Bool.false_ne_true]
  exact answers_of_run hrun ⟨rfl, commit_svc_of_kept _ rfl, congrArg (Option.map (·.meshUp)) (severMesh_near port hba hDv),
    congrArg (Option.map (·.meshUp)) (severMesh_far port hba hEv)⟩

/-! ### Service links (R35) -/

/-- A die that counts as lost, with the cause of it (R45). -/
def Die.markLost (cause : Nat) (D : Die) : Die := { D with lost := true, lostCause := cause }

/-- A die that no partition holds is marked lost; besides, its loss reaches the logbook, the ports and what leaves the device alone (R35, R45). -/
theorem dieLost_of_noPart {s : State} {d : Nat} {D : Die} (cause : Nat) (code : LogCode) (hD : s.die? d = some D) (hlost : D.lost = false) (hp : s.partOfDie d = none) :
    ∃ v ps o, s.dieLost d cause code = { s.modDie d (Die.markLost cause) with svc := v, ports := ps, out := o } := by
  obtain ⟨v, hv⟩ := (log_frame (s.modDie d (Die.markLost cause)) code (srcDie d) (subject (some d) 4 0 0 0 [])).svc
  obtain ⟨ps, o, ho⟩ := int_frame { s.modDie d (Die.markLost cause) with svc := v } .dieLost
  refine ⟨v, ps, o, Eq.trans ?_ ho⟩
  have hnone : (State.int { s.modDie d (Die.markLost cause) with svc := v } .dieLost).partOfDie d = none := by
    rw [ho]
    exact (partOfDie_congr d rfl rfl rfl).trans hp
  rw [← hv] at hnone ⊢
  unfold Die.markLost at hnone ⊢
  simp only [State.dieLost, hD, hlost, hnone, Bool.false_eq_true, if_false]

/-- The effect of SERVICE_LINK outside COLD on a die whose service link is up (R35). -/
theorem exec_serviceLink {t d : Nat} {s : State} {D : Die} (hpkg : s.pkg = .on) (hD : s.die? d = some D) (hup : D.serviceLink = true) :
    exec (.serviceLink t d) s = run t s (fun u => (u.modDie d (fun D => { D with serviceLink := false })).dieLost d 1 .serviceLink) := by
  show execServiceLink t d s = _
  unfold execServiceLink
  refine run_congr ?_
  have hD' : (s.upTo t).die? d = some D := hD
  simp [hD', hpkg, hup]

/-- A service link that fails loses its die (R35). -/
theorem serviceLink_fails {t d : Nat} {s : State} {D : Die} (hpkg : s.pkg = .on) (hD : s.die? d = some D) (hup : D.serviceLink = true) (hlost : D.lost = false)
    (hp : s.partOfDie d = none) : Answers (.serviceLink t d) s (fun u => u.parts = s.parts ∧ (u.die? d).map (fun E => (E.serviceLink, E.lost)) = some (false, true)) := by
  have hcut : ((s.upTo t).modDie d (fun D => { D with serviceLink := false })).die? d = some { D with serviceLink := false } := modDie_same _ hD
  obtain ⟨v, ps, o, heff⟩ := dieLost_of_noPart 1 .serviceLink hcut hlost ((partOfDie_congr d rfl rfl rfl).trans hp)
  refine answers_of_run (exec_serviceLink hpkg hD hup) ?_
  rw [heff]
  exact ⟨rfl, congrArg (Option.map fun E => (E.serviceLink, E.lost)) (modDie_same (Die.markLost 1) hcut)⟩

/-! ### Ethernet links that go down and come up (R37, R267, R270) -/

theorem exec_linkDown (t port brk : Nat) (s : State) : exec (.linkDown t port brk) s = run t s (fun u => u.linkDown port brk) := rfl

/-- A link that was up is down from the cycle on; the rest is an interrupt (R267). -/
theorem linkDown_of_up {s : State} {port brk : Nat} {l : LinkSt} (hl : aget s.links (port, brk) = some l) (hup : l.up = true) :
    KeepsButPorts { s with links := aset s.links (port, brk) { up := false, downSince := some s.now, lost := false } } (s.linkDown port brk) := by
  have hl' : agetD s.links (port, brk) LinkSt.reset = l := by rw [agetD, hl]; rfl
  unfold State.linkDown
  simp only [hl', hup, Bool.not_true, Bool.false_eq_true, if_false]
  exact int_frame _ _

theorem linkDown_answers {t port brk : Nat} {s : State} {l : LinkSt} (hl : aget s.links (port, brk) = some l) (hup : l.up = true) :
    Answers (.linkDown t port brk) s (fun u => u.parts = s.parts ∧ u.dies = s.dies ∧
      aget u.links (port, brk) = some { up := false, downSince := some (decided t s), lost := false }) := by
  obtain ⟨ps, o, heff⟩ := linkDown_of_up (s := s.upTo t) hl hup
  refine answers_of_run (exec_linkDown t port brk s) ?_
  rw [heff]
  exact ⟨rfl, rfl, aget_aset_same _ _ _⟩

/-- Whether a port is assigned is a matter of the partitions and the effective image. -/
theorem portAssigned_upTo (s : State) (t port : Nat) : (s.upTo t).portAssigned port = s.portAssigned port := rfl

theorem exec_linkUp_of_assigned {t port brk : Nat} {s : State} (hpkg : s.pkg = .on) (hport : port < 2 * s.dieCount) (hclk : s.svc.pins.ethRefclk = true)
    (has : s.portAssigned port = true) : exec (.linkUp t port brk) s = run t s (fun u => u.linkUp port brk) := by
  show execLinkUp t port brk s = _
  unfold execLinkUp
  refine run_congr ?_
  have hcount : (s.upTo t).dieCount = s.dieCount := rfl
  simp [hpkg, hcount, hport, hclk, portAssigned_upTo, has]

theorem linkUp_answers {t port brk : Nat} {s : State} (hpkg : s.pkg = .on) (hport : port < 2 * s.dieCount) (hclk : s.svc.pins.ethRefclk = true)
    (has : s.portAssigned port = true) : Answers (.linkUp t port brk) s (fun u => u.parts = s.parts ∧ u.dies = s.dies ∧
      aget u.links (port, brk) = some { up := true, downSince := none, lost := false }) :=
  answers_of_run (exec_linkUp_of_assigned hpkg hport hclk has) ⟨rfl, rfl, aget_aset_same _ _ _⟩

/-! ### Queue pairs of a die (R103) -/

/-- The live context of a QPN is a matter of the dies. -/
theorem qp?_congr {s u : State} (q : BitVec 24) (h : u.dies = s.dies) : u.qp? q = s.qp? q := by
  unfold State.qp? State.rd State.die?
  rw [h]

/-- A live context stands in a die that the member has. -/
theorem die_of_qp? {s : State} {q : BitVec 24} {c : Qp} (h : s.qp? q = some c) : ∃ D, s.die? (qpnDie q) = some D := by
  unfold State.qp? State.rd at h
  cases hD : s.die? (qpnDie q) with
  | none => simp [hD, RemoteD.reset] at h
  | some D => exact ⟨D, rfl⟩

theorem rd_of_die {s : State} {d : Nat} {D : Die} (h : s.die? d = some D) : s.rd d = D.remote := by
  unfold State.rd
  rw [h]

theorem rd_modRd_same {s : State} {d : Nat} {D : Die} (f : RemoteD → RemoteD) (h : s.die? d = some D) : (s.modRd d f).rd d = f (s.rd d) := by
  rw [rd_of_die h]
  exact rd_of_die (modDie_same _ h)

/-- A context is live under its own QPN unless it is FREE (R101). -/
theorem qp?_eq_some {s : State} {q : BitVec 24} {c : Qp} : s.qp? q = some c ↔ aget (s.rd (qpnDie q)).qps (qpnSlot q) = some c ∧ c.qpn = q ∧ c.state ≠ .free := by
  unfold State.qp?
  split
  · next x hx =>
    simp only [hx, Option.ite_none_right_eq_some, Option.some.injEq, Bool.and_eq_true, beq_iff_eq, bne_iff_ne]
    constructor
    · rintro ⟨h, rfl⟩
      exact ⟨rfl, h⟩
    · rintro ⟨rfl, h⟩
      exact ⟨h, rfl⟩
  · next hx => simp [hx]

/-- A change of a die's remote-access state that leaves its contexts alone leaves each live. -/
theorem qp?_modRd {s : State} {q : BitVec 24} {c : Qp} {f : RemoteD → RemoteD} (hf : ∀ r, (f r).qps = r.qps) (h : s.qp? q = some c) :
    (s.modRd (qpnDie q) f).qp? q = some c := by
  obtain ⟨D, hD⟩ := die_of_qp? h
  rw [qp?_eq_some] at h ⊢
  rwa [rd_modRd_same f hD, hf]

theorem qp?_modQp {s : State} {q : BitVec 24} {c : Qp} {f : Qp → Qp} (h : s.qp? q = some c) (hq : (f c).qpn = c.qpn) (hs : (f c).state ≠ .free) :
    (s.modQp q f).qp? q = some (f c) := by
  obtain ⟨D, hD⟩ := die_of_qp? h
  have hmod : s.modQp q f = s.modRd (qpnDie q) (fun r => { r with qps := aupd r.qps (qpnSlot q) f }) := by
    unfold State.modQp
    rw [h]
  rw [qp?_eq_some] at h
  obtain ⟨hget, hqpn, -⟩ := h
  rw [hmod, qp?_eq_some, rd_modRd_same _ hD]
  exact ⟨by rw [aget_aupd_same, hget]; rfl, hq.trans hqpn, hs⟩

/-! ### What the settling of a QP's operations leaves (R122) -/

/-- Only the partitions differ, and none of them in its fabric state. -/
def KeepsFabric (s u : State) : Prop := ∃ ps, u = { s with parts := ps } ∧ ∀ p, u.fabric p = s.fabric p

theorem KeepsFabric.rfl {s : State} : KeepsFabric s s := ⟨_, Eq.refl s, fun _ => Eq.refl _⟩

theorem KeepsFabric.trans {s u v : State} (h : KeepsFabric s u) (k : KeepsFabric u v) : KeepsFabric s v := by
  obtain ⟨ps, rfl, hf⟩ := h
  obtain ⟨qs, rfl, hg⟩ := k
  exact ⟨qs, Eq.refl _, fun p => (hg p).trans (hf p)⟩

theorem KeepsFabric.foldl {α : Type} {f : State → α → State} (h : ∀ s a, KeepsFabric s (f s a)) (l : List α) (s : State) : KeepsFabric s (l.foldl f s) := by
  induction l generalizing s with
  | nil => exact .rfl
  | cons a l ih => exact (h s a).trans (ih (f s a))

theorem modPart_keepsFabric (s : State) (p : Nat) {f : Part → Part} (h : ∀ P, (f P).fabric = P.fabric) : KeepsFabric s (s.modPart p f) := by
  refine ⟨_, rfl, fun q => ?_⟩
  unfold State.fabric State.part?
  by_cases hq : q = p
  · subst hq
    rw [State.modPart_parts, aget_aupd_same]
    cases aget s.parts q with
    | none => rfl
    | some P => exact h P
  · rw [State.modPart_parts, aget_aupd_other _ _ hq]

theorem endOp_keepsFabric (s : State) (p id : Nat) : KeepsFabric s (s.endOp p id) := by
  have hends := (modPart_keepsFabric s p (f := fun P => { P with remote := { P.remote with ops := P.remote.ops.filter (·.id != id) } }) fun _ => rfl).trans
    (modPart_keepsFabric _ p (f := fun P => { P with store := { P.store with
      frameWaits := P.store.frameWaits.filter (·.1 != id),
      flash := { P.store.flash with reads := P.store.flash.reads.map (fun r => { r with waiting := r.waiting.filter (· != id) }) } } }) fun _ => rfl)
  unfold State.endOp
  dsimp only
  split
  · exact hends.trans (modPart_keepsFabric _ p fun _ => rfl)
  · exact hends

theorem settleQp_keepsFabric (s : State) (p : Nat) (q : BitVec 24) : KeepsFabric s (s.settleQp p q) :=
  (KeepsFabric.foldl (fun s id => endOp_keepsFabric s p id) _ s).trans (modPart_keepsFabric _ p fun _ => rfl)

/-- Without an unanswered far request there is no CLOSE to send (R478). -/
theorem farClose_of_idle {s : State} {p : Nat} (q : BitVec 24) (h : (s.fabric p).farSent = []) : s.farClose p q = s := by
  unfold State.farClose
  simp [h]

/-! ### A link that stays down (R267) -/

/-- A context in ERROR: the cause and the cycle of it stand (R122). -/
def Qp.inError (cause stamp : Nat) (c : Qp) : Qp :=
  { c with state := .error, errCause := cause, errStamp := stamp, cur := none, unacked := 0, oldestUnacked := none }

/-- The error registers of a QP's die note a cause, and READ data of it that has yet to leave is withdrawn (R120, R122, R768). -/
def State.noteQpError (s : State) (q : BitVec 24) (cause : Nat) : State :=
  ((s.causeCount (qpnDie q) cause).modRd (qpnDie q) (fun r => r.noteError cause q.toNat s.now)).withdraw q

theorem noteError_qps (r : RemoteD) (cause qpn stamp : Nat) : (r.noteError cause qpn stamp).qps = r.qps := by
  unfold RemoteD.noteError
  dsimp only
  split <;> rfl

/-- The die's registers change, and no context (R120). -/
theorem qp?_noteQpError {s : State} {q : BitVec 24} {c : Qp} (cause : Nat) (h : s.qp? q = some c) : (s.noteQpError q cause).qp? q = some c := by
  have hcount : (s.causeCount (qpnDie q) cause).qp? q = some c := qp?_modRd (fun _ => rfl) h
  have hnote := qp?_modRd (fun r => noteError_qps r cause q.toNat s.now) hcount
  exact (qp?_congr q rfl).trans hnote

/-- A READY QP enters ERROR with LINK_LOST outside a pair: no NAK leaves, and no entry travels (R122, R267). -/
theorem qpError_linkLost {s : State} {p : Nat} {q : BitVec 24} {c : Qp} (psn : BitVec 24) (hq : s.qp? q = some c) (hc : c.state = .ready)
    (hpair : (s.twin p).paired = false) : s.qpError p q psn 0x34 = (((s.noteQpError q 0x34).modQp q (Qp.inError 0x34 s.now)).settleQp p q).farClose p q := by
  have hlead : (s.twin p).lead = false := by simp [TwinP.lead, hpair]
  unfold State.qpError
  simp only [hq, hc, hlead, Bool.and_false, Bool.false_and]
  rfl

/-- A READY QP that meets LINK_LOST, outside a pair and without far requests, is in ERROR afterwards, and the links are as they were (R122, R267). -/
theorem qpError_linkLost_inError {s : State} {p : Nat} {q : BitVec 24} {c : Qp} (psn : BitVec 24) (hq : s.qp? q = some c) (hc : c.state = .ready)
    (hpair : (s.twin p).paired = false) (hfar : (s.fabric p).farSent = []) :
    (s.qpError p q psn 0x34).qp? q = some (c.inError 0x34 s.now) ∧ (s.qpError p q psn 0x34).links = s.links := by
  have herr : ((s.noteQpError q 0x34).modQp q (Qp.inError 0x34 s.now)).qp? q = some (c.inError 0x34 s.now) :=
    qp?_modQp (qp?_noteQpError 0x34 hq) rfl QpState.noConfusion
  obtain ⟨ds, hds⟩ := modQp_frame (s.noteQpError q 0x34) q (Qp.inError 0x34 s.now)
  rw [qpError_linkLost psn hq hc hpair]
  rw [hds] at herr ⊢
  obtain ⟨ps, hps, hkept⟩ := settleQp_keepsFabric { s.noteQpError q 0x34 with dies := ds } p q
  rw [farClose_of_idle q ((congrArg FabricP.farSent (hkept p)).trans hfar), hps]
  exact ⟨(qp?_congr q rfl).trans herr, rfl⟩

/-- A link counts as lost, and its port's record reaches the logbook (R267). -/
def State.noteLinkLost (s : State) (port brk : Nat) (l : LinkSt) : State :=
  ({ s with links := aset s.links (port, brk) { l with lost := true } } : State).log .portDown (srcDie (port / 2)) (subject (some (port / 2)) 1 (port % 2) brk 0 [])

/-- The record changes the logbook alone. -/
theorem noteLinkLost_frame (s : State) (port brk : Nat) (l : LinkSt) :
    ∃ v, s.noteLinkLost port brk l = { s with links := aset s.links (port, brk) { l with lost := true }, svc := v } := (log_frame _ _ _ _).svc

/-- The QPs of a port or breakout enter ERROR with LINK_LOST (R267). -/
def State.failQpsOf (s : State) (p port brk : Nat) : State :=
  ((s.rd (port / 2)).qps.filter (fun e => e.2.port == port % 2 && e.2.brk == brk)).foldl (fun s e => s.qpError p e.2.qpn e.2.epsn 0x34) s

/-- The effect of LINK_LOST on a link that has been down for 10 s, while nothing waits in the queue that would bring it up (R267). -/
theorem exec_linkLost_of_due {t port brk n p : Nat} {s : State} {l : LinkSt} (hl : aget s.links (port, brk) = some l) (hpend : s.pending = []) (hup : l.up = false)
    (hlost : l.lost = false) (hsince : l.downSince = some n) (hdue : n + 10 * cS ≤ decided t s) (hp : s.partOfDie (port / 2) = some p) :
    exec (.linkLost t port brk) s = run t s (fun u => (u.noteLinkLost port brk l).failQpsOf p port brk) := by
  show execLinkLost t port brk s = _
  unfold execLinkLost timer
  refine run_congr ?_
  have hsooner : [Awaited.linkUp port brk].any (s.upTo t).sooner = false := by simp [State.sooner, hpend]
  have hgate : (l.up || l.lost || !due (s.upTo t) n (10 * cS)) = false := by simp [hup, hlost, due, hdue]
  have hpart : ((s.upTo t).noteLinkLost port brk l).partOfDie (port / 2) = some p := by
    obtain ⟨v, hv⟩ := noteLinkLost_frame (s.upTo t) port brk l
    rw [hv]
    exact (partOfDie_congr _ rfl rfl rfl).trans hp
  unfold State.noteLinkLost at hpart ⊢
  simp only [hsooner, State.upTo_links, hl, hsince, hgate, Bool.false_eq_true, if_false] at hpart ⊢
  rw [hpart]
  rfl

/-- Of a die whose one QP is READY on the port or breakout, that QP is in ERROR afterwards, and the links are as they were. -/
theorem failQpsOf_single {s : State} {p port brk : Nat} {q : Qp} (hqps : (s.rd (port / 2)).qps = [(qpnSlot q.qpn, q)]) (hdie : qpnDie q.qpn = port / 2)
    (hport : q.port = port % 2) (hbrk : q.brk = brk) (hready : q.state = .ready) (hpair : (s.twin p).paired = false) (hfar : (s.fabric p).farSent = []) :
    (s.failQpsOf p port brk).qp? q.qpn = some (q.inError 0x34 s.now) ∧ (s.failQpsOf p port brk).links = s.links := by
  have hlive : s.qp? q.qpn = some q := qp?_eq_some.mpr ⟨by rw [hdie, hqps, aget_cons, if_pos rfl], rfl, by rw [hready]; exact QpState.noConfusion⟩
  have hone : s.failQpsOf p port brk = s.qpError p q.qpn q.epsn 0x34 := by simp [State.failQpsOf, hqps, hport, hbrk]
  rw [hone]
  exact qpError_linkLost_inError q.epsn hlive hready hpair hfar

/-- Settles O37, link by link: each kind's command has its effect, and the rest of it lies outside what the statement names. -/
theorem links : Obligations.Links := by
  unfold Obligations.Links
  intro t s hpkg
  refine ⟨fun a b port n D E hD hb hba hE hup hn => ⟨meshLinkRetrain_success hpkg hD hb hup hn, ?_⟩, fun d D hD hup hlost hp => serviceLink_fails hpkg hD hup hlost hp,
    fun port brk l hl => ⟨linkDown_answers hl, ?_, linkUp_answers hpkg⟩⟩
  · rintro ⟨q, hq, hne, hqup, hqb⟩
    exact meshLinkRetrain_failure hpkg hD hb hba hE hup hn hq hne hqup hqb
  · intro n p q hpend hup hlost hsince hdue hp hqps hdie hport hbrk hready hpair hfar
    obtain ⟨v, hv⟩ := noteLinkLost_frame (s.upTo t) port brk l
    obtain ⟨hqp, hlinks⟩ := failQpsOf_single (s := { s.upTo t with links := aset s.links (port, brk) { l with lost := true }, svc := v }) hqps hdie hport hbrk hready
      hpair hfar
    refine answers_of_run (exec_linkLost_of_due hl hpend hup hlost hsince hdue hp) ?_
    rw [hv]
    exact ⟨(congrArg (aget · (port, brk)) hlinks).trans (aget_aset_same _ _ _),
      congrArg (Option.map fun y => (y.state, y.errCause, y.errStamp)) ((qp?_congr _ rfl).trans hqp)⟩

end Sys2Proof.Machine
end

section
/-! SUPPORT. Commands that name a partition and meet no failure, and what a partition at rest settles (R59, R61, R725, R795). -/
namespace Sys2Proof.Machine
open Sys2Proof

/-! ### Membership of a table by key -/

theorem aget_isSome_iff {κ α : Type} [DecidableEq κ] {l : List (κ × α)} {k : κ} : (aget l k).isSome = true ↔ ∃ e ∈ l, e.1 = k := by simp [aget]

theorem mem_of_aget {κ α : Type} [DecidableEq κ] {l : List (κ × α)} {k : κ} {v : α} (h : aget l k = some v) : (k, v) ∈ l := by
  obtain ⟨⟨j, w⟩, hfind, rfl⟩ := Option.map_eq_some_iff.mp h
  have hj : j = k := by simpa using List.find?_some hfind
  exact hj ▸ List.mem_of_find?_eq_some hfind

/-- A run of consecutive keys with one value. -/
theorem aget_consecutive {α : Type} (first n b : Nat) (v : α) :
    aget ((List.range n).map (fun i => (first + i, v))) b = if first ≤ b ∧ b < first + n then some v else none := by
  induction n with
  | zero => rw [if_neg (by omega)]; rfl
  | succ n ih =>
    rw [List.range_succ, List.map_append, aget_append, ih, List.map_singleton, aget_cons, aget_nil]
    by_cases hb : first ≤ b ∧ b < first + n
    · rw [if_pos hb, Option.some_or, if_pos ⟨hb.1, by omega⟩]
    · by_cases he : first + n = b
      · rw [if_neg hb, if_pos he, if_pos (by omega), Option.none_or]
      · rw [if_neg hb, if_neg he, if_neg (by omega), Option.none_or]

/-! ### One partition of the table, and its storage -/

theorem part?_modPart_same (s : State) (p : Nat) (f : Part → Part) : (s.modPart p f).part? p = (s.part? p).map f := aget_aupd_same s.parts p f

/-- A change of a partition's storage reaches a partition that stands. -/
theorem store_modStore {s : State} {p : Nat} (f : StoreP → StoreP) (h : s.hasPart p = true) : (s.modStore p f).store p = f (s.store p) := by
  obtain ⟨P, hP⟩ := Option.isSome_iff_exists.mp h
  have hQ := part?_modPart_same s p (fun P => { P with store := f P.store })
  rw [hP] at hQ
  unfold State.store
  rw [State.modStore_eq, hQ, hP]
  rfl

theorem hasPart_modStore (s : State) (p : Nat) (f : StoreP → StoreP) : (s.modStore p f).hasPart p = s.hasPart p := by
  unfold State.hasPart
  rw [State.modStore_eq, part?_modPart_same, Option.isSome_map]

/-- What a change of the storage leaves of it stands, also where no partition has the number. -/
theorem store_modStore_kept {α : Type} (v : StoreP → α) (s : State) (p : Nat) {f : StoreP → StoreP} (h : ∀ S, v (f S) = v S) : v ((s.modStore p f).store p) = v (s.store p) := by
  unfold State.store
  rw [State.modStore_eq, part?_modPart_same]
  cases s.part? p with
  | none => rfl
  | some P => exact h P.store

/-- What every change by `f` brings about in the storage holds afterwards, if it holds of a storage that was never built. -/
theorem store_modStore_of {C : StoreP → Prop} (s : State) (p : Nat) {f : StoreP → StoreP} (h : ∀ S, C (f S)) (hreset : C StoreP.reset) : C ((s.modStore p f).store p) := by
  unfold State.store
  rw [State.modStore_eq, part?_modPart_same]
  cases s.part? p with
  | none => exact hreset
  | some P => exact h P.store

/-- A tracked page that has changed leaves the brick map (R372). -/
@[simp] theorem brick?_track (s : State) (p table entry b : Nat) : ((s.track p table entry).store p).brick? b = (s.store p).brick? b :=
  store_modStore_kept (·.brick? b) s p fun _ => rfl

theorem brick?_modBrick_same (s : State) (p b : Nat) (f : Brick → Brick) : ((s.modBrick p b f).store p).brick? b = ((s.store p).brick? b).map f := by
  unfold State.modBrick State.store
  rw [State.modStore_eq, part?_modPart_same]
  cases s.part? p with
  | none => rfl
  | some P => exact aget_aupd_same P.store.bricks b f

theorem brick?_modBrick_other (s : State) (p : Nat) {a b : Nat} (f : Brick → Brick) (h : b ≠ a) : ((s.modBrick p a f).store p).brick? b = (s.store p).brick? b :=
  store_modStore_kept (·.brick? b) s p fun S => aget_aupd_other S.bricks f h

theorem KeepsButPart.foldl {α : Type} {p : Nat} {f : State → α → State} (h : ∀ s a, KeepsButPart p s (f s a)) (l : List α) (s : State) : KeepsButPart p s (l.foldl f s) := by
  induction l generalizing s with
  | nil => exact .rfl
  | cons a l ih => exact (h s a).trans (ih (f s a))

/-- The bricks of a range that are allocated are those that the brick map has. -/
theorem mem_allocatedIn {S : StoreP} {first n b : Nat} : b ∈ S.allocatedIn first n ↔ first ≤ b ∧ b < first + n ∧ (S.brick? b).isSome = true := by
  unfold StoreP.allocatedIn StoreP.brick?
  rw [aget_isSome_iff]
  constructor
  · intro h
    obtain ⟨e, he, rfl⟩ := List.mem_map.mp h
    simp only [List.mem_filter, Bool.and_eq_true, decide_eq_true_eq] at he
    exact ⟨he.2.1, he.2.2, e, he.1, rfl⟩
  · rintro ⟨hlo, hhi, e, he, rfl⟩
    exact List.mem_map.mpr ⟨e, by simp [he, hlo, hhi], rfl⟩

/-! ### Commands that name a partition (R727, R729, R795) -/

theorem hasPart_of_inMode {s : State} {p : Nat} {ms : List Mode} (h : s.inMode p ms = true) : s.hasPart p = true := by
  simp only [State.inMode, Bool.and_eq_true] at h
  exact h.1.2

/-- What an admitted command has: its outcome can be held, and the partition stands in one of the modes and is its port's. -/
theorem admits_iff {s : State} {c : CmdRef} {p : Nat} {ms : List Mode} : s.admits c p ms = true ↔ s.canEnd c = true ∧ s.inMode p ms = true ∧ s.owns c p = true := by
  simp [State.admits, and_assoc]

/-- A partition in SERVE or SOLO is in one of the modes that also permit SERVICE. -/
theorem inMode_open_of_serving {s : State} {p : Nat} (h : s.inMode p modesServing = true) : s.inMode p modesOpen = true := by
  simp only [State.inMode, modesServing, modesOpen, Bool.and_eq_true, List.contains_eq_mem, List.mem_cons, List.not_mem_nil, or_false, decide_eq_true_eq] at h ⊢
  exact ⟨h.1, h.2.imp_right .inl⟩

/-- An admitted command without a failure of its own has its effect; its completion may be held back (R373, R795). -/
theorem partCmd_of_admitted {s : State} {c : CmdRef} {op p : Nat} {ms : List Mode} {bad : Bool} {fails : List (Bool × Status)} (effect : State → State)
    (ha : s.admits c p ms = true) (hbad : bad = false) (hfails : firstFail fails = none) : ∃ hs, s.partCmd c op p bad fails effect = { effect s with heldEnds := hs } := by
  obtain ⟨hend, hmode, hown⟩ := admits_iff.mp ha
  have hnv : c.nvFails < 2 := by
    simp only [State.canEnd, Bool.and_eq_true, decide_eq_true_eq] at hend
    exact hend.2
  have hnone : firstFail ([(bad, .badField), (!s.hasPart p, .badPartition), (!s.owns c p, .notOwner)] ++ fails) = none := by
    simp [firstFail, hbad, hasPart_of_inMode hmode, hown, hfails]
  unfold State.partCmd
  rw [hnone]
  simp only [State.nvOutcome, hnv, decide_true, Bool.true_or, if_true]
  unfold State.holdEnd
  dsimp only
  split
  · exact ⟨_, rfl⟩
  · exact ⟨(effect s).heldEnds, rfl⟩

/-- An admitted command without a failure of its own answers with its effect, committed. -/
theorem answers_of_partCmd {i : Instr} {t op p : Nat} {c : CmdRef} {ms : List Mode} {bad : Bool} {fails : State → List (Bool × Status)} {effect : State → State → State}
    {s u : State} {Q : State → Prop} (hc : exec i s = run t s (fun s => s.partCmd c op p bad (fails s) (effect s))) (ha : s.admits c p ms = true) (hbad : bad = false)
    (hfails : firstFail (fails (s.upTo t)) = none) (heff : effect (s.upTo t) (s.upTo t) = u) (hq : ∀ hs, Q (commit s (decided t s) { u with heldEnds := hs })) : Answers i s Q := by
  obtain ⟨hs, hp⟩ := partCmd_of_admitted (s := s.upTo t) (op := op) (effect (s.upTo t)) ha hbad hfails
  refine answers_of_run hc ?_
  rw [hp, heff]
  exact hq hs

/-- A command's end is its outcome behind those that waited, and nothing else (R721). -/
theorem finishWith_ends {s u : State} {c : CmdRef} (op : Nat) (st : Status) (b : List Byte) (g : Bool) (hports : u.ports = s.ports) (hsvc : u.svc = s.svc)
    (hend : s.canEnd c = true) : ∃ ps m, u.finishWith c op st 0 b g = { u with ports := ps, svc := { u.svc with sideband := m } } ∧ EndsAs s (u.finishWith c op st 0 b g) c op st b g := by
  obtain ⟨ps, m, hframe⟩ := finishWith_frame u c op st 0 b g
  refine ⟨ps, m, hframe, (finishWith_outcomes u c op st b g ?_).trans ?_⟩
  · unfold State.canEnd at hend ⊢
    rwa [hports]
  · unfold State.outcomes
    rw [hports, hsvc]

/-! ### A partition at rest -/

/-- Nothing of a partition waits to be settled: it has no twin, no operation in flight, no stream from another package and no revocation. -/
structure State.AtRest (s : State) (p : Nat) : Prop where
  unpaired : (s.twin p).paired = false
  ops : (s.remote p).ops = []
  streams : (s.fabric p).farStreams = []
  revoking : (s.remote p).windows.all (fun e => e.2.revoking.isNone) = true

theorem still_iff {s : State} {p : Nat} : s.still p = true ↔ s.AtRest p ∧ s.running = [] := by
  simp only [State.still, Bool.and_eq_true, Bool.not_eq_true', List.isEmpty_iff]
  exact ⟨fun ⟨⟨⟨⟨ht, ho⟩, hf⟩, hw⟩, hr⟩ => ⟨⟨ht, ho, hf, hw⟩, hr⟩, fun ⟨⟨ht, ho, hf, hw⟩, hr⟩ => ⟨⟨⟨⟨ht, ho⟩, hf⟩, hw⟩, hr⟩⟩

/-- No CLEAR_LOST is under way. -/
def State.clearsNothing (s : State) : Prop := ∀ r ∈ s.running, ∀ q b g e, r.op ≠ .clearLost q b g e

theorem clearLosts_of_clearsNothing {s : State} (p : Nat) (h : s.clearsNothing) : s.clearLosts p = s := by
  have hnil : s.running.filterMap (fun r => match r.op with | .clearLost q b g e => if q == p then some (b, g, e) else none | _ => none) = [] := by
    rw [List.filterMap_eq_nil_iff]
    intro r hr
    split
    · exact absurd ‹_› (h r hr _ _ _ _)
    · rfl
  unfold State.clearLosts
  exact congrArg (List.foldl _ s) hnil

theorem twinSettle_of_atRest {s : State} {p : Nat} (h : s.AtRest p) : s.twinSettle p = s := by simp [State.twinSettle, h.unpaired]

theorem forwardHeld_of_atRest {s : State} {p : Nat} (h : s.AtRest p) : s.forwardHeld p = s := by simp [State.forwardHeld, h.ops]

theorem serveReads_of_atRest {s : State} {p : Nat} (h : s.AtRest p) : s.serveReads p = s := by simp [State.serveReads, h.ops]

theorem settleFar_of_atRest {s : State} {p : Nat} (h : s.AtRest p) : s.settleFar p = s := by simp [State.settleFar, State.farFlushes, h.ops, farCloses_of_none s p h.streams]

/-- At rest, with no CLEAR_LOST under way, there is nothing to settle. -/
theorem settle_of_atRest {s : State} {p : Nat} (h : s.AtRest p) (hc : s.clearsNothing) : s.settle p = s := by
  rw [State.settle, twinSettle_of_atRest h, forwardHeld_of_atRest h, serveReads_of_atRest h, settleFar_of_atRest h, finishRevokes_of_none s p h.revoking, clearLosts_of_clearsNothing p hc]

/-! ### Changes of a partition's frames, charges and brick map -/

/-- From one state of a partition to the next its storage and its charges alone have changed; no operation has come to wait for a frame, and the bricks that `K`
picks stand in the brick map as they did. -/
structure Part.Stores (K : Nat → Prop) (P Q : Part) : Prop where
  twin : Q.twin = P.twin
  fabric : Q.fabric = P.fabric
  ops : Q.remote.ops = P.remote.ops
  windows : Q.remote.windows = P.remote.windows
  waits : P.store.frameWaits = [] → Q.store.frameWaits = []
  bricks : ∀ b, K b → Q.store.brick? b = P.store.brick? b

theorem Part.Stores.rfl {K : Nat → Prop} {P : Part} : Part.Stores K P P := ⟨Eq.refl _, Eq.refl _, Eq.refl _, Eq.refl _, id, fun _ _ => Eq.refl _⟩

theorem Part.Stores.trans {K : Nat → Prop} {P Q R : Part} (h : Part.Stores K P Q) (k : Part.Stores K Q R) : Part.Stores K P R :=
  ⟨k.twin.trans h.twin, k.fabric.trans h.fabric, k.ops.trans h.ops, k.windows.trans h.windows, k.waits ∘ h.waits, fun b hb => (k.bricks b hb).trans (h.bricks b hb)⟩

/-- Only the storage and the charges of one partition and the lost-page list differ, and the bricks that `K` picks stand as they did. -/
def KeepsButStorage (p : Nat) (K : Nat → Prop) (s u : State) : Prop :=
  ∃ f N, u = { s.modPart p f with storeNv := N } ∧ N.objects = s.storeNv.objects ∧ ∀ P, Part.Stores K P (f P)

namespace KeepsButStorage
variable {p : Nat} {K : Nat → Prop} {s u v : State}

theorem rfl : KeepsButStorage p K s s := ⟨id, _, by simp [State.modPart, aupd_id], Eq.refl _, fun _ => .rfl⟩

theorem trans (h : KeepsButStorage p K s u) (k : KeepsButStorage p K u v) : KeepsButStorage p K s v := by
  obtain ⟨f, N, rfl, hN, hf⟩ := h
  obtain ⟨g, M, rfl, hM, hg⟩ := k
  exact ⟨fun P => g (f P), M, by simp [State.modPart, aupd_aupd], hM.trans hN, fun P => (hf P).trans (hg (f P))⟩

theorem mono {L : Nat → Prop} (hL : ∀ b, L b → K b) (h : KeepsButStorage p K s u) : KeepsButStorage p L s u := by
  obtain ⟨f, N, rfl, hN, hf⟩ := h
  exact ⟨f, N, Eq.refl _, hN, fun P => { hf P with bricks := fun b hb => (hf P).bricks b (hL b hb) }⟩

theorem foldl {α : Type} {f : State → α → State} {l : List α} (h : ∀ s, ∀ a ∈ l, KeepsButStorage p K s (f s a)) (s : State) : KeepsButStorage p K s (l.foldl f s) := by
  induction l generalizing s with
  | nil => exact .rfl
  | cons a l ih => exact (h s a List.mem_cons_self).trans (ih (fun s b hb => h s b (List.mem_cons_of_mem a hb)) (f s a))

/-- What is kept of a partition stands also where no partition has the number. -/
theorem stores (h : KeepsButStorage p K s u) : s.part? p = none ∧ u.part? p = none ∨ ∃ P Q, s.part? p = some P ∧ u.part? p = some Q ∧ Part.Stores K P Q := by
  obtain ⟨f, N, rfl, -, hf⟩ := h
  have hu : ({ s.modPart p f with storeNv := N } : State).part? p = (s.part? p).map f := part?_modPart_same s p f
  cases hP : s.part? p with
  | none => exact .inl ⟨Eq.refl _, by rw [hu, hP]; rfl⟩
  | some P => exact .inr ⟨P, f P, Eq.refl _, by rw [hu, hP]; rfl, hf P⟩

theorem brick? {b : Nat} (h : KeepsButStorage p K s u) (hb : K b) : (u.store p).brick? b = (s.store p).brick? b := by
  unfold State.store
  obtain ⟨hs, hu⟩ | ⟨P, Q, hs, hu, hPQ⟩ := h.stores
  · rw [hs, hu]
  · rw [hs, hu]; exact hPQ.bricks b hb

theorem frameWaits (h : KeepsButStorage p K s u) (hw : (s.store p).frameWaits = []) : (u.store p).frameWaits = [] := by
  unfold State.store at *
  obtain ⟨hs, hu⟩ | ⟨P, Q, hs, hu, hPQ⟩ := h.stores
  · rw [hs] at hw; rw [hu]; exact hw
  · rw [hs] at hw; rw [hu]; exact hPQ.waits hw

theorem atRest (h : KeepsButStorage p K s u) (hr : s.AtRest p) : u.AtRest p := by
  obtain ⟨ht, ho, hf, hw⟩ := hr
  unfold State.twin State.remote State.fabric at *
  obtain ⟨hs, hu⟩ | ⟨P, Q, hs, hu, hPQ⟩ := h.stores
  · rw [hs] at ht ho hf hw
    constructor <;> simpa only [State.twin, State.remote, State.fabric, hu]
  · rw [hs] at ht ho hf hw
    constructor <;> simpa only [State.twin, State.remote, State.fabric, hu, hPQ.twin, hPQ.ops, hPQ.fabric, hPQ.windows]

theorem now (h : KeepsButStorage p K s u) : u.now = s.now := by obtain ⟨f, N, rfl, -, -⟩ := h; rfl
theorem dies (h : KeepsButStorage p K s u) : u.dies = s.dies := by obtain ⟨f, N, rfl, -, -⟩ := h; rfl
theorem sec (h : KeepsButStorage p K s u) : u.sec = s.sec := by obtain ⟨f, N, rfl, -, -⟩ := h; rfl
theorem running (h : KeepsButStorage p K s u) : u.running = s.running := by obtain ⟨f, N, rfl, -, -⟩ := h; rfl
theorem objects (h : KeepsButStorage p K s u) : u.storeNv.objects = s.storeNv.objects := by obtain ⟨f, N, rfl, hN, -⟩ := h; exact hN

end KeepsButStorage

theorem modPart_storage (s : State) {p : Nat} {K : Nat → Prop} {f : Part → Part} (h : ∀ P, Part.Stores K P (f P)) : KeepsButStorage p K s (s.modPart p f) :=
  ⟨f, s.storeNv, rfl, rfl, h⟩

/-- A change of the storage that keeps the waits for frames and the bricks that `K` picks. -/
theorem modStore_storage (s : State) {p : Nat} {K : Nat → Prop} {f : StoreP → StoreP} (hw : ∀ S, S.frameWaits = [] → (f S).frameWaits = [])
    (hb : ∀ S b, K b → (f S).brick? b = S.brick? b) : KeepsButStorage p K s (s.modStore p f) :=
  modPart_storage s fun P => ⟨rfl, rfl, rfl, rfl, hw P.store, hb P.store⟩

theorem setStoreNv_storage (s : State) {N : StoreNv} (p : Nat) (K : Nat → Prop) (h : N.objects = s.storeNv.objects) : KeepsButStorage p K s { s with storeNv := N } :=
  ⟨id, N, by simp [State.modPart, aupd_id], h, fun _ => .rfl⟩

theorem track_storage (s : State) (p table entry : Nat) (K : Nat → Prop) : KeepsButStorage p K s (s.track p table entry) := modStore_storage s (fun _ h => h) (fun _ _ _ => rfl)

theorem release_storage (s : State) (p n : Nat) (K : Nat → Prop) : KeepsButStorage p K s (s.release p n) := modPart_storage s fun _ => ⟨rfl, rfl, rfl, rfl, id, fun _ _ => rfl⟩

/-- Frames that fall due to the metadata move within their course (R285). -/
theorem takeMeta_storage (s : State) (p : Nat) (K : Nat → Prop) : KeepsButStorage p K s (s.takeMeta p) := by
  unfold State.takeMeta
  refine .foldl (fun s e _ => .foldl (fun s i _ => ?_) s) s
  split
  · split
    · exact .rfl
    · exact modStore_storage s (fun _ h => h) (fun _ _ _ => rfl)
  · exact .rfl

/-- A frame that is given back leaves every other brick as it stands (R225). -/
theorem dropFrame_storage (s : State) (p a : Nat) (retire : Bool) : KeepsButStorage p (· ≠ a) s (s.dropFrame p a retire) := by
  unfold State.dropFrame
  dsimp only
  split
  · exact .rfl
  · split
    · exact .rfl
    · refine (modStore_storage s ?_ ?_).trans (release_storage _ p _ _)
      · exact fun _ h => h
      · intro S b hb
        dsimp only [StoreP.brick?]
        exact aget_aupd_other S.bricks _ hb

/-- At rest and with nothing waiting for a frame, another try for frames moves metadata frames alone (R289). -/
theorem retryFrames_storage {s : State} {p : Nat} (K : Nat → Prop) (hr : s.AtRest p) (hw : (s.store p).frameWaits = []) (hc : s.clearsNothing) :
    KeepsButStorage p K s (s.retryFrames p) := by
  have hm := takeMeta_storage s p K
  have hc' : (s.takeMeta p).clearsNothing := fun r hr => hc r (hm.running ▸ hr)
  unfold State.retryFrames
  dsimp only
  rw [hm.frameWaits hw, List.foldl_nil, twinSettle_of_atRest (hm.atRest hr), clearLosts_of_clearsNothing p hc']
  refine hm.trans (modStore_storage _ (fun S h => ?_) fun _ _ _ => rfl)
  exact congrArg (List.filter _) h

end Sys2Proof.Machine
end

section
/-! SUPPORT. The object commands: what each leaves of the brick map, the object records and the hampers (R59, R61, R273, R276, R298). -/
namespace Sys2Proof.Machine
open Sys2Proof

/-! ### REGISTER_OBJECT (R59, R273) -/

/-- The pages of the brick map that a new range of bricks touches are tracked (R372). -/
def State.trackRange (s : State) (p first n : Nat) : State :=
  (List.range (n / 512 + 2)).foldl (fun s i => if first / 512 + i ≤ (first + n - 1) / 512 then s.track p 3 (first / 512 + i) else s) s

/-- The object that a REGISTER_OBJECT asks for. -/
def objectAsked (o : ObjReq) (p : Nat) : Object :=
  { part := p, first := o.first.toNat, bricks := o.bricks.toNat, placement := o.placement.toNat, tenant := o.tenant.toNat, courses := o.courses.toNat, removed := false,
    freeing := none }

/-- The record of an object (R273). -/
def State.recordObject (s : State) (id : Nat) (x : Object) : State := { s with storeNv := { s.storeNv with objects := aset s.storeNv.objects id x } }

/-- The bricks of an object allocated (R59). -/
def State.allocate (s : State) (id : Nat) (x : Object) : State :=
  (s.modStore x.part (fun S => { S with bricks := S.bricks ++ (List.range x.bricks).map (fun i => (x.first + i, newBrick x.tenant x.placement id)) })).trackRange
    x.part x.first x.bricks

theorem trackRange_frame (s : State) (p first n : Nat) : KeepsButPart p s (s.trackRange p first n) := by
  refine KeepsButPart.foldl (fun s i => ?_) _ s
  split
  · exact track_frame s p 3 _
  · exact .rfl

theorem brick?_trackRange (s : State) (p first n b : Nat) : ((s.trackRange p first n).store p).brick? b = (s.store p).brick? b := by
  refine KeepsButStorage.brick? (K := fun _ => True) (KeepsButStorage.foldl (fun s i _ => ?_) s) trivial
  split
  · exact track_storage s p 3 _ _
  · exact .rfl

/-- An allocation changes the partition alone. -/
theorem allocate_frame (s : State) (id : Nat) (x : Object) : KeepsButPart x.part s (s.allocate id x) := (modStore_frame s x.part _).trans (trackRange_frame _ _ _ _)

/-- An allocation adds new bricks behind those that stand. -/
theorem brick?_allocate {s : State} {id : Nat} {x : Object} (b : Nat) (h : s.hasPart x.part = true) : ((s.allocate id x).store x.part).brick? b =
    ((s.store x.part).brick? b).or (if x.first ≤ b ∧ b < x.first + x.bricks then some (newBrick x.tenant x.placement id) else none) := by
  unfold State.allocate
  rw [brick?_trackRange, store_modStore _ h]
  unfold StoreP.brick?
  rw [aget_append, aget_consecutive]

/-- A range without a brick is allocated whole. -/
theorem brick?_allocate_inside {s : State} {id b : Nat} {x : Object} (h : s.hasPart x.part = true) (hfree : (s.store x.part).allocatedIn x.first x.bricks = [])
    (hlo : x.first ≤ b) (hhi : b < x.first + x.bricks) : ((s.allocate id x).store x.part).brick? b = some (newBrick x.tenant x.placement id) := by
  have hnone : (s.store x.part).brick? b = none := by
    refine Option.not_isSome_iff_eq_none.mp fun hsome => ?_
    have hmem := mem_allocatedIn.mpr ⟨hlo, hhi, hsome⟩
    exact List.not_mem_nil (hfree ▸ hmem)
  rw [brick?_allocate b h, hnone, if_pos ⟨hlo, hhi⟩, Option.none_or]

theorem brick?_allocate_outside {s : State} {id b : Nat} {x : Object} (h : s.hasPart x.part = true) (hb : ¬(x.first ≤ b ∧ b < x.first + x.bricks)) :
    ((s.allocate id x).store x.part).brick? b = (s.store x.part).brick? b := by
  rw [brick?_allocate b h, if_neg hb, Option.or_none]

/-- The failures of a REGISTER_OBJECT's own, in order (R273, R795). -/
def State.registerFailures (s : State) (p : Nat) (o : ObjReq) : List (Bool × Status) :=
  [(!s.inMode p modesOpen, .mode), (!s.inBricks p o.first.toNat o.bricks.toNat, .badRange), (!((s.store p).allocatedIn o.first.toNat o.bricks.toNat).isEmpty, .inUse),
   ((aget (s.remote p).tenants o.tenant.toNat).isNone, .badTenant),
   (o.courses.toNat != 0 && !(List.range 16).any (fun k => bit o.courses.toNat k && (s.rec? 2 p k).isSome), .badCourse), (s.freeObject.isNone, .tableFull)]

theorem registerFailures_none {s : State} {p id : Nat} {o : ObjReq} (hmode : s.inMode p modesServing = true)
    (hcourses : o.courses.toNat = 0 ∨ (List.range 16).any (fun k => bit o.courses.toNat k && (s.rec? 2 p k).isSome) = true)
    (hin : s.inBricks p o.first.toNat o.bricks.toNat = true) (hfree : (s.store p).allocatedIn o.first.toNat o.bricks.toNat = [])
    (htenant : (aget (s.remote p).tenants o.tenant.toNat).isSome = true) (hid : s.freeObject = some id) : firstFail (s.registerFailures p o) = none := by
  have hmask : (o.courses.toNat != 0 && !(List.range 16).any (fun k => bit o.courses.toNat k && (s.rec? 2 p k).isSome)) = false := by
    rcases hcourses with h | h
    · rw [h]; rfl
    · rw [h]; exact Bool.and_false _
  have hten : (aget (s.remote p).tenants o.tenant.toNat).isNone = false := by rw [← Option.not_isSome, htenant]; rfl
  simp only [State.registerFailures, firstFail, inMode_open_of_serving hmode, hin, hfree, hten, hmask, hid, Bool.not_true, List.isEmpty_nil, Option.isNone_some,
    Bool.false_eq_true, if_false]

theorem exec_registerObject (t : Nat) (c : CmdRef) (p : Nat) (o : ObjReq) (s : State) : exec (.registerObject t c p o) s =
    run t s (fun s => s.partCmd c 0x401 p (o.bricks.toNat == 0 || decide (8388608 < o.bricks.toNat) || o.placement == 3) (s.registerFailures p o)
      (fun s => ((s.recordObject (s.freeObject.getD 0) (objectAsked o p)).allocate (s.freeObject.getD 0) (objectAsked o p)).finishWith c 0x401 .ok 0 (natLE 4 (s.freeObject.getD 0)) true)) := rfl

theorem registerObject_answers {t p id : Nat} {c : CmdRef} {s : State} {o : ObjReq} (ha : s.admits c p modesServing = true) (hn : o.bricks ≠ 0)
    (hmax : o.bricks.toNat ≤ 8388608) (hpl : o.placement ≠ 3)
    (hcourses : o.courses.toNat = 0 ∨ (List.range 16).any (fun k => bit o.courses.toNat k && (s.rec? 2 p k).isSome) = true)
    (hin : s.inBricks p o.first.toNat o.bricks.toNat = true) (hfree : (s.store p).allocatedIn o.first.toNat o.bricks.toNat = [])
    (htenant : (aget (s.remote p).tenants o.tenant.toNat).isSome = true) (hid : s.freeObject = some id) :
    Answers (.registerObject t c p o) s (fun u => EndsAs s u c 0x401 .ok (natLE 4 id) true ∧ u.dies = s.dies ∧ u.sec = s.sec ∧
      aget u.storeNv.objects id = some (objectAsked o p) ∧
      (∀ b, o.first.toNat ≤ b → b < o.first.toNat + o.bricks.toNat → (u.store p).brick? b = some (newBrick o.tenant.toNat o.placement.toNat id)) ∧
      ∀ b, ¬(o.first.toNat ≤ b ∧ b < o.first.toNat + o.bricks.toNat) → (u.store p).brick? b = (s.store p).brick? b) := by
  obtain ⟨hend, hmode, -⟩ := admits_iff.mp ha
  have hbad : (o.bricks.toNat == 0 || decide (8388608 < o.bricks.toNat) || o.placement == 3) = false := by
    have h0 : o.bricks.toNat ≠ 0 := fun h => hn (BitVec.eq_of_toNat_eq h)
    rw [beq_eq_false_iff_ne.mpr h0, decide_eq_false (Nat.not_lt.mpr hmax), beq_eq_false_iff_ne.mpr hpl]
    rfl
  have hid' : (s.upTo t).freeObject = some id := hid
  have hpart : ((s.upTo t).recordObject id (objectAsked o p)).hasPart (objectAsked o p).part = true := hasPart_of_inMode hmode
  have hinside := fun b => brick?_allocate_inside (id := id) (b := b) hpart hfree
  have houtside := fun b => brick?_allocate_outside (id := id) (b := b) hpart
  have hrec : aget ((s.upTo t).recordObject id (objectAsked o p)).storeNv.objects id = some (objectAsked o p) := aget_aset_same _ _ _
  obtain ⟨f, hf⟩ := allocate_frame ((s.upTo t).recordObject id (objectAsked o p)) id (objectAsked o p)
  rw [hf] at hinside houtside
  obtain ⟨qs, m, hfin, hends⟩ := finishWith_ends (s := s) (u := ((s.upTo t).recordObject id (objectAsked o p)).modPart p f) 0x401 .ok (natLE 4 id) true rfl rfl hend
  refine answers_of_partCmd (exec_registerObject t c p o s) ha hbad (registerFailures_none (s := s.upTo t) hmode hcourses hin hfree htenant hid) ?_ fun hs => ⟨hends, ?_⟩
  · rw [hid', Option.getD_some, hf]; rfl
  · rw [hfin]
    exact ⟨rfl, rfl, hrec, hinside, houtside⟩

/-! ### UNREGISTER_OBJECT (R61, R273, R377) -/

/-- A freed brick has given its frame back, is off the brick map and the lost-page list, and its page of the map is tracked (R61, R225). -/
theorem freeBrick_eq (s : State) (p a : Nat) : ∃ f N, s.freeBrick p a = ({ (s.dropFrame p a false).modStore p f with storeNv := N } : State).track p 3 (a / 512) ∧
    N.objects = ((s.dropFrame p a false).modStore p f).storeNv.objects ∧ ∀ S, (f S).frameWaits = S.frameWaits ∧ (f S).bricks = adel S.bricks a :=
  ⟨_, _, rfl, rfl, fun _ => ⟨rfl, rfl⟩⟩

/-- A freed brick leaves the others as they stand. -/
theorem freeBrick_storage (s : State) (p a : Nat) : KeepsButStorage p (· ≠ a) s (s.freeBrick p a) := by
  obtain ⟨f, N, heq, hN, hf⟩ := freeBrick_eq s p a
  rw [heq]
  refine (dropFrame_storage s p a false).trans ((modStore_storage _ ?_ ?_).trans ((setStoreNv_storage _ p _ hN).trans (track_storage _ p 3 _ _)))
  · exact fun S h => (hf S).1.trans h
  · intro S b hb
    rw [StoreP.brick?, (hf S).2]
    exact aget_adel_other S.bricks hb

theorem brick?_freeBrick (s : State) (p a : Nat) : ((s.freeBrick p a).store p).brick? a = none := by
  obtain ⟨f, N, heq, -, hf⟩ := freeBrick_eq s p a
  rw [heq, brick?_track]
  refine store_modStore_of (C := fun S => S.brick? a = none) (s.dropFrame p a false) p (f := f) (fun S => ?_) rfl
  rw [StoreP.brick?, (hf S).2]
  exact aget_adel_same S.bricks a

/-- Freeing bricks one after another leaves the others as they stand. -/
theorem freeBricks_storage (s : State) (p : Nat) (l : List Nat) : KeepsButStorage p (· ∉ l) s (l.foldl (fun s b => s.freeBrick p b) s) :=
  .foldl (fun s a ha => (freeBrick_storage s p a).mono fun b (hb : b ∉ l) (h : b = a) => hb (h ▸ ha)) s

theorem brick?_freeBricks {p b : Nat} {l : List Nat} (s : State) (h : b ∈ l) : ((l.foldl (fun s b => s.freeBrick p b) s).store p).brick? b = none := by
  induction l generalizing s with
  | nil => exact absurd h List.not_mem_nil
  | cons a l ih =>
    by_cases hb : b ∈ l
    · exact ih (s.freeBrick p a) hb
    · obtain rfl : b = a := (List.mem_cons.mp h).resolve_right hb
      exact ((freeBricks_storage (s.freeBrick p b) p l).brick? hb).trans (brick?_freeBrick s p b)

/-- The bricks of a range freed. -/
def State.freeRange (s : State) (p first n : Nat) : State := ((s.store p).allocatedIn first n).foldl (fun s b => s.freeBrick p b) s

theorem brick?_freeRange_inside {p first n b : Nat} (s : State) (hlo : first ≤ b) (hhi : b < first + n) : ((s.freeRange p first n).store p).brick? b = none := by
  by_cases hb : b ∈ (s.store p).allocatedIn first n
  · exact brick?_freeBricks s hb
  · refine ((freeBricks_storage s p _).brick? hb).trans (Option.not_isSome_iff_eq_none.mp fun hsome => ?_)
    exact hb (mem_allocatedIn.mpr ⟨hlo, hhi, hsome⟩)

theorem freeRange_storage (s : State) (p first n : Nat) : KeepsButStorage p (fun b => ¬(first ≤ b ∧ b < first + n)) s (s.freeRange p first n) :=
  (freeBricks_storage s p _).mono fun _ hb hmem => hb ⟨(mem_allocatedIn.mp hmem).1, (mem_allocatedIn.mp hmem).2.1⟩

/-- An object whose bricks are freed is no longer registered (R377). -/
theorem object?_freeing (s : State) (p n k : Nat) :
    ({ s with storeNv := { s.storeNv with objects := aupd s.storeNv.objects n (fun x => { x with freeing := some k }) } } : State).object? p n = none := by
  unfold State.object?
  rw [aget_aupd_same]
  cases aget s.storeNv.objects n <;> simp

theorem object?_congr {s u : State} (p n : Nat) (h : u.storeNv.objects = s.storeNv.objects) : u.object? p n = s.object? p n := by
  unfold State.object?
  rw [h]

/-- An object that waits for a checkpoint's footer before its record is removed (R377), and the command that waits with it. -/
def State.startUnregister (s : State) (c : CmdRef) (p n footers : Nat) : State :=
  ({ s with storeNv := { s.storeNv with objects := aupd s.storeNv.objects n (fun x => { x with freeing := some footers }) } } : State).startRunning c 0x402 (.unregister p n)

/-- The footers that are written once a checkpoint now under way has ended (R377). -/
def Ckpt.footersDue (C : Ckpt) : Nat := C.gen + b2n C.running

/-- The effect of an UNREGISTER_OBJECT (R61, R377). -/
def State.unregister (s : State) (c : CmdRef) (p n : Nat) (o : Object) : State :=
  ((((s.freeRange p o.first o.bricks).startUnregister c p n (s.store p).ckpt.footersDue).retryFrames p).settle p)

theorem startUnregister_atRest {s : State} {c : CmdRef} {p n k : Nat} (h : s.AtRest p) : (s.startUnregister c p n k).AtRest p := by
  obtain ⟨ht, ho, hf, hw⟩ := h
  exact ⟨ht, ho, hf, hw⟩

theorem startUnregister_clearsNothing {s : State} (c : CmdRef) (p n k : Nat) (h : s.running = []) : (s.startUnregister c p n k).clearsNothing := by
  intro r hr q b g e
  unfold State.startUnregister State.startRunning at hr
  rw [h, List.nil_append, List.mem_singleton] at hr
  rw [hr]
  exact LongOp.noConfusion

/-- Of a partition at rest the effect is the freeing, the start and another try for frames, and nothing settles. -/
theorem unregister_storage {s : State} (c : CmdRef) {p : Nat} (n : Nat) (o : Object) (hrest : s.AtRest p) (hrun : s.running = []) (hw : (s.store p).frameWaits = []) :
    KeepsButStorage p (fun _ => True) ((s.freeRange p o.first o.bricks).startUnregister c p n (s.store p).ckpt.footersDue) (s.unregister c p n o) := by
  have hfree := freeRange_storage s p o.first o.bricks
  have hstart := startUnregister_atRest (c := c) (n := n) (k := (s.store p).ckpt.footersDue) (hfree.atRest hrest)
  have hclears := startUnregister_clearsNothing c p n (s.store p).ckpt.footersDue (hfree.running.trans hrun)
  have hretry := retryFrames_storage (fun _ => True) hstart (hfree.frameWaits hw) hclears
  unfold State.unregister
  rwa [settle_of_atRest (hretry.atRest hstart) fun r hr => hclears r (hretry.running ▸ hr)]

/-- The failures of an UNREGISTER_OBJECT's own, in order (R61, R795). -/
def State.unregisterFailures (s : State) (p n : Nat) : List (Bool × Status) :=
  [((s.object? p n).isNone, .notRegistered),
   ((match s.object? p n with
     | some o => (s.openWindows p).any (fun e => !e.2.far && decide (e.2.firstBrick < o.first + o.bricks) && decide (o.first < e.2.firstBrick + e.2.bricks))
     | none => false), .windowOpen),
   ((s.store p).hamperOn n, .hamperLive)]

theorem unregisterFailures_none {s : State} {p n : Nat} {o : Object} (ho : s.object? p n = some o) (hwin : s.openWindows p = []) (hhamp : (s.store p).hampers = []) :
    firstFail (s.unregisterFailures p n) = none := by
  simp [State.unregisterFailures, firstFail, StoreP.hamperOn, ho, hwin, hhamp]

theorem exec_unregisterObject (t : Nat) (c : CmdRef) (p : Nat) (obj : BitVec 20) (s : State) : exec (.unregisterObject t c p obj) s =
    run t s (fun s => s.partCmd c 0x402 p false (s.unregisterFailures p obj.toNat)
      (fun u => match s.object? p obj.toNat with | none => u | some o => u.unregister c p obj.toNat o)) := rfl

theorem unregisterObject_answers {t p : Nat} {c : CmdRef} {s : State} {obj : BitVec 20} {o : Object} (hstill : s.still p = true) (ha : s.admits c p modesServing = true)
    (ho : s.object? p obj.toNat = some o) (hwin : s.openWindows p = []) (hhamp : (s.store p).hampers = []) (hw : (s.store p).frameWaits = []) :
    Answers (.unregisterObject t c p obj) s (fun u => u.sec = s.sec ∧ u.dies = s.dies ∧ (∀ b, o.first ≤ b → b < o.first + o.bricks → (u.store p).brick? b = none) ∧
      (∀ b, ¬(o.first ≤ b ∧ b < o.first + o.bricks) → (u.store p).brick? b = (s.store p).brick? b) ∧ u.object? p obj.toNat = none ∧
      u.running = [{ cmd := c, opcode := 0x402, op := .unregister p obj.toNat, since := decided t s, mseq := 0 }]) := by
  have hstill' : (s.upTo t).still p = true := hstill
  obtain ⟨hrest, hrun⟩ := still_iff.mp hstill'
  have hfree := freeRange_storage (s.upTo t) p o.first o.bricks
  have heff := unregister_storage c obj.toNat o hrest hrun hw
  have hinside := fun b hlo hhi => (heff.brick? (b := b) trivial).trans (brick?_freeRange_inside (s.upTo t) hlo hhi)
  have houtside := fun b hb => (heff.brick? (b := b) trivial).trans (hfree.brick? hb)
  have hgone := (object?_congr p obj.toNat heff.objects).trans (object?_freeing _ p obj.toNat _)
  have hrunning : ((s.upTo t).unregister c p obj.toNat o).running = [{ cmd := c, opcode := 0x402, op := .unregister p obj.toNat, since := decided t s, mseq := 0 }] := by
    rw [heff.running, State.startUnregister, State.startRunning, hfree.running, hfree.now, hrun]
    rfl
  have hsec := heff.sec.trans hfree.sec
  have hdies := heff.dies.trans hfree.dies
  refine answers_of_partCmd (u := (s.upTo t).unregister c p obj.toNat o) (exec_unregisterObject t c p obj s) ha rfl
    (unregisterFailures_none (s := s.upTo t) ho hwin hhamp) ?_ fun hs => ?_
  · rw [show (s.upTo t).object? p obj.toNat = some o from ho]
  · clear heff
    generalize (s.upTo t).unregister c p obj.toNat o = u at *
    exact ⟨hsec, hdies, hinside, houtside, hgone, hrunning⟩

/-! ### PROMOTE (R298, R299) -/

/-- A registered object of a partition is one of its own tenant. -/
theorem objectOf_of_object? {s : State} {p n : Nat} {o : Object} (h : s.object? p n = some o) : s.objectOf p o.tenant n = some o := by
  obtain ⟨hget, hreg⟩ := Option.filter_eq_some_iff.mp h
  unfold State.objectOf
  simp only [Bool.and_eq_true] at hreg
  simp [hget, hreg]

/-- An entry as a post queues it (R299, R310). -/
def queuedEntry (e : HampEntry) : Entry :=
  { object := e.object.toNat, persistent := e.persistent, first := e.first.toNat, pages := e.pages.toNat, deadline := e.deadline.toNat, holdMs := e.holdMs.toNat,
    state := .queued, heldAt := 0, holdEnd := none }

/-- A hamper with one entry that waits for its turn. -/
def queuedHamper (tenant changed : Nat) (byHost : Bool) (e : HampEntry) : Hamper :=
  { tenant := tenant, byHost := byHost, changed := changed, direct := 0, entries := [queuedEntry e] }

/-- A hamper with an entry that has not ended keeps its number (R310). -/
theorem hampers_reapHamper_of_live {s : State} {p h : Nat} {x : Hamper} (hpart : s.hasPart p = true) (hx : aget (s.store p).hampers h = some x)
    (hlive : x.entries.all (fun e => e.state.ended) = false) : ((s.reapHamper p h).store p).hampers = (s.store p).hampers := by
  unfold State.reapHamper
  rw [store_modStore _ hpart]
  simp only [hx, hlive, Bool.false_eq_true, if_false]

/-- An entry that names an object of its tenant outside FLASH_DIRECT is posted to wait for its turn. -/
theorem postHamper_one {s : State} {p tenant h : Nat} {e : HampEntry} {o : Object} (byHost : Bool) (hfree : (s.store p).freeHamper = some h)
    (ho : s.objectOf p tenant e.object.toNat = some o) (hdirect : s.flashDirect p o = false) : s.postHamper p tenant byHost [e] =
      (h, (s.modStore p (fun S => { S with hampers := S.hampers ++ [(h, queuedHamper tenant (fab s) byHost e)] })).reapHamper p h) := by
  unfold State.postHamper
  simp only [hfree, Option.getD_some, List.map_cons, List.map_nil, ho, hdirect, Bool.false_eq_true, if_false]
  rfl

/-- The hamper of such an entry stands on its lowest free number, behind those that stood (R310). -/
theorem hampers_postHamper_one {s : State} {p tenant h : Nat} {e : HampEntry} {o : Object} (byHost : Bool) (hpart : s.hasPart p = true)
    (hfree : (s.store p).freeHamper = some h) (ho : s.objectOf p tenant e.object.toNat = some o) (hdirect : s.flashDirect p o = false) :
    ((s.postHamper p tenant byHost [e]).2.store p).hampers = (s.store p).hampers ++ [(h, queuedHamper tenant (fab s) byHost e)] := by
  have hnew : aget (s.store p).hampers h = none := by simpa [ahas] using List.find?_some hfree
  have hposted : aget ((s.store p).hampers ++ [(h, queuedHamper tenant (fab s) byHost e)]) h = some (queuedHamper tenant (fab s) byHost e) := by
    rw [aget_append, hnew, Option.none_or, aget_cons, if_pos rfl]
  rw [postHamper_one byHost hfree ho hdirect]
  have hstore := store_modStore (fun S => { S with hampers := S.hampers ++ [(h, queuedHamper tenant (fab s) byHost e)] }) hpart
  rw [hampers_reapHamper_of_live ((hasPart_modStore s p _).trans hpart) (by rw [hstore]; exact hposted) rfl, hstore]

theorem reapHamper_frame (s : State) (p h : Nat) : KeepsButPart p s (s.reapHamper p h) := modStore_frame s p _

/-- A post changes the partition's storage alone. -/
theorem postHamper_frame (s : State) (p tenant : Nat) (byHost : Bool) (es : List HampEntry) : KeepsButPart p s (s.postHamper p tenant byHost es).2 :=
  (modStore_frame s p _).trans (reapHamper_frame _ p _)

/-- The failures of a PROMOTE's own, in order (R298, R795). -/
def State.promoteFailures (s : State) (p n : Nat) (first pages : BitVec 32) (pin : Bool) : List (Bool × Status) :=
  [(!s.inMode p modesServing, .mode), ((s.object? p n).isNone, .notRegistered),
   ((match s.object? p n with | some o => pages == 0 || decide (o.bricks * 512 < first.toNat + pages.toNat) | none => false), .badRange),
   ((match s.object? p n with | some o => s.hamperFull p o.tenant | none => false), .limit),
   ((match s.object? p n with | some o => !pin && s.flashDirect p o | none => false), .skipped)]

theorem promoteFailures_none {s : State} {p n : Nat} {first pages : BitVec 32} {o : Object} (hmode : s.inMode p modesServing = true) (ho : s.object? p n = some o)
    (hpages : pages ≠ 0) (hrange : first.toNat + pages.toNat ≤ o.bricks * 512) (hfull : s.hamperFull p o.tenant = false) (hdirect : s.flashDirect p o = false) :
    firstFail (s.promoteFailures p n first pages false) = none := by
  have hr : ¬ o.bricks * 512 < first.toNat + pages.toNat := Nat.not_lt.mpr hrange
  simp only [State.promoteFailures, firstFail, hmode, ho, beq_eq_false_iff_ne.mpr hpages, decide_eq_false hr, hfull, hdirect]
  rfl

/-- The entry that a PROMOTE posts for the runtime (R298, R299). -/
def promoteEntry (obj : BitVec 20) (first pages : BitVec 32) (hold : BitVec 16) : HampEntry :=
  { object := obj, persistent := false, first := first, pages := pages, deadline := 0, holdMs := hold, bad := false }

theorem exec_promote (t : Nat) (c : CmdRef) (p : Nat) (obj : BitVec 20) (first pages : BitVec 32) (hold : BitVec 16) (s : State) :
    exec (.promote t c p obj first pages hold 0) s = run t s (fun s => s.partCmd c 0x403 p false (s.promoteFailures p obj.toNat first pages false)
      (fun u => match s.object? p obj.toNat with
        | none => u
        | some o => (u.postHamper p o.tenant false [promoteEntry obj first pages hold]).2.finishWith c 0x403 .ok 0 [] false)) := rfl

theorem promote_answers {t p h : Nat} {c : CmdRef} {s : State} {obj : BitVec 20} {first pages : BitVec 32} {hold : BitVec 16} {o : Object}
    (ha : s.admits c p modesServing = true) (ho : s.object? p obj.toNat = some o) (hpages : pages ≠ 0) (hrange : first.toNat + pages.toNat ≤ o.bricks * 512)
    (hfull : s.hamperFull p o.tenant = false) (hdirect : s.flashDirect p o = false) (hfree : (s.store p).freeHamper = some h) :
    Answers (.promote t c p obj first pages hold 0) s (fun u => EndsAs s u c 0x403 .ok ∧ u.dies = s.dies ∧ u.sec = s.sec ∧ u.storeNv = s.storeNv ∧
      (u.store p).hampers = (s.store p).hampers ++ [(h, queuedHamper o.tenant (fabAt s (decided t s)) false (promoteEntry obj first pages hold))]) := by
  obtain ⟨hend, hmode, -⟩ := admits_iff.mp ha
  have hobj : (s.upTo t).objectOf p o.tenant obj.toNat = some o := objectOf_of_object? ho
  have hposted := hampers_postHamper_one (s := s.upTo t) (e := promoteEntry obj first pages hold) false (hasPart_of_inMode hmode) hfree hobj hdirect
  obtain ⟨f, hf⟩ := postHamper_frame (s.upTo t) p o.tenant false [promoteEntry obj first pages hold]
  rw [hf] at hposted
  obtain ⟨qs, m, hfin, hends⟩ := finishWith_ends (s := s) (u := (s.upTo t).modPart p f) 0x403 .ok [] false rfl rfl hend
  refine answers_of_partCmd (exec_promote t c p obj first pages hold s) ha rfl (promoteFailures_none (s := s.upTo t) hmode ho hpages hrange hfull hdirect) ?_
    fun hs => ⟨hends, ?_⟩
  · rw [show (s.upTo t).object? p obj.toNat = some o from ho, ← hf]
  · rw [hfin]
    exact ⟨rfl, rfl, rfl, hposted⟩

/-! ### DEMOTE (R276, R298) -/

/-- A placement written into bricks one after another: the bricks named have it, the others stand. -/
theorem brick?_placeBricks (s : State) (p pl b : Nat) (l : List Nat) :
    ((l.foldl (fun s b => (s.modBrick p b (fun B => { B with placement := pl })).track p 3 (b / 512)) s).store p).brick? b =
      if b ∈ l then ((s.store p).brick? b).map (fun B => { B with placement := pl }) else (s.store p).brick? b := by
  induction l generalizing s with
  | nil => rfl
  | cons a l ih =>
    rw [List.foldl_cons, ih, brick?_track]
    by_cases hb : b = a
    · subst hb
      rw [brick?_modBrick_same, Option.map_map, if_pos List.mem_cons_self]
      exact ite_self _
    · rw [brick?_modBrick_other s p _ hb]
      simp [hb]

theorem setPlacement_frame (s : State) (p obj pl : Nat) : KeepsButPart p s (s.setPlacement p obj pl) :=
  .foldl (fun s b => (modBrick_frame s p b _).trans (track_frame _ p 3 _)) _ s

/-- Every brick of the object has the placement written. -/
theorem brick?_setPlacement {s : State} {p obj b : Nat} {B : Brick} (pl : Nat) (h : (s.store p).brick? b = some B) (hobj : B.object = obj) :
    ((s.setPlacement p obj pl).store p).brick? b = some { B with placement := pl } := by
  unfold State.setPlacement
  dsimp only
  rw [brick?_placeBricks, h]
  split
  · rfl
  · next hb =>
    have hpl : B.placement = pl := by
      refine Decidable.byContradiction fun hne => hb (List.mem_map.mpr ⟨(b, B), List.mem_filter.mpr ⟨mem_of_aget h, ?_⟩, rfl⟩)
      rw [hobj, beq_self_eq_true, bne_iff_ne.mpr hne]
      rfl
    rw [← hpl]

/-- Without a hamper no entry of the runtime has to end. -/
theorem endRuntimeEntries_of_none {s : State} {p : Nat} (obj : Nat) (h : (s.store p).hampers = []) : s.endRuntimeEntries p obj = s := by
  unfold State.endRuntimeEntries
  rw [h]
  rfl

/-- The failures of a DEMOTE's own, in order (R298, R795). -/
def State.demoteFailures (s : State) (p n : Nat) (target : BitVec 2) : List (Bool × Status) :=
  [(!s.inMode p modesServing, .mode), ((s.object? p n).isNone, .notRegistered), (target == 1, .badTarget)]

theorem demoteFailures_none {s : State} {p n : Nat} {target : BitVec 2} (hmode : s.inMode p modesServing = true) (ho : (s.object? p n).isSome = true)
    (htarget : (target == 1) = false) : firstFail (s.demoteFailures p n target) = none := by
  have hreg : (s.object? p n).isNone = false := by rw [← Option.not_isSome, ho]; rfl
  simp only [State.demoteFailures, firstFail, hmode, hreg, htarget]
  rfl

theorem exec_demote_keeping (t : Nat) (c : CmdRef) (p : Nat) (obj : BitVec 20) (target : BitVec 2) (s : State) :
    exec (.demote t c p obj target false) s = run t s (fun s => s.partCmd c 0x404 p false (s.demoteFailures p obj.toNat target)
      (fun u => (if target == 3 then u.endRuntimeEntries p obj.toNat else (u.endRuntimeEntries p obj.toNat).setPlacement p obj.toNat target.toNat).finishWith
        c 0x404 .ok 0 [] true)) := rfl

theorem demote_answers {t p : Nat} {c : CmdRef} {s : State} {obj : BitVec 20} {target : BitVec 2} (ha : s.admits c p modesServing = true)
    (ho : (s.object? p obj.toNat).isSome = true) (htarget : target = 0 ∨ target = 2) (hhamp : (s.store p).hampers = []) :
    Answers (.demote t c p obj target false) s (fun u => EndsAs s u c 0x404 .ok [] true ∧ u.dies = s.dies ∧ u.sec = s.sec ∧ u.storeNv = s.storeNv ∧
      ∀ b B, (s.store p).brick? b = some B → B.object = obj.toNat → (u.store p).brick? b = some { B with placement := target.toNat }) := by
  obtain ⟨hend, hmode, -⟩ := admits_iff.mp ha
  obtain ⟨hpin, hkeep⟩ : (target == 1) = false ∧ (target == 3) = false := by rcases htarget with rfl | rfl <;> decide
  have hplaced := fun b B => brick?_setPlacement (s := s.upTo t) (p := p) (obj := obj.toNat) (b := b) (B := B) target.toNat
  obtain ⟨f, hf⟩ := setPlacement_frame (s.upTo t) p obj.toNat target.toNat
  rw [hf] at hplaced
  obtain ⟨qs, m, hfin, hends⟩ := finishWith_ends (s := s) (u := (s.upTo t).modPart p f) 0x404 .ok [] true rfl rfl hend
  refine answers_of_partCmd (exec_demote_keeping t c p obj target s) ha rfl (demoteFailures_none (s := s.upTo t) hmode ho hpin) ?_ fun hs => ⟨hends, ?_⟩
  · rw [hkeep, endRuntimeEntries_of_none (s := s.upTo t) obj.toNat hhamp, ← hf]
    rfl
  · rw [hfin]
    exact ⟨rfl, rfl, rfl, hplaced⟩

/-- Settles O30, command by command: each meets no failure, and its effect changes the partition's storage and the object records alone. -/
theorem objectCommands : Obligations.ObjectCommands := by
  unfold Obligations.ObjectCommands
  intro t c p s hstill ha
  exact ⟨fun _ _ hn hmax hpl hcourses hin hfree htenant hid => registerObject_answers ha hn hmax hpl hcourses hin hfree htenant hid,
    fun _ _ ho hwin hhamp hw => unregisterObject_answers hstill ha ho hwin hhamp hw,
    fun _ _ _ _ _ _ ho hpages hrange hfull hdirect hfree => promote_answers ha ho hpages hrange hfull hdirect hfree,
    fun _ _ ho htarget hhamp => demote_answers ha ho htarget hhamp⟩

end Sys2Proof.Machine
end

section
/-! SUPPORT. Hampers: what their operations leave of a partition's hampers, bricks and direct windows (R299-R312). -/
namespace Sys2Proof.Machine
open Sys2Proof

/-! ### Effects inside one partition -/

theorem KeepsButPart.hasPart {p : Nat} {s u : State} (h : KeepsButPart p s u) : u.hasPart p = s.hasPart p := by
  obtain ⟨f, rfl⟩ := h
  unfold State.hasPart
  rw [part?_modPart_same, Option.isSome_map]

theorem KeepsButPart.dies {p : Nat} {s u : State} (h : KeepsButPart p s u) : u.dies = s.dies := by obtain ⟨f, rfl⟩ := h; rfl
theorem KeepsButPart.sec {p : Nat} {s u : State} (h : KeepsButPart p s u) : u.sec = s.sec := by obtain ⟨f, rfl⟩ := h; rfl
theorem KeepsButPart.running {p : Nat} {s u : State} (h : KeepsButPart p s u) : u.running = s.running := by obtain ⟨f, rfl⟩ := h; rfl
theorem KeepsButPart.storeNv {p : Nat} {s u : State} (h : KeepsButPart p s u) : u.storeNv = s.storeNv := by obtain ⟨f, rfl⟩ := h; rfl
theorem KeepsButPart.fab {p : Nat} {s u : State} (h : KeepsButPart p s u) : Machine.fab u = Machine.fab s := by obtain ⟨f, rfl⟩ := h; rfl

/-- An effect inside one partition is the whole next state, and leaves dies and keys alone. -/
theorem answers_of_keepsButPart {c : Instr} {t p : Nat} {s : State} {f : State → State} {Q : State → Prop} (hc : exec c s = run t s f)
    (hk : KeepsButPart p (s.upTo t) (f (s.upTo t))) (hq : Q (f (s.upTo t))) : Answers c s (fun u => (u.dies = s.dies ∧ u.sec = s.sec) ∧ Q u) := by
  refine ⟨f (s.upTo t), hc.trans (run_of_kept ?_ ?_ ?_ ?_ ?_), ⟨hk.dies, hk.sec⟩, hq⟩ <;> (obtain ⟨g, hg⟩ := hk; rw [hg]; rfl)

/-- A live partition stands. -/
theorem hasPart_of_live {s : State} {p : Nat} (h : s.live p = true) : s.hasPart p = true := by
  simp only [State.live, Bool.and_eq_true] at h
  exact h.1

/-- The pages of an object's range are a matter of the object records. -/
theorem entryPages_congr {s u : State} (e : Entry) (h : u.storeNv = s.storeNv) : u.entryPages e = s.entryPages e := by unfold State.entryPages; rw [h]

/-! ### Waiting commands -/

/-- With no command under way none ends. -/
theorem endRunning_of_none {s : State} (pick : LongOp → Bool) (st : Status) (b : List Byte) (g : Bool) (h : s.running = []) : s.endRunning pick st b g = s := by
  unfold State.endRunning
  rw [h, ← h]
  simp only [h, List.filter_nil, List.foldl_nil]
  rw [← h]

theorem promoteEnds_of_none {s : State} (p h : Nat) (st : Status) (hr : s.running = []) : s.promoteEnds p h st = s := by
  unfold State.promoteEnds
  rw [endRunning_of_none _ _ _ _ hr, endRunning_of_none _ _ _ _ hr]

/-! ### Entries and pins -/

theorem hampers_setEntry {s : State} {p : Nat} (h i : Nat) (f : Entry → Entry) (hp : s.hasPart p = true) : ((s.setEntry p h i f).store p).hampers =
    aupd (s.store p).hampers h (fun x => { x with entries := modNth x.entries i f, changed := fab s }) := by
  unfold State.setEntry
  rw [store_modStore _ hp]
  exact aupd_aupd (s.store p).hampers h (fun x => { x with entries := modNth x.entries i f }) (fun x => { x with changed := fab s })

/-- A hamper of one entry after a change of the entry. -/
theorem aget_hampers_setEntry {s : State} {p h : Nat} {x : Hamper} {e : Entry} (f : Entry → Entry) (hp : s.hasPart p = true)
    (hx : aget (s.store p).hampers h = some x) (he : x.entries = [e]) :
    aget ((s.setEntry p h 0 f).store p).hampers h = some { x with entries := [f e], changed := fab s } := by
  rw [hampers_setEntry h 0 f hp, aget_aupd_same, hx, Option.map_some, he]
  rfl

theorem setEntry_frame (s : State) (p h i : Nat) (f : Entry → Entry) : KeepsButPart p s (s.setEntry p h i f) := ⟨_, rfl⟩

theorem brick?_setEntry (s : State) (p h i b : Nat) (f : Entry → Entry) : ((s.setEntry p h i f).store p).brick? b = (s.store p).brick? b :=
  store_modStore_kept (·.brick? b) s p fun _ => rfl

theorem direct_setEntry (s : State) (p h i : Nat) (f : Entry → Entry) : ((s.setEntry p h i f).store p).direct = (s.store p).direct :=
  store_modStore_kept (·.direct) s p fun _ => rfl

theorem releasePins_frame (s : State) (p : Nat) (bs : List Nat) : KeepsButPart p s (s.releasePins p bs) := ⟨_, rfl⟩

theorem hampers_releasePins (s : State) (p : Nat) (bs : List Nat) : ((s.releasePins p bs).store p).hampers = (s.store p).hampers :=
  store_modStore_kept (·.hampers) s p fun _ => rfl

theorem direct_releasePins (s : State) (p : Nat) (bs : List Nat) : ((s.releasePins p bs).store p).direct = (s.store p).direct :=
  store_modStore_kept (·.direct) s p fun _ => rfl

/-- A lookup after a change of each entry by its key. -/
theorem aget_map_keyed {κ α : Type} [DecidableEq κ] (l : List (κ × α)) (k : κ) (c : κ × α → Bool) (f : α → α) :
    aget (l.map (fun e => if c e then (e.1, f e.2) else e)) k = (aget l k).map (fun v => if c (k, v) then f v else v) := by
  induction l with
  | nil => rfl
  | cons e l ih =>
    rw [List.map_cons, aget_cons, aget_cons, ih]
    by_cases hk : e.1 = k
    · subst hk
      by_cases hc : c e <;> simp [hc]
    · by_cases hc : c e <;> simp [hc, hk]

/-- Where no entry of the partition has its pins standing, the bricks named are without a pin (R302). -/
theorem pin_releasePins {s : State} {p b : Nat} {B : Brick} {bs : List Nat} (hp : s.hasPart p = true) (hnone : ∀ e ∈ (s.store p).hampers, e.2.entries.filter (·.pins) = [])
    (hb : b ∈ bs) (hB : ((s.releasePins p bs).store p).brick? b = some B) : B.pin = false := by
  have hkept : (((s.store p).hampers.map (fun h => (h.2.entries.filter (·.pins)).map s.entryBricks)).flatten).flatten = [] := by
    rw [List.flatten_eq_nil_iff]
    simp only [List.mem_flatten, List.mem_map]
    rintro l ⟨_, ⟨h, hh, rfl⟩, hl⟩
    rw [hnone h hh] at hl
    exact absurd hl List.not_mem_nil
  unfold State.releasePins at hB
  rw [store_modStore _ hp, hkept] at hB
  have hmap := aget_map_keyed (s.store p).bricks b (fun e => bs.contains e.1 && !([] : List Nat).contains e.1) (fun B => { B with pin := false })
  obtain ⟨B', -, rfl⟩ := Option.map_eq_some_iff.mp (hmap.symm.trans hB)
  simp [hb]

/-! ### Hampers that end -/

theorem hampers_reapHamper_of_ended {s : State} {p h : Nat} {x : Hamper} (hp : s.hasPart p = true) (hx : aget (s.store p).hampers h = some x)
    (hended : x.entries.all (fun e => e.state.ended) = true) : ((s.reapHamper p h).store p).hampers = adel (s.store p).hampers h := by
  unfold State.reapHamper
  rw [store_modStore _ hp]
  simp only [hx, hended, if_true]

theorem brick?_reapHamper (s : State) (p h b : Nat) : ((s.reapHamper p h).store p).brick? b = (s.store p).brick? b :=
  store_modStore_kept (·.brick? b) s p fun S => by split <;> (try split) <;> rfl

theorem direct_reapHamper (s : State) (p h : Nat) : ((s.reapHamper p h).store p).direct = (s.store p).direct :=
  store_modStore_kept (·.direct) s p fun S => by split <;> (try split) <;> rfl

/-- An entry that has ended waits for no pins. -/
theorem unpinned_of_ended {s : State} {p : Nat} {e : Entry} (h : e.state.ended = true) : s.unpinned p e = false := by
  unfold State.unpinned
  cases hs : e.state <;> simp_all [EntryState.ended]

/-- A hamper whose entries have ended starts none. -/
theorem startEntry_of_ended {s : State} {p h : Nat} {x : Hamper} (hx : aget (s.store p).hampers h = some x) (hended : x.entries.all (fun e => e.state.ended) = true) :
    s.startEntry p h = s := by
  have hnone : x.entries.findIdx? (fun e => s.unpinned p e) = none :=
    List.findIdx?_eq_none_iff.mpr fun e he => unpinned_of_ended (List.all_eq_true.mp hended e he)
  unfold State.startEntry
  rw [hx]
  simp only [hnone]

end Sys2Proof.Machine
end

section
/-! HAMPER_POST, HAMPER_QUERY and HAMPER_CANCEL (R309-R312). -/
namespace Sys2Proof.Machine
open Sys2Proof

/-! ### HAMPER_POST (R309, R310) -/

/-- The failures of a HAMPER_POST's own, in order (R309, R795). -/
def State.postFailures (s : State) (p tenant : Nat) (count : BitVec 9) (es : List HampEntry) : List (Bool × Status) :=
  [(!s.inMode p modesServing, .mode), (s.hamperFull p tenant, .limit),
   (count.toNat == 0 || decide (256 < count.toNat) || es.length != count.toNat || !s.entriesOk p tenant true 0 es, .bodyError)]

/-- A well-formed entry over pages of an object of the tenant stands alone in a post; the runtime's may have no deadline (R309, R313). -/
theorem entriesOk_one {s : State} {p tenant : Nat} {e : HampEntry} {o : Object} (hbad : e.bad = false) (hpages : e.pages ≠ 0)
    (ho : s.objectOf p tenant e.object.toNat = some o) (hrange : e.first.toNat + e.pages.toNat ≤ o.bricks * 512) : s.entriesOk p tenant true 0 [e] = true := by
  have hpos : 1 ≤ e.pages.toNat := Nat.one_le_iff_ne_zero.mpr fun h => hpages (BitVec.eq_of_toNat_eq h)
  simp [State.entriesOk, hbad, hpos, ho, hrange]

theorem postFailures_none {s : State} {p tenant : Nat} {e : HampEntry} (hmode : s.inMode p modesServing = true) (hfull : s.hamperFull p tenant = false)
    (hok : s.entriesOk p tenant true 0 [e] = true) : firstFail (s.postFailures p tenant 1 [e]) = none := by
  simp [State.postFailures, firstFail, hmode, hfull, hok]

theorem exec_hamperPost (t : Nat) (c : CmdRef) (p : Nat) (tenant : BitVec 12) (count : BitVec 9) (es : List HampEntry) (s : State) :
    exec (.hamperPost t c p tenant count es) s = run t s (fun s => s.partCmd c 0x405 p false (s.postFailures p tenant.toNat count es)
      (fun u => (u.postHamper p tenant.toNat false es).2.finishWith c 0x405 .ok 0 (countResult (u.postHamper p tenant.toNat false es).1 count.toNat) false)) := rfl

theorem hamperPost_answers {t p h : Nat} {c : CmdRef} {s : State} {tenant : BitVec 12} {e : HampEntry} {o : Object} (ha : s.admits c p modesServing = true)
    (hfull : s.hamperFull p tenant.toNat = false) (hfree : (s.store p).freeHamper = some h) (hbad : e.bad = false) (hpages : e.pages ≠ 0)
    (ho : s.objectOf p tenant.toNat e.object.toNat = some o) (hrange : e.first.toNat + e.pages.toNat ≤ o.bricks * 512) (hdirect : s.flashDirect p o = false) :
    Answers (.hamperPost t c p tenant 1 [e]) s (fun u => EndsAs s u c 0x405 .ok (countResult h 1) ∧ u.dies = s.dies ∧ u.sec = s.sec ∧
      (u.store p).hampers = (s.store p).hampers ++ [(h, queuedHamper tenant.toNat (fabAt s (decided t s)) false e)]) := by
  obtain ⟨hend, hmode, -⟩ := admits_iff.mp ha
  have hok : (s.upTo t).entriesOk p tenant.toNat true 0 [e] = true := entriesOk_one hbad hpages ho hrange
  have hposted := hampers_postHamper_one (s := s.upTo t) false (hasPart_of_inMode hmode) hfree ho hdirect
  have hnumber : ((s.upTo t).postHamper p tenant.toNat false [e]).1 = h := congrArg Prod.fst (postHamper_one (s := s.upTo t) false hfree ho hdirect)
  obtain ⟨f, hf⟩ := postHamper_frame (s.upTo t) p tenant.toNat false [e]
  rw [hf] at hposted
  obtain ⟨qs, m, hfin, hends⟩ := finishWith_ends (s := s) (u := (s.upTo t).modPart p f) 0x405 .ok (countResult h 1) false rfl rfl hend
  refine answers_of_partCmd (exec_hamperPost t c p tenant 1 [e] s) ha rfl (postFailures_none (s := s.upTo t) hmode hfull hok) ?_ fun hs => ⟨hends, ?_⟩
  · rw [hnumber, hf]; rfl
  · rw [hfin]
    exact ⟨rfl, rfl, hposted⟩

/-! ### HAMPER_QUERY (R311) -/

/-- The failures of a HAMPER_QUERY, in order: it asks for no ownership (R729). -/
def State.queryFailures (s : State) (p h : Nat) : List (Bool × Status) := [(!s.hasPart p, .badPartition), (!ahas (s.store p).hampers h, .bodyError)]

theorem queryFailures_none {s : State} {p h : Nat} {x : Hamper} (hp : s.hasPart p = true) (hx : aget (s.store p).hampers h = some x) :
    firstFail (s.queryFailures p h) = none := by
  simp [State.queryFailures, firstFail, hp, ahas, hx]

theorem exec_hamperQuery {t p : Nat} {c : CmdRef} {h : BitVec 8} {s : State} (hnone : firstFail ((s.upTo t).queryFailures p h.toNat) = none) :
    exec (.hamperQuery t c p h) s = run t s (fun u => u.finishWith c 0x407 .ok 0 (u.hamperResult p h.toNat) false) := by
  show execHamperQuery t c p h s = _
  unfold State.queryFailures at hnone
  unfold execHamperQuery
  refine run_congr ?_
  rw [hnone]
  rfl

theorem hamperQuery_answers {t p : Nat} {c : CmdRef} {h : BitVec 8} {s : State} {x : Hamper} (ha : s.admits c p modesServing = true)
    (hx : aget (s.store p).hampers h.toNat = some x) :
    Answers (.hamperQuery t c p h) s (fun u => EndsAs s u c 0x407 .ok (s.hamperResult p h.toNat) ∧ OnlyOutcomes s u) := by
  obtain ⟨hend, hmode, -⟩ := admits_iff.mp ha
  obtain ⟨ps, m, hfin, hends⟩ := finishWith_ends (s := s) (u := s.upTo t) 0x407 .ok (s.hamperResult p h.toNat) false rfl rfl hend
  have hrun := exec_hamperQuery (t := t) (c := c) (queryFailures_none (s := s.upTo t) (hasPart_of_inMode hmode) hx)
  refine ⟨_, hrun.trans (run_of_kept ?_ ?_ ?_ ?_ ?_), hends, ⟨_, _, ps, m, hfin⟩⟩ <;> exact hfin ▸ rfl

/-! ### HAMPER_CANCEL (R312) -/

/-- Whether an entry is still to become HELD: what a cancel counts (R311, R312). -/
def Entry.waits (e : Entry) : Bool := e.state == .queued || e.state == .filling || e.state == .late

/-- An entry as a cancel leaves it (R312). -/
def Entry.cancelled (e : Entry) : Entry :=
  if e.waits then { e with state := .abandoned } else if e.state == .held then { e with state := .done, holdEnd := none } else e

theorem Entry.cancelled_ended (e : Entry) : e.cancelled.state.ended = true := by
  unfold Entry.cancelled Entry.waits
  cases hs : e.state <;> simp [EntryState.ended, hs]

/-- A partition's storage as a cancel leaves it, before pins are released: the hamper's entries have ended, their windows without an end and their reads are
theirs no longer (R312). -/
def StoreP.cancelled (S : StoreP) (h now : Nat) : StoreP :=
  { S with hampers := aupd S.hampers h (fun x => { x with changed := now, entries := x.entries.map Entry.cancelled }),
           direct := S.direct.filter (fun w => !(w.hamper == h && w.ends.isNone)),
           flash := { S.flash with reads := S.flash.reads.map (fun r => match r.hamper with | some (k, _) => if k == h then { r with hamper := none } else r | none => r) } }

/-- A cancel where no command is under way: it counts the entries that wait, ends every one, releases the pins and reaps the hamper. -/
theorem cancelHamper_eq {s : State} {p h : Nat} {x : Hamper} (hr : s.running = []) (hx : aget (s.store p).hampers h = some x) : s.cancelHamper p h =
    ((x.entries.filter Entry.waits).length, ((s.modStore p (·.cancelled h (fab s))).releasePins p ((x.entries.filter (·.pins)).map s.entryBricks).flatten).reapHamper p h) := by
  unfold State.cancelHamper
  rw [hx]
  exact congrArg (fun v => (_, State.reapHamper v p h)) (promoteEnds_of_none p h .aborted hr)

theorem cancelHamper_frame {s : State} {p h : Nat} {x : Hamper} (hr : s.running = []) (hx : aget (s.store p).hampers h = some x) : KeepsButPart p s (s.cancelHamper p h).2 := by
  rw [cancelHamper_eq hr hx]
  exact ((modStore_frame s p _).trans (releasePins_frame _ p _)).trans (reapHamper_frame _ p h)

/-- A cancelled hamper's number is free. -/
theorem aget_hampers_cancelHamper {s : State} {p h : Nat} {x : Hamper} (hp : s.hasPart p = true) (hr : s.running = []) (hx : aget (s.store p).hampers h = some x) :
    aget ((s.cancelHamper p h).2.store p).hampers h = none := by
  have hk : KeepsButPart p s ((s.modStore p (·.cancelled h (fab s))).releasePins p ((x.entries.filter (·.pins)).map s.entryBricks).flatten) :=
    (modStore_frame s p _).trans (releasePins_frame _ p _)
  have hy : aget ((s.modStore p (·.cancelled h (fab s))).store p).hampers h = some { x with changed := fab s, entries := x.entries.map Entry.cancelled } := by
    rw [store_modStore _ hp]
    unfold StoreP.cancelled
    rw [aget_aupd_same, hx]
    rfl
  rw [cancelHamper_eq hr hx, hampers_reapHamper_of_ended (hk.hasPart.trans hp) (by rw [hampers_releasePins]; exact hy) ?_]
  · exact aget_adel_same _ _
  · rw [List.all_map, List.all_eq_true]
    exact fun e _ => e.cancelled_ended

theorem exec_hamperCancel (t : Nat) (c : CmdRef) (p : Nat) (h : BitVec 8) (s : State) :
    exec (.hamperCancel t c p h) s = run t s (fun s => s.partCmd c 0x406 p false [(!ahas (s.store p).hampers h.toNat, .bodyError)]
      (fun u => (u.cancelHamper p h.toNat).2.finishWith c 0x406 .ok 0 (countResult h.toNat (u.cancelHamper p h.toNat).1) false)) := rfl

theorem hamperCancel_answers {t p : Nat} {c : CmdRef} {h : BitVec 8} {s : State} {x : Hamper} (hstill : s.still p = true) (ha : s.admits c p modesServing = true)
    (hx : aget (s.store p).hampers h.toNat = some x) :
    Answers (.hamperCancel t c p h) s (fun u => u.dies = s.dies ∧ u.sec = s.sec ∧ aget (u.store p).hampers h.toNat = none ∧
      EndsAs s u c 0x406 .ok (countResult h.toNat (x.entries.filter Entry.waits).length)) := by
  obtain ⟨hend, hmode, -⟩ := admits_iff.mp ha
  have hr : (s.upTo t).running = [] := (still_iff.mp hstill).2
  have hx' : aget ((s.upTo t).store p).hampers h.toNat = some x := hx
  have hgone := aget_hampers_cancelHamper (hasPart_of_inMode (s := s.upTo t) hmode) hr hx'
  have hcount : ((s.upTo t).cancelHamper p h.toNat).1 = (x.entries.filter Entry.waits).length := congrArg Prod.fst (cancelHamper_eq hr hx')
  obtain ⟨f, hf⟩ := cancelHamper_frame hr hx'
  rw [hf] at hgone
  obtain ⟨qs, m, hfin, hends⟩ := finishWith_ends (s := s) (u := (s.upTo t).modPart p f) 0x406 .ok (countResult h.toNat (x.entries.filter Entry.waits).length) false rfl rfl hend
  have hnone : firstFail [(!ahas ((s.upTo t).store p).hampers h.toNat, Status.bodyError)] = none := by simp [firstFail, ahas, hx']
  refine answers_of_partCmd (exec_hamperCancel t c p h s) ha rfl hnone (by rw [hcount, hf]) fun hs => ⟨?_, ?_, ?_, hends⟩
  · rw [hfin]; rfl
  · rw [hfin]; rfl
  · rw [hfin]; exact hgone

/-- Settles O31, command by command: none meets a failure; a post appends one queued hamper, a query changes nothing, a cancel ends every entry, so that the hamper is reaped. -/
theorem hamperCommands : Obligations.HamperCommands := by
  unfold Obligations.HamperCommands
  intro t c p s hstill ha
  exact ⟨fun _ _ _ _ hfull hfree hbad hpages ho hrange hdirect => hamperPost_answers ha hfull hfree hbad hpages ho hrange hdirect,
    fun _ _ hx => ⟨hamperQuery_answers ha hx, hamperCancel_answers hstill ha hx⟩⟩

end Sys2Proof.Machine
end

section
/-! A hamper entry's turn, deadline, direct window and end of hold (R300-R307). -/
namespace Sys2Proof.Machine
open Sys2Proof

/-! ### Pinning the bricks of an entry (R301) -/

/-- A brick pinned for an entry: an eviction of it stops (R295, R301). -/
def State.pinBrick (s : State) (p b : Nat) : State :=
  (if (match (s.store p).brick? b with | some B => B.evicting | none => false) then s.stopEvict p b else s).modBrick p b (fun B => { B with pin := true })

/-- The bricks of an entry pinned one after another. -/
def State.pinBricks (s : State) (p : Nat) (bs : List Nat) : State := bs.foldl (fun s b => s.pinBrick p b) s

/-- A pin changes one brick, which has its pin and its VALID bitmap as it was, and at most the tenants for whom an eviction runs. -/
theorem pinBrick_eq (s : State) (p b : Nat) : ∃ (f : Brick → Brick) (k : StoreP → List Nat), (∀ B, (f B).pin = true ∧ (f B).valid = B.valid) ∧
    s.pinBrick p b = s.modStore p (fun S => { S.modBrick b f with evictFor := k S }) := by
  unfold State.pinBrick
  by_cases he : (match (s.store p).brick? b with | some B => B.evicting | none => false) = true
  · rw [if_pos he]
    refine ⟨fun B => { B with evicting := false, evictFor := none, pin := true },
      fun S => S.evictFor.filter (fun x => some x != (match S.brick? b with | some B => B.evictFor | none => none)), fun _ => ⟨rfl, rfl⟩, ?_⟩
    simp only [State.stopEvict, State.modBrick, State.modStore_eq, State.modPart, StoreP.modBrick, aupd_aupd] <;> rfl
  · rw [if_neg he]
    exact ⟨fun B => { B with pin := true }, fun S => S.evictFor, fun _ => ⟨rfl, rfl⟩, rfl⟩

theorem pinBrick_frame (s : State) (p b : Nat) : KeepsButPart p s (s.pinBrick p b) := by
  obtain ⟨f, k, -, heq⟩ := pinBrick_eq s p b
  exact heq ▸ modStore_frame s p _

theorem pinBricks_frame (s : State) (p : Nat) (bs : List Nat) : KeepsButPart p s (s.pinBricks p bs) := .foldl (fun s b => pinBrick_frame s p b) bs s

theorem brick?_pinBrick_other (s : State) (p : Nat) {a b : Nat} (h : b ≠ a) : ((s.pinBrick p a).store p).brick? b = (s.store p).brick? b := by
  obtain ⟨f, k, -, heq⟩ := pinBrick_eq s p a
  rw [heq]
  exact store_modStore_kept (·.brick? b) s p fun S => aget_aupd_other S.bricks f h

/-- A pinned brick has its pin, and its VALID bitmap as it was. -/
theorem brick?_pinBrick_same (s : State) (p b : Nat) : ∃ f : Brick → Brick, (∀ B, (f B).pin = true ∧ (f B).valid = B.valid) ∧
    ((s.pinBrick p b).store p).brick? b = ((s.store p).brick? b).map f := by
  obtain ⟨f, k, hf, heq⟩ := pinBrick_eq s p b
  refine ⟨f, hf, ?_⟩
  rw [heq]
  unfold State.store
  rw [State.modStore_eq, part?_modPart_same]
  cases s.part? p with
  | none => rfl
  | some P => exact aget_aupd_same P.store.bricks b f

theorem valid_pinBrick (s : State) (p a b g : Nat) : ((s.pinBrick p a).store p).valid b g = (s.store p).valid b g := by
  unfold StoreP.valid
  by_cases h : b = a
  · subst h
    obtain ⟨f, hf, heq⟩ := brick?_pinBrick_same s p b
    rw [heq]
    cases (s.store p).brick? b with
    | none => rfl
    | some B => exact congrArg (fun v : BitVec 512 => v.getLsbD g) (hf B).2
  · rw [brick?_pinBrick_other s p h]

theorem valid_pinBricks (s : State) (p b g : Nat) (bs : List Nat) : ((s.pinBricks p bs).store p).valid b g = (s.store p).valid b g := by
  induction bs generalizing s with
  | nil => rfl
  | cons a bs ih => exact (ih (s.pinBrick p a)).trans (valid_pinBrick s p a b g)

theorem brick?_pinBricks_other {s : State} {p b : Nat} {bs : List Nat} (h : b ∉ bs) : ((s.pinBricks p bs).store p).brick? b = (s.store p).brick? b := by
  induction bs generalizing s with
  | nil => rfl
  | cons a bs ih =>
    have ha : b ≠ a := fun hb => h (hb ▸ List.mem_cons_self)
    exact (ih (s := s.pinBrick p a) fun hb => h (List.mem_cons_of_mem a hb)).trans (brick?_pinBrick_other s p ha)

/-- Every brick named has its pin. -/
theorem pin_pinBricks {s : State} {p b : Nat} {B : Brick} {bs : List Nat} (hb : b ∈ bs) (hB : ((s.pinBricks p bs).store p).brick? b = some B) : B.pin = true := by
  induction bs generalizing s with
  | nil => exact absurd hb List.not_mem_nil
  | cons a bs ih =>
    by_cases hmem : b ∈ bs
    · exact ih (s := s.pinBrick p a) hmem hB
    · obtain rfl : b = a := (List.mem_cons.mp hb).resolve_right hmem
      obtain ⟨f, hf, heq⟩ := brick?_pinBrick_same s p b
      have hB' : ((s.store p).brick? b).map f = some B := heq.symm.trans ((brick?_pinBricks_other (s := s.pinBrick p b) hmem).symm.trans hB)
      obtain ⟨B', -, rfl⟩ := Option.map_eq_some_iff.mp hB'
      exact (hf B').1

/-- What the brick map and the tenants of evictions have no part in, pins leave. -/
theorem store_pinBricks_kept {α : Type} (v : StoreP → α) (s : State) (p : Nat) (bs : List Nat) (hv : ∀ (S : StoreP) l ts, v { S with bricks := l, evictFor := ts } = v S) :
    v ((s.pinBricks p bs).store p) = v (s.store p) := by
  induction bs generalizing s with
  | nil => rfl
  | cons a bs ih =>
    obtain ⟨f, k, -, heq⟩ := pinBrick_eq s p a
    refine (ih (s.pinBrick p a)).trans ?_
    rw [heq]
    exact store_modStore_kept v s p fun S => hv S _ _

theorem hampers_pinBricks (s : State) (p : Nat) (bs : List Nat) : ((s.pinBricks p bs).store p).hampers = (s.store p).hampers :=
  store_pinBricks_kept (·.hampers) s p bs fun _ _ _ => rfl

/-! ### An entry's turn (R301, R303) -/

/-- An entry at its turn (R301). -/
def Entry.start (e : Entry) : Entry := { e with state := if e.state == .queued then .filling else e.state }

/-- An entry that becomes HELD, with the end of its hold (R302). -/
def Entry.hold (now : Nat) (stop : Option Nat) (e : Entry) : Entry := { e with state := .held, heldAt := now, holdEnd := stop }

/-- The only entry of a hamper starts once the tenant's allowance has room for all its bricks (R301). -/
theorem startEntry_one {s : State} {p h : Nat} {x : Hamper} {e : Entry} (hx : aget (s.store p).hampers h = some x) (he : x.entries = [e]) (hq : e.state = .queued)
    (hroom : (s.store p).pinned x.tenant + (s.entryBricks e).length ≤ s.pinLimit p x.tenant) :
    s.startEntry p h = ((s.pinBricks p (s.entryBricks e)).setEntry p h 0 Entry.start).fillEntry p h 0 := by
  have hfirst : [e].findIdx? (fun e => s.unpinned p e) = some 0 := by simp [List.findIdx?_cons, State.unpinned, hq]
  have hfits (c : Nat → Bool) : ¬ s.pinLimit p x.tenant < (s.store p).pinned x.tenant + ((s.entryBricks e).filter c).length :=
    Nat.not_lt.mpr (Nat.le_trans (Nat.add_le_add_left (List.length_filter_le c _) _) hroom)
  unfold State.startEntry
  rw [hx]
  simp only [he, hfirst, List.getElem?_cons_zero, List.take_zero, List.all_nil, Bool.not_true, Bool.false_or, hfits, decide_false, Bool.false_eq_true, if_false]
  rfl

/-- An entry with no page left to fill becomes HELD (R301, R303). -/
theorem fillEntry_of_filled {s : State} {p h i : Nat} {e : Entry} (he : (s.store p).entry? h i = some e) (hf : e.state = .filling) (hreads : (s.flash p).reads = [])
    (hnone : s.nextFill p e = none) : s.fillEntry p h i = s.holdEntry p h i e := by
  unfold State.fillEntry
  simp [he, hf, hreads, hnone]

/-- Of pages that hold no data none has to be filled (R278). -/
theorem nextFill_of_invalid {s : State} {p : Nat} {e : Entry} (h : (s.entryPages e).all (fun g => !(s.store p).valid g.1 g.2) = true) : s.nextFill p e = none := by
  refine List.find?_eq_none.mpr fun g hg => ?_
  have hv := List.all_eq_true.mp h g hg
  simp only [Bool.not_eq_true'] at hv
  simp [hv]

/-- A storage without the direct windows of an entry that have no end yet (R307). -/
def StoreP.closeOpen (S : StoreP) (h i : Nat) : StoreP := { S with direct := S.direct.filter (fun w => !(w.hamper == h && w.entry == i && w.ends.isNone)) }

theorem hampers_closeOpen (s : State) (p h i : Nat) : ((s.modStore p (·.closeOpen h i)).store p).hampers = (s.store p).hampers :=
  store_modStore_kept (·.hampers) s p fun _ => rfl

theorem brick?_closeOpen (s : State) (p h i b : Nat) : ((s.modStore p (·.closeOpen h i)).store p).brick? b = (s.store p).brick? b :=
  store_modStore_kept (·.brick? b) s p fun _ => rfl

/-- Becoming HELD changes the entry and ends its direct windows, where no command is under way (R302, R305, R307). -/
theorem holdEntry_eq {s : State} (p h i : Nat) (e : Entry) (hr : s.running = []) :
    ∃ stop, s.holdEntry p h i e = (s.setEntry p h i (Entry.hold (fab s) stop)).modStore p (·.closeOpen h i) :=
  ⟨_, promoteEnds_of_none p h .ok hr⟩

theorem entry?_of_aget {S : StoreP} {h : Nat} {x : Hamper} {e : Entry} (hx : aget S.hampers h = some x) (he : x.entries = [e]) : S.entry? h 0 = some e := by
  unfold StoreP.entry?
  rw [hx, Option.bind_some, he]
  rfl

/-- The turn of an entry with nothing to fill: its bricks are pinned, it starts, and it is HELD. -/
theorem startEntry_eq {s : State} {p h : Nat} {x : Hamper} {e : Entry} (hp : s.hasPart p = true) (hrun : s.running = []) (hx : aget (s.store p).hampers h = some x)
    (he : x.entries = [e]) (hq : e.state = .queued) (hpages : (s.entryPages e).all (fun g => !(s.store p).valid g.1 g.2) = true)
    (hroom : (s.store p).pinned x.tenant + (s.entryBricks e).length ≤ s.pinLimit p x.tenant) (hreads : (s.flash p).reads = []) :
    ∃ stop, s.startEntry p h = (((s.pinBricks p (s.entryBricks e)).setEntry p h 0 Entry.start).setEntry p h 0 (Entry.hold (fab s) stop)).modStore p (·.closeOpen h 0) := by
  have hpin := pinBricks_frame s p (s.entryBricks e)
  have hstart := setEntry_frame (s.pinBricks p (s.entryBricks e)) p h 0 Entry.start
  have hy : aget ((s.pinBricks p (s.entryBricks e)).store p).hampers h = some x := by rw [hampers_pinBricks]; exact hx
  have hentry := entry?_of_aget (aget_hampers_setEntry Entry.start (hpin.hasPart.trans hp) hy he) rfl
  have hvalid (b g : Nat) : (((s.pinBricks p (s.entryBricks e)).setEntry p h 0 Entry.start).store p).valid b g = (s.store p).valid b g :=
    (congrArg (fun o => (match o with | some B => B.valid.getLsbD g | none => false)) (brick?_setEntry _ p h 0 b _)).trans (valid_pinBricks s p b g _)
  have hnone : ((s.pinBricks p (s.entryBricks e)).setEntry p h 0 Entry.start).nextFill p e.start = none := by
    refine nextFill_of_invalid ?_
    rw [show State.entryPages _ e.start = s.entryPages e from entryPages_congr e (hpin.trans hstart).storeNv]
    simpa only [hvalid] using hpages
  have hnoreads : (((s.pinBricks p (s.entryBricks e)).setEntry p h 0 Entry.start).flash p).reads = [] := by
    refine Eq.trans ?_ ((store_pinBricks_kept (·.flash.reads) s p (s.entryBricks e) fun _ _ _ => rfl).trans hreads)
    exact store_modStore_kept (·.flash.reads) _ p fun _ => rfl
  rw [startEntry_one hx he hq hroom, fillEntry_of_filled hentry (by simp [Entry.start, hq]) hnoreads hnone, ← (hpin.trans hstart).fab]
  exact holdEntry_eq p h 0 _ ((hpin.trans hstart).running.trans hrun)

/-- After its turn the entry is HELD since now, and its bricks have their pins. -/
theorem startEntry_holds {s : State} {p h : Nat} {x : Hamper} {e : Entry} (hp : s.hasPart p = true) (hrun : s.running = []) (hx : aget (s.store p).hampers h = some x)
    (he : x.entries = [e]) (hq : e.state = .queued) (hpages : (s.entryPages e).all (fun g => !(s.store p).valid g.1 g.2) = true)
    (hroom : (s.store p).pinned x.tenant + (s.entryBricks e).length ≤ s.pinLimit p x.tenant) (hreads : (s.flash p).reads = []) :
    KeepsButPart p s (s.startEntry p h) ∧ (((s.startEntry p h).store p).entry? h 0).map (fun y => (y.state, y.heldAt)) = some (EntryState.held, fab s) ∧
      ∀ b ∈ s.entryBricks e, ∀ B, ((s.startEntry p h).store p).brick? b = some B → B.pin = true := by
  obtain ⟨stop, heff⟩ := startEntry_eq hp hrun hx he hq hpages hroom hreads
  have hpin := pinBricks_frame s p (s.entryBricks e)
  have hstart := hpin.trans (setEntry_frame _ p h 0 Entry.start)
  have hhold := hstart.trans (setEntry_frame _ p h 0 (Entry.hold (fab s) stop))
  have hpinned : aget ((s.pinBricks p (s.entryBricks e)).store p).hampers h = some x := by rw [hampers_pinBricks]; exact hx
  have hstarted := aget_hampers_setEntry Entry.start (hpin.hasPart.trans hp) hpinned he
  have hheld := aget_hampers_setEntry (Entry.hold (fab s) stop) (hstart.hasPart.trans hp) hstarted rfl
  rw [heff]
  refine ⟨hhold.trans (modStore_frame _ p _), ?_, fun b hb B hB => ?_⟩
  · rw [entry?_of_aget ((congrArg (aget · h) (hampers_closeOpen _ p h 0)).trans hheld) rfl]
    rfl
  · rw [brick?_closeOpen, brick?_setEntry, brick?_setEntry] at hB
    exact pin_pinBricks hb hB

theorem exec_hamperEntryStart {t p h : Nat} {s : State} (hlive : s.live p = true) (hserv : s.serving p = true) :
    exec (.hamperEntryStart t p h) s = run t s (fun u => u.startEntry p h) := by
  show execHamperEntryStart t p h s = _
  unfold execHamperEntryStart
  refine run_congr (if_pos ?_)
  rw [show (s.upTo t).live p = true from hlive, show (s.upTo t).serving p = true from hserv]
  rfl

/-- An entry whose turn has come, with nothing to fill, is HELD, and its bricks have their pins. -/
theorem hamperEntryStart_answers {t p h : Nat} {x : Hamper} {e : Entry} {s : State} (hrun : s.running = []) (hlive : s.live p = true) (hserv : s.serving p = true)
    (hx : aget (s.store p).hampers h = some x) (he : x.entries = [e]) (hq : e.state = .queued) (hpages : (s.entryPages e).all (fun g => !(s.store p).valid g.1 g.2) = true)
    (hroom : (s.store p).pinned x.tenant + (s.entryBricks e).length ≤ s.pinLimit p x.tenant) (hreads : (s.flash p).reads = []) :
    Answers (.hamperEntryStart t p h) s (fun u => (u.dies = s.dies ∧ u.sec = s.sec) ∧
      ((u.store p).entry? h 0).map (fun y => (y.state, y.heldAt)) = some (EntryState.held, fabAt s (decided t s)) ∧
      ∀ b ∈ s.entryBricks e, ∀ B, (u.store p).brick? b = some B → B.pin = true) := by
  obtain ⟨hframe, hheld, hpins⟩ := startEntry_holds (s := s.upTo t) (hasPart_of_live hlive) hrun hx he hq hpages hroom hreads
  exact answers_of_keepsButPart (exec_hamperEntryStart hlive hserv) hframe ⟨hheld, hpins⟩

/-! ### A deadline (R305) -/

/-- When the direct window of an entry whose deadline passes ends: with the hold that it asked for, or after a second; none while a persistent entry is LATE (R305, R307). -/
def Entry.windowEnd (e : Entry) : Option Nat :=
  if e.persistent then none else some (if e.holdMs = 0 then e.deadline + 1000000000 else e.deadline + e.holdMs * 1000000)

/-- The direct window that a deadline opens (R305). -/
def Entry.directWindow (e : Entry) (h i : Nat) : DirectWin :=
  { hamper := h, entry := i, object := e.object, first := e.first, pages := e.pages, ends := e.windowEnd, dies := [] }

/-- A deadline's window is opened before its entry changes (R305). -/
def State.openDirect (s : State) (p h i : Nat) (e : Entry) : State := s.modStore p (fun S => { S with direct := S.direct ++ [e.directWindow h i] })

theorem direct_openDirect {s : State} {p : Nat} (h i : Nat) (e : Entry) (hp : s.hasPart p = true) :
    ((s.openDirect p h i e).store p).direct = (s.store p).direct ++ [e.directWindow h i] := by
  unfold State.openDirect
  rw [store_modStore _ hp]

theorem hampers_openDirect (s : State) (p h i : Nat) (e : Entry) : ((s.openDirect p h i e).store p).hampers = (s.store p).hampers :=
  store_modStore_kept (·.hampers) s p fun _ => rfl

theorem openDirect_frame (s : State) (p h i : Nat) (e : Entry) : KeepsButPart p s (s.openDirect p h i e) := ⟨_, rfl⟩

theorem deadline_eq (s : State) (p h i : Nat) (e : Entry) : s.deadline p h i e =
    if e.persistent then (s.openDirect p h i e).setEntry p h i (fun e => { e with state := .late }) else (s.openDirect p h i e).abandon p h i := by
  have hend : (if e.persistent then none else some (if e.holdMs != 0 then e.deadline + e.holdMs * 1000000 else e.deadline + 1000000000)) = e.windowEnd := by
    unfold Entry.windowEnd
    by_cases hz : e.holdMs = 0 <;> simp [hz]
  unfold State.deadline State.openDirect Entry.directWindow
  rw [← hend]

/-- The reads of an entry that has ended belong to it no longer (R302). -/
def StoreP.forgetReads (S : StoreP) (h i : Nat) : StoreP :=
  { S with flash := { S.flash with reads := S.flash.reads.map (fun r => if r.hamper == some (h, i) then { r with hamper := none } else r) } }

theorem abandon_eq {s : State} {p h i : Nat} {e : Entry} (he : (s.store p).entry? h i = some e) (hr : s.running = []) : s.abandon p h i =
    (((((s.setEntry p h i (fun e => { e with state := .abandoned })).releasePins p (s.entryBricks e)).modStore p (·.forgetReads h i)).startEntry p h).reapHamper p h) := by
  unfold State.abandon
  rw [he]
  exact congrArg (fun v => State.reapHamper (State.startEntry v p h) p h) (promoteEnds_of_none p h .aborted hr)

theorem adel_aupd_same {κ α : Type} [DecidableEq κ] (l : List (κ × α)) (k : κ) (f : α → α) : adel (aupd l k f) k = adel l k := by
  unfold adel aupd
  induction l with
  | nil => rfl
  | cons e l ih =>
    rw [List.map_cons, List.filter_cons, List.filter_cons, ih]
    by_cases hk : e.1 = k <;> simp [hk]

/-- The only entry of a hamper after a change that ends it, with its pins released (R302, R304). -/
theorem hampers_setEntry_ended {s : State} {p h : Nat} {x : Hamper} {e : Entry} {f : Entry → Entry} {v : State} (hp : s.hasPart p = true)
    (hx : aget (s.store p).hampers h = some x) (he : x.entries = [e]) (hf : (f e).state.ended = true)
    (hk : KeepsButPart p (s.setEntry p h 0 f) v) (hv : (v.store p).hampers = ((s.setEntry p h 0 f).store p).hampers) :
    (v.startEntry p h).reapHamper p h = v.reapHamper p h ∧ ((v.reapHamper p h).store p).hampers = adel (s.store p).hampers h := by
  have hy : aget (v.store p).hampers h = some { x with entries := [f e], changed := fab s } := by rw [hv]; exact aget_hampers_setEntry f hp hx he
  have hended : [f e].all (fun e => e.state.ended) = true := by simp [hf]
  have hpv : v.hasPart p = true := (hk.hasPart.trans (setEntry_frame s p h 0 f).hasPart).trans hp
  refine ⟨by rw [startEntry_of_ended hy hended], ?_⟩
  rw [hampers_reapHamper_of_ended hpv hy hended, hv, hampers_setEntry h 0 f hp, adel_aupd_same]

/-- The only entry of a hamper abandoned: the hamper ends, and the direct windows stand (R302, R304). -/
theorem abandon_holds {s : State} {p h : Nat} {x : Hamper} {e : Entry} (hp : s.hasPart p = true) (hr : s.running = []) (hx : aget (s.store p).hampers h = some x)
    (he : x.entries = [e]) : KeepsButPart p s (s.abandon p h 0) ∧ ((s.abandon p h 0).store p).hampers = adel (s.store p).hampers h ∧
      ((s.abandon p h 0).store p).direct = (s.store p).direct := by
  have hset := setEntry_frame s p h 0 (fun e => { e with state := .abandoned })
  have hrelease := (releasePins_frame (s.setEntry p h 0 (fun e => { e with state := .abandoned })) p (s.entryBricks e)).trans (modStore_frame _ p (·.forgetReads h 0))
  have hforget {α : Type} (v : StoreP → α) (u : State) (hv : ∀ S, v (S.forgetReads h 0) = v S) := store_modStore_kept (f := (·.forgetReads h 0)) v u p hv
  obtain ⟨hstart, hgone⟩ := hampers_setEntry_ended (f := fun e => { e with state := .abandoned }) hp hx he rfl hrelease
    ((hforget (·.hampers) _ fun _ => rfl).trans (hampers_releasePins _ p _))
  rw [abandon_eq (entry?_of_aget hx he) hr, hstart]
  refine ⟨(hset.trans hrelease).trans (reapHamper_frame _ p h), hgone, ?_⟩
  rw [direct_reapHamper, hforget (·.direct) _ fun _ => rfl, direct_releasePins, direct_setEntry]

theorem lastRead_of_alone {s : State} (p : Nat) (e : Entry) (h : s.pending = []) : s.lastRead p e = false := by
  have hs (a : Awaited) : s.sooner a = false := by simp [State.sooner, h]
  unfold State.lastRead
  split
  · rfl
  · simp only [hs]
    cases List.filter _ _ <;> rfl

theorem exec_hamperDeadline {t p h i : Nat} {s : State} {e : Entry} (hserv : s.serving p = true) (hpend : s.pending = []) (he : (s.store p).entry? h i = some e)
    (hq : e.state = .queued) (hset : e.deadline ≠ 0) (hdue : e.deadline ≤ fabAt s (decided t s)) :
    exec (.hamperDeadline t p h i) s = run t s (fun u => u.deadline p h i e) := by
  show execHamperDeadline t p h i s = _
  unfold execHamperDeadline
  refine run_congr ?_
  have he' : ((s.upTo t).store p).entry? h i = some e := he
  have hdue' : e.deadline ≤ fab (s.upTo t) := hdue
  simp only [he', lastRead_of_alone (s := s.upTo t) p e hpend, show (s.upTo t).serving p = true from hserv, hq, hdue', bne_iff_ne.mpr hset]
  rfl

/-- An entry whose deadline passes: the hamper of one that is not persistent ends with it. -/
theorem hamperDeadline_answers {t p h : Nat} {x : Hamper} {e : Entry} {s : State} (hrun : s.running = []) (hlive : s.live p = true) (hserv : s.serving p = true)
    (hpend : s.pending = []) (hx : aget (s.store p).hampers h = some x) (he : x.entries = [e]) (hq : e.state = .queued) (hset : e.deadline ≠ 0)
    (hdue : e.deadline ≤ fabAt s (decided t s)) :
    Answers (.hamperDeadline t p h 0) s (fun u => (u.dies = s.dies ∧ u.sec = s.sec) ∧ (u.store p).direct = (s.store p).direct ++ [e.directWindow h 0] ∧
      (e.persistent = true → ((u.store p).entry? h 0).map (·.state) = some .late) ∧ (e.persistent = false → aget (u.store p).hampers h = none)) := by
  have hp : (s.upTo t).hasPart p = true := hasPart_of_live hlive
  have hopen := openDirect_frame (s.upTo t) p h 0 e
  have hdirect := direct_openDirect (s := s.upTo t) h 0 e hp
  have hy : aget (((s.upTo t).openDirect p h 0 e).store p).hampers h = some x := by rw [hampers_openDirect]; exact hx
  have hpo := hopen.hasPart.trans hp
  refine answers_of_keepsButPart (p := p) (exec_hamperDeadline hserv hpend (entry?_of_aget hx he) hq hset hdue) ?_ ?_ <;> rw [deadline_eq] <;> split
  next => exact hopen.trans (setEntry_frame _ p h 0 _)
  next => exact hopen.trans (abandon_holds hpo hrun hy he).1
  next hpers =>
    refine ⟨(direct_setEntry _ p h 0 _).trans hdirect, fun _ => ?_, fun hnot => absurd hpers (by simp [hnot])⟩
    rw [entry?_of_aget (aget_hampers_setEntry (fun e => { e with state := .late }) hpo hy he) rfl]
    rfl
  next hpers =>
    obtain ⟨-, hgone, hstand⟩ := abandon_holds hpo hrun hy he
    exact ⟨hstand.trans hdirect, fun hyes => absurd hyes hpers, fun _ => hgone ▸ aget_adel_same _ _⟩

/-! ### The end of a hold (R302) -/

theorem endHold_eq {s : State} {p h i : Nat} {e : Entry} (he : (s.store p).entry? h i = some e) : s.endHold p h i =
    (((s.setEntry p h i (fun e => { e with state := .done, holdEnd := none })).releasePins p (s.entryBricks e)).startEntry p h).reapHamper p h := by
  unfold State.endHold
  rw [he]
  rfl

/-- The hold of a partition's only entry over: no hamper is left, and its bricks are without pins. -/
theorem endHold_holds {s : State} {p h : Nat} {x : Hamper} {e : Entry} (hp : s.hasPart p = true) (hx : (s.store p).hampers = [(h, x)]) (he : x.entries = [e]) :
    KeepsButPart p s (s.endHold p h 0) ∧ ((s.endHold p h 0).store p).hampers = [] ∧
      ∀ b ∈ s.entryBricks e, ∀ B, ((s.endHold p h 0).store p).brick? b = some B → B.pin = false := by
  have hget : aget (s.store p).hampers h = some x := by rw [hx, aget_cons, if_pos rfl]
  have hset := setEntry_frame s p h 0 (fun e => { e with state := .done, holdEnd := none })
  have hrelease := releasePins_frame (s.setEntry p h 0 (fun e => { e with state := .done, holdEnd := none })) p (s.entryBricks e)
  obtain ⟨hstart, hgone⟩ := hampers_setEntry_ended (f := fun e => { e with state := .done, holdEnd := none }) hp hget he rfl hrelease (hampers_releasePins _ p _)
  have hunpinned : ∀ y ∈ ((s.setEntry p h 0 (fun e => { e with state := .done, holdEnd := none })).store p).hampers, y.2.entries.filter (·.pins) = [] := by
    rw [hampers_setEntry h 0 _ hp, hx]
    simp [aupd, he, modNth, Entry.pins]
  rw [endHold_eq (entry?_of_aget hget he), hstart]
  refine ⟨(hset.trans hrelease).trans (reapHamper_frame _ p h), ?_, fun b hb B hB => ?_⟩
  · rw [hgone, hx]
    simp [adel]
  · rw [brick?_reapHamper] at hB
    exact pin_releasePins (hset.hasPart.trans hp) hunpinned hb hB

theorem exec_holdEnd {t p h i n : Nat} {s : State} {e : Entry} (hpend : s.pending = []) (he : (s.store p).entry? h i = some e) (hheld : e.state = .held)
    (hend : e.holdEnd = some n) (hdue : n ≤ fabAt s (decided t s)) : exec (.holdEnd t p h i) s = run t s (fun u => u.endHold p h i) := by
  have hnone : (s.upTo t).sooner (.demote p e.object) = false := by simp [State.sooner, hpend]
  have he' : ((s.upTo t).store p).entry? h i = some e := he
  have hdue' : n ≤ fab (s.upTo t) := hdue
  show execHoldEnd t p h i s = _
  unfold execHoldEnd
  rw [timer_of_alone t s _ _ hpend]
  refine run_congr ?_
  simp only [he', hnone, hheld, hend, hdue', Bool.false_eq_true, if_false]
  rfl

theorem holdEnd_answers {t p h n : Nat} {x : Hamper} {e : Entry} {s : State} (hlive : s.live p = true) (hpend : s.pending = []) (hx : (s.store p).hampers = [(h, x)])
    (he : x.entries = [e]) (hheld : e.state = .held) (hend : e.holdEnd = some n) (hdue : n ≤ fabAt s (decided t s)) :
    Answers (.holdEnd t p h 0) s (fun u => (u.dies = s.dies ∧ u.sec = s.sec) ∧ (u.store p).hampers = [] ∧
      ∀ b ∈ s.entryBricks e, ∀ B, (u.store p).brick? b = some B → B.pin = false) := by
  have hget : aget (s.store p).hampers h = some x := by rw [hx, aget_cons, if_pos rfl]
  obtain ⟨hframe, hnone, hpins⟩ := endHold_holds (s := s.upTo t) (hasPart_of_live hlive) hx he
  exact answers_of_keepsButPart (exec_holdEnd hpend (entry?_of_aget hget he) hheld hend hdue) hframe ⟨hnone, hpins⟩

/-! ### Direct windows (R306, R307) -/

/-- A direct window as a die that records it leaves it (R306). -/
def DirectWin.record (w : DirectWin) (h i d : Nat) : DirectWin :=
  if w.hamper == h && w.entry == i && !w.dies.contains d then { w with dies := w.dies ++ [d] } else w

theorem DirectWin.mem_dies_record {w : DirectWin} {h i d : Nat} (hh : w.hamper = h) (hi : w.entry = i) : d ∈ (w.record h i d).dies := by
  unfold DirectWin.record
  by_cases hd : d ∈ w.dies <;> simp [hh, hi, hd]

theorem DirectWin.record_names (w : DirectWin) (h i d : Nat) : (w.record h i d).hamper = w.hamper ∧ (w.record h i d).entry = w.entry := by
  unfold DirectWin.record
  split <;> exact ⟨rfl, rfl⟩

theorem exec_directWindowRecord {t d p : Nat} {s : State} (h i : Nat) (hd : d ∈ s.partDies p) : exec (.directWindowRecord t d p h i) s =
    run t s (fun u => u.modStore p (fun S => { S with direct := S.direct.map (fun w => w.record h i d) })) := by
  show execDirectWindowRecord t d p h i s = _
  unfold execDirectWindowRecord
  have hd' : ((s.upTo t).partDies p).contains d = true := List.contains_iff_mem.mpr hd
  exact run_congr (if_neg (by rw [hd']; exact Bool.false_ne_true))

theorem directWindowRecord_answers {t d p : Nat} {s : State} (h i : Nat) (hlive : s.live p = true) (hd : d ∈ s.partDies p) :
    Answers (.directWindowRecord t d p h i) s (fun u => (u.dies = s.dies ∧ u.sec = s.sec) ∧ (u.store p).hampers = (s.store p).hampers ∧
      ∀ w ∈ (u.store p).direct, w.hamper = h → w.entry = i → d ∈ w.dies) := by
  have hp : (s.upTo t).hasPart p = true := hasPart_of_live hlive
  refine answers_of_keepsButPart (exec_directWindowRecord h i hd) (modStore_frame _ p _) ?_
  rw [store_modStore _ hp]
  refine ⟨rfl, fun w hw hh hi => ?_⟩
  obtain ⟨w', -, rfl⟩ := List.mem_map.mp hw
  obtain ⟨hh', hi'⟩ := w'.record_names h i d
  exact DirectWin.mem_dies_record (hh'.symm.trans hh) (hi'.symm.trans hi)

/-- Whether a direct window stands on at a fabric time, for all that an entry's close does (R307). -/
def DirectWin.outlives (w : DirectWin) (h i now : Nat) : Bool := !(w.hamper == h && w.entry == i && (match w.ends with | some e => decide (e ≤ now) | none => false))

theorem exec_directWindowClose {t p : Nat} {s : State} (h i : Nat) (hpend : s.pending = []) : exec (.directWindowClose t p h i) s =
    run t s (fun u => u.modStore p (fun S => { S with direct := S.direct.filter (fun w => w.outlives h i (fab u)) })) := by
  have hnone (a : Awaited) : (s.upTo t).sooner a = false := by simp [State.sooner, hpend]
  show execDirectWindowClose t p h i s = _
  unfold execDirectWindowClose
  rw [timer_of_alone t s _ _ hpend]
  refine run_congr ?_
  simp only [hnone, Bool.not_false, Bool.and_true]
  rfl

theorem directWindowClose_answers {t p : Nat} {s : State} (h i : Nat) (hlive : s.live p = true) (hpend : s.pending = []) :
    Answers (.directWindowClose t p h i) s (fun u => (u.dies = s.dies ∧ u.sec = s.sec) ∧ (u.store p).hampers = (s.store p).hampers ∧
      (∀ w ∈ (s.store p).direct, w.hamper ≠ h → w ∈ (u.store p).direct) ∧
      ∀ w ∈ (u.store p).direct, w.hamper = h → w.entry = i → ∀ n, w.ends = some n → fabAt s (decided t s) < n) := by
  have hp : (s.upTo t).hasPart p = true := hasPart_of_live hlive
  refine answers_of_keepsButPart (exec_directWindowClose h i hpend) (modStore_frame _ p _) ?_
  rw [store_modStore _ hp]
  refine ⟨rfl, fun w hw hne => List.mem_filter.mpr ⟨hw, by simp [DirectWin.outlives, hne]⟩, fun w hw hh hi n hn => ?_⟩
  have hlives := (List.mem_filter.mp hw).2
  simp [DirectWin.outlives, hh, hi, hn] at hlives
  exact hlives

/-- Settles O33, event by event: each changes the partition's storage alone, and of it what its rule names. -/
theorem hamperEvents : Obligations.HamperEvents := by
  unfold Obligations.HamperEvents
  intro t p h x e s hstill hlive hserv hpend hx he
  obtain ⟨-, hrun⟩ := still_iff.mp hstill
  refine ⟨fun hq hpages hroom hreads => ?_, fun hq hset hdue => ?_, fun n hheld hend hdue honly => ?_, fun d hd => ?_, ?_⟩
  · obtain ⟨u, hu, ⟨hdies, hsec⟩, hstate, hpins⟩ := hamperEntryStart_answers (t := t) hrun hlive hserv hx he hq hpages hroom hreads
    exact ⟨u, hu, hstate, hdies, hsec, hpins⟩
  · obtain ⟨u, hu, ⟨hdies, hsec⟩, hdirect, hlate, hgone⟩ := hamperDeadline_answers (t := t) hrun hlive hserv hpend hx he hq hset hdue
    exact ⟨u, hu, hdirect, hdies, hsec, hlate, hgone⟩
  · obtain ⟨u, hu, ⟨hdies, hsec⟩, hnone, hpins⟩ := holdEnd_answers hlive hpend honly he hheld hend hdue
    exact ⟨u, hu, hnone, hdies, hsec, hpins⟩
  · obtain ⟨u, hu, -, hwindows⟩ := directWindowRecord_answers (t := t) h 0 hlive hd
    exact ⟨u, hu, hwindows⟩
  · obtain ⟨u, hu, -, hwindows⟩ := directWindowClose_answers (t := t) h 0 hlive hpend
    exact ⟨u, hu, hwindows⟩

end Sys2Proof.Machine
end

section
/-! Evictions below LOW (R290, R292): a search that finds no brick of a tenant over its limit moves the hand, so that the brick evicted need not be the one that the
search for any tenant finds from where the hand stood before. -/
namespace Sys2Proof.Machine
open Sys2Proof

/-! ### What a low mark does -/

theorem store_commit (s : State) (n : Nat) (r : State) (p : Nat) : (commit s n r).store p = r.store p := rfl

theorem exec_lowMarkEviction {t p c : Nat} {s : State} {C : Course} (hC : aget (s.store p).courses c = some C) (hlive : s.live p = true) (hserv : s.serving p = true)
    (hlow : (s.store p).freeCount c < C.low) : exec (.lowMarkEviction t p c) s =
      run t s (fun u => u.evictMany p c (2 * C.low - (s.store p).freeCount c - (s.store p).evictingOn c)) := by
  show execLowMarkEviction t p c s = _
  unfold execLowMarkEviction
  refine run_congr ?_
  rw [show aget ((s.upTo t).store p).courses c = some C from hC]
  have hbelow : decide (C.low ≤ ((s.upTo t).store p).freeCount c) = false := decide_eq_false (Nat.not_le.mpr hlow)
  refine if_neg ?_
  rw [show (s.upTo t).live p = true from hlive, show (s.upTo t).serving p = true from hserv, hbelow]
  exact Bool.false_ne_true

/-- One eviction, where no tenant over its limit offers a brick: the second search starts from the hand that the first has moved (R292). -/
theorem evictMany_one_of_none {s : State} {p c v : Nat} (hnone : (s.chooseVictim p c none (s.overLimit p)).1 = none)
    (hv : ((s.chooseVictim p c none (s.overLimit p)).2.chooseVictim p c none).1 = some v) :
    s.evictMany p c 1 = ((s.chooseVictim p c none (s.overLimit p)).2.chooseVictim p c none).2.startEvict p v none := by
  unfold State.evictMany
  generalize s.chooseVictim p c none (s.overLimit p) = r at hnone hv
  obtain ⟨r, u⟩ := r
  obtain rfl : r = none := hnone
  dsimp only at hv ⊢
  generalize u.chooseVictim p c none = q at hv
  obtain ⟨q, w⟩ := q
  obtain rfl : q = some v := hv
  rfl

/-- A search moves the hand alone (R292). -/
theorem brick?_chooseVictim (s : State) (p c : Nat) (t : Option Nat) (only : Brick → Bool) (b : Nat) :
    ((s.chooseVictim p c t only).2.store p).brick? b = (s.store p).brick? b := by
  unfold State.chooseVictim
  dsimp only
  split
  · rfl
  · split <;> exact store_modStore_kept (·.brick? b) s p fun _ => rfl

/-! ### A course on which the hand's move matters -/

/-- A course of 5,000 frames, 4,871 of them metadata, whose hand stands 4,095 frames before the 65th frame of the pool: one call of choose_victim looks at the
first 65 frames of the pool and not at the 66th (R292). -/
def handCourse : Course :=
  { w := 1, d := 1, order := .spray, p := 0, dies := [0], channels := [], r := 1, h := 1, rows := 1, frames := 5000, metaFrames := 4871, inService := true, retired := [],
    hand := 840, metaMoved := [], metaDue := [] }

/-- Of 66 resident bricks in the first frames of the pool 64 are already being evicted; the last has the higher AGE of the two that are left. -/
def handBrick (i : Nat) : Brick := { newBrick 0 0 0 with res := some (0, 4871 + i), evicting := decide (i < 64), age := i - 64 }

/-- A partition in SERVE with these bricks on this course, without any tenant. -/
def handState : State :=
  { State.reset with
    pkg := .on
    parts := [(0, { Part.reset with
      mode := { ModeSt.reset with mode := .serve }
      store := { StoreP.reset with courses := [(0, handCourse)], bricks := (List.range 66).map (fun i => (i, handBrick i)) } })] }

/-- 63 frames are free, one less than LOW, and with 64 evictions under way one more makes HIGH (R290). -/
theorem handState_counts : handCourse.low = 64 ∧ (handState.store 0).freeCount 0 = 63 ∧ (handState.store 0).evictingOn 0 = 64 := by decide

/-- No tenant is over its limit, and for any tenant the hand meets brick 64 first. -/
theorem handState_victims : (handState.chooseVictim 0 0 none (handState.overLimit 0)).1 = none ∧ (handState.chooseVictim 0 0 none).1 = some 64 := by decide

/-- The fruitless search has moved the hand so that one call looks at both bricks, and finds the older. -/
theorem handState_victim_after : ((handState.upTo 0).chooseVictim 0 0 none ((handState.upTo 0).overLimit 0)).1 = none ∧
    (((handState.upTo 0).chooseVictim 0 0 none ((handState.upTo 0).overLimit 0)).2.chooseVictim 0 0 none).1 = some 65 := by decide

theorem brick?_handState : (handState.store 0).brick? 64 = some (handBrick 64) := rfl

/-- Below LOW this partition evicts brick 65, and brick 64 stands as it was. -/
theorem handState_evictMany : (((handState.upTo 0).evictMany 0 0 1).store 0).brick? 64 = some (handBrick 64) := by
  rw [evictMany_one_of_none handState_victim_after.1 handState_victim_after.2]
  refine (brick?_modBrick_other _ 0 _ (by decide)).trans ?_
  rw [brick?_chooseVictim, brick?_chooseVictim]
  exact brick?_handState

/-- Refutes O39: its second clause lets `v` be the brick that the search for any tenant finds from the hand's place in `s`, but below LOW that search follows the one for
tenants over their limit, which moves the hand when it finds none (R292). On `handState` the one brick evicted is 65, and `v` is 64. -/
theorem not_evictionsAndWriteBacks : ¬ Obligations.EvictionsAndWriteBacks := by
  unfold Obligations.EvictionsAndWriteBacks
  intro h
  obtain ⟨hlow, hfree, hevicting⟩ := handState_counts
  have hbelow : (handState.store 0).freeCount 0 < handCourse.low := by rw [hlow, hfree]; decide
  have hmore : (handState.store 0).evictingOn 0 < 2 * handCourse.low - (handState.store 0).freeCount 0 := by rw [hlow, hfree, hevicting]; decide
  obtain ⟨-, hmark, -⟩ := h 0 0 0 0 handState
  obtain ⟨u, hu, -, hv, -⟩ := hmark handCourse 64 rfl rfl rfl hbelow hmore (.inr handState_victims)
  have hone : 2 * handCourse.low - (handState.store 0).freeCount 0 - (handState.store 0).evictingOn 0 = 1 := by rw [hlow, hfree, hevicting]
  rw [exec_lowMarkEviction (C := handCourse) rfl rfl rfl hbelow, hone, run_eq] at hu
  injection hu with hu
  have hkept : (u.store 0).brick? 64 = some (handBrick 64) := by rw [← hu, store_commit, handState_evictMany]
  rw [hkept] at hv
  simp [handBrick] at hv

end Sys2Proof.Machine
end
